-- ==== Sys2Proof/Word.lean ====
section
/-! DEFINITION. The words of the PK3200 block: bytes, byte strings and the register widths (R5, R6 of
00_scope.md). -/
namespace Sys2Proof

/-- One byte. -/
abbrev Byte := BitVec 8
/-- A byte string: a payload, a blob, a frame, in the order of its offsets. -/
abbrev Bytes := List Byte
/-- A 16-bit register or field. -/
abbrev W16 := BitVec 16
/-- A 32-bit register. -/
abbrev W32 := BitVec 32
/-- A 64-bit register: TOD in ns, and the hardware statistics counters, which are 64-bit and never clear on
read (00_scope.md, Table forms). -/
abbrev W64 := BitVec 64

end Sys2Proof
end

