-- ==== Sys2Proof/Operand.lean ====
section
/-! DEFINITION. The operand forms of the commands: what the outside world (a link partner, a pack member, host
memory, a sensor, the debug port) supplies with a row of the table. -/
namespace Sys2Proof

/-- Why a link went down (R40): signal or lock lost on some lanes, alignment lost, or Local Fault received. -/
inductive LinkLoss where
  /-- The mask of the lanes that lost signal or lock. -/
  | lock (lanes : Nat)
  | alignment
  | localFault
  deriving DecidableEq, Repr

/-- What the receive MAC found at a frame's last byte (Table 2-8). -/
structure RxCheck where
  /-- PCS error code, uncorrectable FEC codeword in the frame, or link lost during it. -/
  error : Bool
  /-- The received FCS is the complement of the correct one. -/
  stomped : Bool
  /-- The received FCS is wrong. -/
  fcsBad : Bool
  /-- The 802.3br fragments of a MAC Control frame failed their checks. -/
  mergeBad : Bool
  deriving DecidableEq, Repr

/-- What the FEC decoder of the ingress port has found since its last report (Table 2-10, Table 2-11). -/
structure FecReport where
  /-- Codewords corrected. -/
  corr : Nat
  /-- Codewords not correctable. -/
  uncorr : Nat
  /-- Symbol errors, by lane of the port. -/
  symbols : List Nat
  /-- The 802.3br fragments of the frame failed their checks (R39). -/
  mergeBad : Bool
  deriving DecidableEq, Repr

/-- How the CP injects a frame (R44, R249). -/
structure InjectOpts where
  /-- Marked EXPRESS_PTP. -/
  express : Bool
  /-- Marked ORIGIN (one-step). -/
  origin : Bool
  /-- A transmit capture is requested. -/
  capture : Bool
  deriving DecidableEq, Repr

/-- What the device's DMA read of host memory returned (R300). -/
inductive DmaRead where
  | data (bytes : Bytes)
  /-- Unsupported Request or Completer Abort. -/
  | aborted
  /-- Poisoned completion or ECRC error. -/
  | poisoned
  | timeout
  /-- The DMA engine writes what it read to this range of the CP address map first (R311). -/
  | via (addr size : Nat) (rest : DmaRead)
  /-- The DMA engine reads what it sends to the host from this range of the CP address map (R311). -/
  | out (addr size : Nat) (rest : DmaRead)
  deriving DecidableEq, Repr

/-- What a fetch read from LPDDR5X (R171, Table 7-7). -/
structure FetchMemory where
  /-- Uncorrectable ECC error in the blob or the table line. -/
  ecc : Bool
  /-- The 64 bytes of the generation-table line that memory returned; none: as they are stored. -/
  line : Option Bytes
  /-- The 96 bytes of the blob that memory returned; none: as they are stored. -/
  blob : Option Bytes
  deriving DecidableEq, Repr

/-- What the key manager loads into the staging registers before a WRAP (R175). -/
inductive StgSource where
  /-- What a CP write, KEY_LOAD or KEY_GENERATE left there. -/
  | staged
  /-- A SAK that MKA distributes, wrapped under the key-encrypting key of the CAK in a symmetric slot. -/
  | mka (slot : Nat) (wrapped : Bytes)
  /-- The result of an agreement, in a symmetric slot. -/
  | pke (slot : Nat)
  deriving DecidableEq, Repr

/-- The header of a received pack frame and its ICV (R260, R261, Table 11-1); the type is the command's. -/
structure PackHeader where
  etherType : Nat
  version : Nat
  packId : Nat
  source : Nat
  dest : Nat
  sequence : Nat
  keyNumber : Nat
  /-- The 16 bytes before the FCS. -/
  icv : Bytes
  deriving DecidableEq, Repr

/-- One fragment of a JOIN_REQ (else a JOIN_ACCEPT) (R265). -/
structure Fragment where
  request : Bool
  exchange : Nat
  index : Nat
  count : Nat
  total : Nat
  data : Bytes
  deriving DecidableEq, Repr

/-- A directory entry (R270, Table 11-4). -/
structure DirEntry where
  /-- 1 SCI, 2 SSCI. -/
  typ : Nat
  owner : Nat
  ssci : Nat
  sci : Nat
  sch : Nat
  sah : Nat
  deriving DecidableEq, Repr

/-- Epoch parameters (R273). -/
structure EpochParams where
  number : Nat
  ts : W64
  tp : W64
  overlap : Nat
  /-- The participants' bitmap, bit i member i. -/
  members : Nat
  deriving DecidableEq, Repr

/-- What the lead copies to its deputy (R268). -/
inductive CopyItem where
  | vote (epoch member : Nat) (ready : Bool)
  | grant (entry : DirEntry)
  | decision (epoch : Nat) (commit : Bool)
  deriving DecidableEq, Repr

/-- The causes of R284 (Table 12-16). -/
inductive HifResetCause where
  | flr | hot | perst
  deriving DecidableEq, Repr

/-- Access kinds of the MPU (13_protection.md). -/
inductive AccessKind where
  | read | write | execute
  deriving DecidableEq, Repr

/-- The sampled items of the tamper monitors (15_tamper.md). -/
inductive TamperItem where
  /-- One sampled item of an alarm: the alarm's number and the item's index within it. -/
  | item (alarm index : Nat)
  deriving DecidableEq, Repr

/-- Register address spaces: host BAR0; the CP address map, by the CP's privilege and the task that runs; the Message
Control word of the MSI-X capability, in the upper half of the value. -/
inductive RegSpace where
  | bar0
  /-- A BAR0 write of these bytes, 1 to 128 of them; the 32-bit value is not used (R286). -/
  | bar0Data (data : Bytes)
  | cp (privileged : Bool) (task : Nat)
  | msix
  deriving DecidableEq, Repr

end Sys2Proof
end

