-- ==== Sys2Proof/Syntax.lean ====
section
/-! DEFINITION. The commands of the block: one constructor per row of spec/opcode_table.json, in its order, with the
operands of the row: an FCP command names the mailbox it executes from (and what its DMA read returned); an event names
what the outside world supplies. -/
namespace Sys2Proof

/-- The commands. -/
inductive Instr where
  | devProfileSet (mb : Nat)
  | devProfileGet (mb : Nat)
  | portConfigSet (mb : Nat)
  | portConfigGet (mb : Nat)
  | portAdminSet (mb : Nat)
  | portStatusGet (mb : Nat)
  | portStatsGet (mb : Nat)
  | linkUp (port : Nat)
  | linkDown (port : Nat) (cause : LinkLoss)
  | linkRemoteFault (port : Nat)
  | rfaultClear (port : Nat)
  | preemptVerification (port : Nat) (ok : Bool)
  | frameReceive (id port : Nat) (header : Bytes) (early : Option Nat) (fec : FecReport)
  | macControlFrame (port : Nat) (data : Bytes) (check : RxCheck)
  | frameLastByte (id : Nat) (data : Bytes) (check : RxCheck)
  | cpInject (id port tc : Nat) (sch : Option Nat) (data : Bytes) (opts : InjectOpts)
  | tblDtSet (mb : Nat)
  | tblPtSet (mb : Nat) (dma : DmaRead)
  | tblInsert (mb : Nat) (dma : DmaRead)
  | tblModify (mb : Nat) (dma : DmaRead)
  | tblDelete (mb : Nat) (dma : DmaRead)
  | tblRead (mb : Nat)
  | tblLearnSet (mb : Nat)
  | tblFlush (mb : Nat)
  | flushSweepDone (side : Nat)
  | tblStatsGet (mb : Nat)
  | dtWrite (side : Nat) (stage : Bool)
  | dtRead (side : Nat)
  | xtInsert (side : Nat) (stage : Bool)
  | xtModify (side : Nat) (stage : Bool)
  | xtDelete (side : Nat) (stage : Bool)
  | xtRead (side : Nat)
  | ptWrite (side : Nat) (stage : Bool)
  | ptRead (side : Nat)
  | xtRemovePort (side : Nat)
  | tcuStage (side op : Nat)
  | tcuCommit (side : Nat)
  | tcuAbort (side : Nat)
  | tcuOpDone (side : Nat)
  | stageDrainDone (side : Nat)
  | learnInsert (side : Nat)
  | stashRehome (side : Nat)
  | ageTick (side : Nat)
  | learnFifoDrain (side : Nat)
  | scCreate (mb : Nat)
  | scModify (mb : Nat)
  | scDelete (mb : Nat)
  | scGet (mb : Nat)
  | saInstall (mb : Nat) (dma : DmaRead) (bad : List Nat)
  | saArm (mb : Nat)
  | saSwitch (mb : Nat)
  | saModify (mb : Nat)
  | saRetire (mb : Nat) (dma : DmaRead)
  | saGet (mb : Nat)
  | saStatsGet (mb : Nat) (dma : DmaRead)
  | scStatsGet (mb : Nat)
  | scPortStatsGet (mb : Nat)
  | rxSaRetireTime (sah : Nat)
  | slotDrained (slot : Nat)
  | drainTimeout (slot : Nat)
  | spillSweep
  | scPairSet (mb : Nat)
  | scPairGet (mb : Nat)
  | scPairStatsGet (mb : Nat)
  | sliceAssign (group : Nat) (pair : Bool)
  | icvVerification (id : Nat)
  | reorderRelease (id : Nat)
  | sliceFault (unit cause : Nat)
  | unitResetEnd (unit : Nat)
  | devSliceStatsGet (mb : Nat)
  | devSliceRestore (mb : Nat)
  | entropyHealthFail
  | serviceResume
  | maskReseed (unit : Nat)
  | hotsetDecay
  | prerollRefill
  | fetchIssue (side : Nat)
  | fetchComplete (side sah : Nat) (mem : FetchMemory)
  | muzzle
  | muzzleDone
  | kmStgKeyWrite (index : Nat) (value : W32)
  | kmWrap (replace : Bool) (source : StgSource)
  | kmClear
  | stagingTimeout
  | keyLoad (mb : Nat)
  | keyGenerate (mb : Nat)
  | blobExport (mb : Nat) (reads : List (Nat × Nat))
  | blobImport (mb : Nat) (dma : DmaRead)
  | keyEvict (mb : Nat) (dma : DmaRead)
  | keyPinSet (mb : Nat) (ecc : Bool)
  | keyLineageCreate (mb : Nat)
  | keyLineageInvalidate (mb : Nat)
  | keyLineageGet (mb : Nat)
  | keyKwbSet (mb : Nat)
  | keyStatsGet (mb : Nat)
  | keyStateSave (mb : Nat) (reads : List (Nat × Nat))
  | keyStateRestore (mb : Nat) (dma : DmaRead)
  | blobForwardSeal (mb : Nat) (reads : List (Nat × Nat))
  | blobForwardOpen (mb : Nat) (dma : DmaRead)
  | pkeAgree (mb : Nat)
  | pkeSlotErase (mb : Nat)
  | pkeContextExpiry (context : Nat)
  | tmAdmission (id : Nat) (lapses : Bool)
  | tmSelect (port : Nat)
  | tmFrameDeparted (port : Nat)
  | shaperRefill
  | tmRoomCheck
  | pauseFrameSend (port : Nat)
  | pauseRepeat (port : Nat)
  | pauseHaltExpiry (port tc : Nat)
  | fLastExpiry (side queue : Nat)
  | tmXoffStuck (port : Nat)
  | expressHeadCheck (id : Nat)
  | expressSlotStart (id : Nat)
  | tmPortSet (mb : Nat)
  | tmPortGet (mb : Nat)
  | tmQueueSet (mb : Nat) (dma : DmaRead)
  | tmQueueGet (mb : Nat)
  | tmShaperSet (mb : Nat) (dma : DmaRead)
  | tmShaperGet (mb : Nat)
  | tmStatsGet (mb : Nat)
  | tmQueueStatsGet (mb : Nat) (dma : DmaRead)
  | policerRefill
  | polSet (mb : Nat) (dma : DmaRead)
  | polGet (mb : Nat)
  | polStatsGet (mb : Nat) (dma : DmaRead)
  | gclSet (mb : Nat) (dma : DmaRead)
  | gclGet (mb : Nat) (reads : List (Nat × Nat))
  | gclStatusGet (mb : Nat)
  | gateEntryAdvance (port : Nat)
  | gclChangeTime (port : Nat)
  | todGet (mb : Nat)
  | todSet (mb : Nat)
  | todAdjust (mb : Nat)
  | todFreqSet (mb : Nat)
  | todPpsSet (mb : Nat)
  | ptpPortSet (mb : Nat)
  | ptpPortGet (mb : Nat)
  | ptpClockSet (mb : Nat)
  | ptpStatusGet (mb : Nat)
  | ptpStatsGet (mb : Nat)
  | todStep (atPps : Bool)
  | todLoad (atPps : Bool)
  | todSlew
  | todSlewAbort
  | slewComplete
  | todIncApply (value : W32)
  | todFracRead
  | ppsInEdge (falling : Bool)
  | ppsInLost
  | todSetPpsTimeout
  | ppsOutEdge
  | ppsOutFall
  | ref10mWindow (count : Nat)
  | servoSample (offset : Int) (pathDelay : Int) (parent : Bytes)
  | servoSourceLost (cause : Nat)
  | holdoverLimit
  | packCreate (mb : Nat)
  | packJoin (mb : Nat)
  | packLeave (mb : Nat)
  | packExpel (mb : Nat)
  | packPolicySet (mb : Nat)
  | packStatusGet (mb : Nat)
  | packDirGet (mb : Nat) (reads : List (Nat × Nat))
  | packStatsGet (mb : Nat)
  | epochPrepare (mb : Nat)
  | epochEnlist (mb : Nat) (dma : DmaRead)
  | epochAbort (mb : Nat)
  | epochStatusGet (mb : Nat)
  | packFragment (hdr : PackHeader) (frag : Fragment)
  | packReassemblyTimeout (source exchange : Nat)
  | hello (hdr : PackHeader) (claimsLead eligible : Bool) (version view heard : Nat)
  | joinReq (source exchange : Nat)
  | joinAccept (source exchange : Nat) (dir : List DirEntry)
  | joinRefuse (hdr : PackHeader) (code : Nat)
  | packJoinTimeout
  | leave (hdr : PackHeader)
  | keyRotate (hdr : PackHeader) (keyNumber cause : Nat) (wrapped : Bytes)
  | packKeySwitch
  | packOldKeyExpiry
  | helloTimer
  | memberUnheard (member : Nat)
  | memberDepart (member : Nat)
  | leadTimeout
  | packSyncTimer
  | packDelayReqTimer
  | sync (hdr : PackHeader)
  | followUp (hdr : PackHeader) (sequence : Nat) (tod : W64) (frac : W32)
  | delayReq (hdr : PackHeader)
  | delayResp (hdr : PackHeader) (sequence : Nat) (tod : W64) (frac : W32)
  | dirClaim (hdr : PackHeader) (entry : DirEntry)
  | dirGrant (hdr : PackHeader) (entry : DirEntry) (version : Nat)
  | dirDeny (hdr : PackHeader) (entry : DirEntry)
  | dirUpdate (hdr : PackHeader) (entry : DirEntry) (add : Bool) (version : Nat)
  | dirRelease (hdr : PackHeader) (entry : DirEntry)
  | epochPrep (hdr : PackHeader) (params : EpochParams)
  | epochVote (hdr : PackHeader) (epoch : Nat) (ready : Bool)
  | stateCopy (hdr : PackHeader) (copy : CopyItem)
  | epochDecide (hdr : PackHeader) (epoch : Nat) (commit : Bool) (cause : Nat)
  | epochAck (hdr : PackHeader) (epoch : Nat)
  | epochDecideResend (epoch : Nat)
  | epochTpReached (epoch : Nat)
  | epochInDoubt (epoch : Nat)
  | epochTsReached (epoch : Nat)
  | epochOverlapEnd (epoch : Nat)
  | mbRing (mb : Nat)
  | mbAbort (mb : Nat)
  | mbRelease (mb : Nat)
  | mbRequestWrite (mb offset : Nat) (data : Bytes)
  | mbTake (meter busMaster : Bool) (claimKey : Bytes)
  | mbWatchdog (mb : Nat)
  | hifReset (cause : HifResetCause)
  | bar0BoundaryFault (addr size : Nat) (write : Bool)
  | counterLoRead (addr size : Nat)
  | nqEnableWrite (value : W32)
  | nqHeadWrite (value : W32)
  | nqBacklogPost
  | nqCoalesceTimer
  | nonceExpiry (session : Nat)
  | authLockoutEnd (meter : Bool)
  | smbusRead (target code : Nat) (pec : Bool)
  | smbusWrite (target code : Nat)
  | smbusSclTimeout
  | smbusRefresh (power uptime : Nat)
  | devInfoGet (mb : Nat)
  | devSessionOpen (mb : Nat)
  | devSessionClose (mb : Nat)
  | devNonceGet (mb : Nat)
  | dapAccess (write : Bool) (addr size : Nat) (data : Bytes)
  | dapHalt
  | dapStep
  | dapResume
  | mpuFault (access : AccessKind) (privileged : Bool) (addr size task : Nat)
  | fwlClose
  | mpuLock (value : W32)
  | debugLevelGranted
  | porLAssert
  | porLRelease
  | sysRstLAssert
  | sysRstLRelease
  | coreReset
  | measExtend (index : Nat)
  | measLockLow
  | lcStateGet (mb : Nat)
  | lcStateSet (mb : Nat) (dma : DmaRead)
  | lcTransitionCommit
  | lcDebugUnlock (mb : Nat)
  | idCertGet (mb : Nat) (reads : List (Nat × Nat))
  | idCsrGet (mb : Nat) (reads : List (Nat × Nat))
  | idCertSet (mb : Nat) (dma : DmaRead)
  | idQuoteGet (mb : Nat)
  | fwImageStage (mb : Nat) (dma : DmaRead)
  | fwStageWriteDone (flashOk : Bool)
  | fwImageActivate (mb : Nat) (cut : Option (Nat × BitVec 4))
  | fwStageAbort (mb : Nat)
  | fwStatusGet (mb : Nat)
  | alarmDetected (alarm : Nat) (param : W64)
  | tamperSample (item : TamperItem) (fails : Bool) (reading : Nat)
  | shadowMismatch (group index : Nat) (otpStill : Bool)
  | powerToBattery
  | powerFromBattery
  | aonPowerLoss
  | secLockSet
  | secLatchedClear (mask : W32)
  | tmpStatusGet (mb : Nat)
  | tmpConfigGet (mb : Nat)
  | tmpConfigSet (mb : Nat)
  | tmpConfigLock (mb : Nat)
  | tmpAlarmClear (mb : Nat)
  | evdStatusGet (mb : Nat)
  | evdLogExport (mb : Nat) (reads : List (Nat × Nat))
  | evrEventArrival (firmware : Bool)
  | evrSummaryTick
  | evrTokenRefill (code : Nat)
  | evrForward
  | evrCursorAdvance (cursor count : Nat)
  | evrConfigSet (mb : Nat)
  | evrStatusGet (mb : Nat)
  | evrRateSet (mb : Nat) (dma : DmaRead)
  | evrCursorSet (mb : Nat)
  | crdStart
  | crdSweepComplete
  | pmcValueWrite (block n : Nat) (value : W32) (wraps : Bool)
  | thresholdWindow (slot : Nat)
  | ageingMeasure (monitor : Nat) (value : Int)
  | eyeMeasure (lane millivolt : Nat)
  | stressTick
  | healthDailySample
  | cntConfigSet (mb : Nat) (dma : DmaRead)
  | cntConfigGet (mb : Nat)
  | cntSweepGet (mb : Nat) (dma : DmaRead)
  | cntThresholdSet (mb : Nat)
  | hltReportGet (mb : Nat)
  | hltMonitorGet (mb : Nat)
  | meterPowerUp (checksOk : Bool)
  | meterPowerLoss
  | meterSweep (port dir index : Nat)
  | mtrStatusGet (mb : Nat)
  | mtrChannelGet (mb : Nat)
  | mtrStatementGet (mb : Nat)
  | mtrStatementLatch
  | mtrCertGet (mb : Nat)
  | mtrBindingSet (mb : Nat)
  | mtrBankFinalSweep
  | mtrBindingGet (mb : Nat)
  | registerWrite (space : RegSpace) (addr : Nat) (value : W32)
  | factoryProvisioning (target : Nat)
  | alarmConditionEnded (alarm : Nat)
  | aonPowerUp
  | controlPathReceive (linkDelay : Option Int)
  | timestampFifoDrain (id : Nat)
  | wrapCompleted
  | measExtendComplete
  | deputyAcknowledgement (hdr : PackHeader) (copy : CopyItem)
  | voteAcknowledgement (hdr : PackHeader) (epoch : Nat)
  | pmcWrap (block n : Nat)
  | clockGatingIdleExpiry (unit : Nat)
  deriving DecidableEq, Repr

end Sys2Proof
end

