-- ==== Sys2Proof/Machine/Bytes.lean ====
section
/-! DEFINITION. Byte-order helpers: little-endian fields of FCP structures, blobs and registers, and network
order on the wire (R7 of 00_scope.md). -/
namespace Sys2Proof.Machine

/-- `n` bytes of `v`, least significant first (R7). -/
def le : Nat → Nat → Bytes
  | 0, _ => []
  | n + 1, v => BitVec.ofNat 8 v :: le n (v / 256)

/-- The number a little-endian byte string spells (R7). -/
def leNat : Bytes → Nat
  | [] => 0
  | b :: t => b.toNat + 256 * leNat t

/-- `n` bytes of `v`, most significant first (R7). -/
def be (n v : Nat) : Bytes := (le n v).reverse

/-- The number a network-order byte string spells (R7). -/
def beNat (bs : Bytes) : Nat := leNat bs.reverse

/-- `n` little-endian bytes of a signed number, in two's complement. -/
def leInt (n : Nat) (i : Int) : Bytes := le n (i % (2 ^ (8 * n) : Nat)).toNat

/-- The signed number an `n`-byte two's complement pattern `v` stands for. -/
def signed (n v : Nat) : Int := if v < 2 ^ (8 * n - 1) then (v : Int) else (v : Int) - (2 ^ (8 * n) : Nat)

/-- Bytes `off` to `off + n - 1`, as far as the string goes. -/
def sub (bs : Bytes) (off n : Nat) : Bytes := (bs.drop off).take n

/-- The byte at an offset, 0 beyond the end. -/
def u8 (bs : Bytes) (off : Nat) : Nat := (bs.getD off 0).toNat
/-- The 16-bit little-endian field at an offset. -/
def u16 (bs : Bytes) (off : Nat) : Nat := u8 bs off + 256 * u8 bs (off + 1)
/-- The 32-bit little-endian field at an offset. -/
def u32 (bs : Bytes) (off : Nat) : Nat := u16 bs off + 65536 * u16 bs (off + 2)
/-- The 64-bit little-endian field at an offset. -/
def u64 (bs : Bytes) (off : Nat) : Nat := u32 bs off + 4294967296 * u32 bs (off + 4)
/-- The signed 32-bit field at an offset. -/
def s32 (bs : Bytes) (off : Nat) : Int := signed 4 (u32 bs off)
/-- The signed 64-bit field at an offset. -/
def s64 (bs : Bytes) (off : Nat) : Int := signed 8 (u64 bs off)

/-- `n` zero bytes. -/
def zb (n : Nat) : Bytes := List.replicate n 0

/-- The `n` bytes at `off` are all zero (reserved fields, R11). -/
def zeros (bs : Bytes) (off n : Nat) : Bool := (sub bs off n).all (· == 0)

/-- The byte string cut or zero-padded to exactly `n` bytes. -/
def pad (n : Nat) (bs : Bytes) : Bytes := (bs ++ zb n).take n

/-- One byte for a flag. -/
def bit8 (b : Bool) : Bytes := [if b then 1 else 0]

/-- 1 for true, 0 for false. -/
def b2n (b : Bool) : Nat := if b then 1 else 0

/-- A bit mask of a list of flags, the first flag in bit 0. -/
def mask : List Bool → Nat
  | [] => 0
  | b :: t => b2n b + 2 * mask t

/-- The ASCII bytes of a string. -/
def ascii (t : String) : Bytes := t.toList.map (fun c => BitVec.ofNat 8 c.toNat)

/-- A 64-bit word as 8 little-endian bytes. -/
def le64 (v : W64) : Bytes := le 8 v.toNat

/-- The bytes in pieces of `n`, as many as are wanted. -/
def pieces (n : Nat) : Nat → Bytes → List Bytes
  | 0, _ => []
  | k + 1, bs => bs.take n :: pieces n k (bs.drop n)

/-- TOD comparison: `a` is at or after `b` when the 64-bit difference, taken as signed, is not negative (R236).
Rows whose due time the state holds wait for it so (log entry 63). -/
def reached (a b : W64) : Bool := !(a - b).msb

end Sys2Proof.Machine
end

