-- ==== Sys2Proof/Machine/Aes.lean ====
section
/-! DEFINITION. The ciphers the spec takes from their standards: AES-128 and AES-256 (FIPS 197) in counter mode, GCM
(SP 800-38D; Table 4-1), CMAC-AES-256 (SP 800-38B; R157, R164) and AES-256-GCM-SIV (RFC 8452; R162, R166). The S-box
stands as one number, byte i at bits 8i. DEDUCED: log entry 70. -/
namespace Sys2Proof.Machine

/-- Bytewise exclusive or, as long as the first string. -/
def xorBytes : Bytes → Bytes → Bytes
  | [], _ => []
  | a :: s, [] => a :: s
  | a :: s, b :: t => (a ^^^ b) :: xorBytes s t

/-- Two Boolean shares, whose exclusive or is the value (R122). -/
structure Shares where
  a : Bytes
  b : Bytes
  deriving DecidableEq, Repr

/-- No value held. -/
def Shares.none : Shares := ⟨[], []⟩
/-- The value. No register holds it. -/
def Shares.value (x : Shares) : Bytes := xorBytes x.b x.a

/-- A value split under a mask. -/
def Shares.split (mask v : Bytes) : Shares := ⟨pad v.length mask, xorBytes v (pad v.length mask)⟩

/-- The S-box of FIPS 197. -/
def sboxTable : Nat := 0x16bb54b00f2d99416842e6bf0d89a18cdf2855cee9871e9b948ed9691198f8e19e1dc186b95735610ef6034866b53e708a8bbd4b1f74dde8c6b4a61c2e2578ba08ae7a65eaf4566ca94ed58d6d37c8e779e4959162acd3c25c2406490a3a32e0db0b5ede14b8ee4688902a22dc4f816073195d643d7ea7c41744975fec130ccdd2f3ff1021dab6bcf5389d928f40a351a89f3c507f02f94585334d43fbaaefd0cf584c4a39becb6a5bb1fc20ed00d153842fe329b3d63b52a05a6e1b1a2c830975b227ebe28012079a059618c323c7041531d871f1e5a534ccf73f362693fdb7c072a49cafa2d4adf04759fa7dc982ca76abd7fe2b670130c56f6bf27b777c63
/-- SubBytes of one byte. -/
def sbox (b : Byte) : Byte := BitVec.ofNat 8 (sboxTable >>> (8 * b.toNat))
/-- Multiplication by x in the field of FIPS 197. -/
def xtime (b : Byte) : Byte := if b.msb then (b <<< 1) ^^^ 0x1B else b <<< 1

/-- The words of the key schedule, newest first, `n` more of them; `nk` is the key's words. -/
def keyGrow (nk : Nat) : Nat → Byte → List Bytes → List Bytes
  | 0, _, ws => ws
  | n + 1, rc, ws =>
    let t := ws.headD []
    let first := ws.length % nk == 0
    let u := if first then xorBytes ((t.drop 1 ++ t.take 1).map sbox) [rc, 0, 0, 0]
      else if nk == 8 && ws.length % nk == 4 then t.map sbox else t
    keyGrow nk n (if first then xtime rc else rc) (xorBytes (ws.getD (nk - 1) []) u :: ws)

/-- The round keys of a 16-byte or 32-byte key: 11 or 15 blocks. -/
def roundKeys (key : Bytes) : List Bytes :=
  let nk := key.length / 4
  pieces 16 (nk + 7) (keyGrow nk (4 * (nk + 7) - nk) 1 (pieces 4 nk key).reverse).reverse.flatten

/-- ShiftRows. -/
def shiftRows (b : Bytes) : Bytes := [0, 5, 10, 15, 4, 9, 14, 3, 8, 13, 2, 7, 12, 1, 6, 11].map (fun i => b.getD i 0)

/-- MixColumns of one column. -/
def mixColumn (c : Bytes) : Bytes :=
  let all := c.foldl (· ^^^ ·) 0
  (List.range 4).map (fun i => c.getD i 0 ^^^ all ^^^ xtime (c.getD i 0 ^^^ c.getD ((i + 1) % 4) 0))

/-- The rounds after the first key addition. -/
def aesRounds : List Bytes → Bytes → Bytes
  | [], b => b
  | [k], b => xorBytes (shiftRows (b.map sbox)) k
  | k :: ks, b => aesRounds ks (xorBytes ((pieces 4 4 (shiftRows (b.map sbox))).flatMap mixColumn) k)

/-- One block under round keys. -/
def aesRk (rks : List Bytes) (b : Bytes) : Bytes := aesRounds rks.tail (xorBytes b (rks.headD []))
/-- One block under a key. -/
def aes (key b : Bytes) : Bytes := aesRk (roundKeys key) b

/-- `n` successive keystream blocks: the block of each counter value from `i`. -/
def ctrBlocks (rks : List Bytes) (block : Nat → Bytes) : Nat → Nat → Bytes
  | 0, _ => []
  | n + 1, i => aesRk rks (block i) ++ ctrBlocks rks block n (i + 1)

/-- The GCM counter block of an IV (SP 800-38D, 96-bit IV). -/
def gcmBlock (iv : Bytes) (i : Nat) : Bytes := pad 12 iv ++ be 4 i

/-- The GCM keystream of the data: `n` bytes, from counter 2, under round keys. -/
@[irreducible] def gcmStream (rks : List Bytes) (iv : Bytes) (n : Nat) : Bytes :=
  pad n (ctrBlocks rks (gcmBlock iv) ((n + 15) / 16) 2)

/-- `n` bytes of a mask generator's output from its 64-bit word `pos` on: AES-256 of a 128-bit counter (R124; DESIGN
CHOICE: log entry 120). -/
@[irreducible] def maskBytes (key : BitVec 256) (pos n : Nat) : Bytes :=
  pad n ((ctrBlocks (roundKeys (le 32 key.toNat)) (be 16) ((n + 31) / 16) (pos / 2)).drop (8 * (pos % 2)))

/-- The continuous test on the next words of a mask generator's output: two successive 64-bit words are the same (R124). -/
@[irreducible] def maskRepeats (key : BitVec 256) (pos words : Nat) : Bool :=
  let back := Nat.min pos 1
  let ws := pieces 8 (words + back) (maskBytes key (pos - back) (8 * (words + back)))
  (ws.zip ws.tail).any (fun w => w.1 == w.2)

/-- One step of multiplication by x in GCM's bit order. -/
def ghashHalf (v : BitVec 128) : BitVec 128 := if v.getLsbD 0 then (v >>> 1) ^^^ (0xE1#128 <<< 120) else v >>> 1

/-- The product in GCM's field: bits `127 - n` and after of `x` times `v`. -/
def ghashMulN : Nat → BitVec 128 → BitVec 128 → BitVec 128 → BitVec 128
  | 0, _, _, z => z
  | n + 1, x, v, z => ghashMulN n (x <<< 1) (ghashHalf v) (if x.msb then z ^^^ v else z)
/-- The product in GCM's field. -/
def ghashMul (x h : BitVec 128) : BitVec 128 := ghashMulN 128 x h 0

/-- A 16-byte block as a field element. -/
def block128 (b : Bytes) : BitVec 128 := BitVec.ofNat 128 (beNat (pad 16 b))

/-- GHASH of blocks. -/
def ghash (h : BitVec 128) (bs : List Bytes) : BitVec 128 := bs.foldl (fun y b => ghashMul (y ^^^ block128 b) h) 0

/-- A string in 16-byte blocks, the last zero-padded. -/
def blocks16 (m : Bytes) : List Bytes := (pieces 16 ((m.length + 15) / 16) m).map (pad 16)

/-- The GHASH key of a key. -/
def hashKey (key : Bytes) : BitVec 128 := block128 (aes key (zb 16))

/-- The tag-mask block E(K, J0) of an IV. -/
@[irreducible] def gcmTagMask (rks : List Bytes) (iv : Bytes) : Bytes := aesRk rks (gcmBlock iv 1)

/-- The GCM tag of additional data and ciphertext, under H and a tag-mask block. -/
@[irreducible] def gcmTagOf (h : BitVec 128) (mask aad ct : Bytes) : Bytes :=
  let g := ghash h (blocks16 aad ++ blocks16 ct ++ [be 8 (8 * aad.length) ++ be 8 (8 * ct.length)])
  xorBytes (be 16 g.toNat) mask

/-- The GCM tag of additional data and ciphertext, under round keys and H. -/
def gcmTag (rks : List Bytes) (h : BitVec 128) (iv aad ct : Bytes) : Bytes := gcmTagOf h (gcmTagMask rks iv) aad ct

/-- Doubling of SP 800-38B. -/
def cmacDouble (b : BitVec 128) : BitVec 128 := if b.msb then (b <<< 1) ^^^ 0x87 else b <<< 1

/-- CMAC: the chain over whole blocks, then the last block with its subkey. -/
def cmacChain (rks : List Bytes) (k1 k2 : Bytes) : List Bytes → Bytes → Bytes
  | [], y => aesRk rks (xorBytes (xorBytes (0x80 :: zb 15) k2) y)
  | [b], y =>
    if b.length = 16 then aesRk rks (xorBytes (xorBytes b k1) y)
    else aesRk rks (xorBytes (xorBytes (pad 16 (b ++ [0x80])) k2) y)
  | b :: bs, y => cmacChain rks k1 k2 bs (aesRk rks (xorBytes b y))

/-- CMAC-AES of a message (R157). -/
@[irreducible] def cmac (key msg : Bytes) : Bytes :=
  let rks := roundKeys key
  let k1 := cmacDouble (block128 (aesRk rks (zb 16)))
  cmacChain rks (be 16 k1.toNat) (be 16 (cmacDouble k1).toNat) (pieces 16 ((msg.length + 15) / 16) msg) (zb 16)

/-- POLYVAL of RFC 8452, by GHASH over reversed blocks (its appendix A). -/
def polyval (h : Bytes) (bs : List Bytes) : Bytes :=
  le 16 (ghash (ghashHalf (block128 h.reverse)) (bs.map List.reverse)).toNat

/-- The keys RFC 8452 derives from the key-generating key and the nonce: 16 bytes for authentication, 32 for
encryption. -/
def sivKeys (key nonce : Bytes) : Bytes × Bytes :=
  let rks := roundKeys key
  let h := fun i => (aesRk rks (le 4 i ++ pad 12 nonce)).take 8
  (h 0 ++ h 1, h 2 ++ h 3 ++ h 4 ++ h 5)

/-- The AES-256-GCM-SIV tag of additional data and plaintext. -/
@[irreducible] def sivTag (key nonce aad plain : Bytes) : Bytes :=
  let k := sivKeys key nonce
  let p := polyval k.1 (blocks16 aad ++ blocks16 plain ++ [le 8 (8 * aad.length) ++ le 8 (8 * plain.length)])
  let x := xorBytes p (pad 12 nonce)
  aes k.2 (x.take 15 ++ (x.drop 15).map (· &&& 0x7F))

/-- The AES-256-GCM-SIV counter block: the tag with its top bit set, its first 4 bytes a little-endian counter. -/
def sivBlock (tag : Bytes) (i : Nat) : Bytes :=
  le 4 (u32 tag 0 + i) ++ sub tag 4 11 ++ ((tag.drop 15).map (· ||| 0x80))

/-- The AES-256-GCM-SIV keystream under a tag, `n` bytes. -/
@[irreducible] def sivStream (key nonce tag : Bytes) (n : Nat) : Bytes :=
  pad n (ctrBlocks (roundKeys (sivKeys key nonce).2) (sivBlock (pad 16 tag)) ((n + 15) / 16) 0)

end Sys2Proof.Machine
end

