-- ==== Sys2Proof/Machine/Curve.lean ====
section
/-! DEFINITION. The curves P-384 and P-256 of FIPS 186-5, and ECDH over them (R181): points in affine coordinates, `none`
the point at infinity. DEDUCED: log entry 70. -/
namespace Sys2Proof.Machine

/-- A prime curve y² = x³ - 3x + b: field, coefficient, base point, order, bytes of a coordinate. -/
structure Curve where
  p : Nat
  b : Nat
  gx : Nat
  gy : Nat
  n : Nat
  bytes : Nat
  deriving DecidableEq, Repr

/-- P-384. -/
def p384 : Curve :=
  { p := 2 ^ 384 - 2 ^ 128 - 2 ^ 96 + 2 ^ 32 - 1
    b := 0xb3312fa7e23ee7e4988e056be3f82d19181d9c6efe8141120314088f5013875ac656398d8a2ed19d2a85c8edd3ec2aef
    gx := 0xaa87ca22be8b05378eb1c71ef320ad746e1d3b628ba79b9859f741e082542a385502f25dbf55296c3a545e3872760ab7
    gy := 0x3617de4a96262c6f5d9e98bf9292dc29f8f41dbd289a147ce9da3113b5f0b8c00a60b1ce1d7e819d7a431d7c90ea0e5f
    n := 0xffffffffffffffffffffffffffffffffffffffffffffffffc7634d81f4372ddf581a0db248b0a77aecec196accc52973
    bytes := 48 }

/-- P-256. -/
def p256 : Curve :=
  { p := 2 ^ 256 - 2 ^ 224 + 2 ^ 192 + 2 ^ 96 - 1
    b := 0x5ac635d8aa3a93e7b3ebbd55769886bc651d06b0cc53b0f63bce3c3e27d2604b
    gx := 0x6b17d1f2e12c4247f8bce6e563a440f277037d812deb33a0f4a13945d898c296
    gy := 0x4fe342e2fe1a7f9b8ee7eb4a7c0f9e162bce33576b315ececbb6406837bf51f5
    n := 0xffffffff00000000ffffffffffffffffbce6faada7179e84f3b9cac2fc632551
    bytes := 32 }

/-- `acc · a^e` modulo `m`, over the low `k` bits of `e`. -/
def powMod (m : Nat) : Nat → Nat → Nat → Nat → Nat
  | 0, _, _, acc => acc
  | k + 1, a, e, acc => powMod m k (a * a % m) (e / 2) (if e % 2 == 1 then acc * a % m else acc)

/-- The inverse modulo a prime. -/
def invMod (m a : Nat) : Nat := powMod m 384 (a % m) (m - 2) 1

/-- A point. -/
abbrev Point := Option (Nat × Nat)

/-- The third point of a line of slope `l` through two points, reflected. -/
def lineSum (c : Curve) (l x1 y1 x2 : Nat) : Point :=
  let x := (l * l + 2 * c.p - x1 - x2) % c.p
  some (x, (l * (x1 + c.p - x) + c.p - y1) % c.p)

/-- Addition of points. -/
def pointAdd (c : Curve) : Point → Point → Point
  | none, q => q
  | p, none => p
  | some (x1, y1), some (x2, y2) =>
    if x1 = x2 then
      if (y1 + y2) % c.p = 0 then none
      else lineSum c ((3 * x1 * x1 + c.p - 3) * invMod c.p (2 * y1) % c.p) x1 y1 x2
    else lineSum c ((y2 + c.p - y1) * invMod c.p (x2 + c.p - x1) % c.p) x1 y1 x2

/-- `acc + e · q`, over the low `k` bits of `e`. -/
def pointMul (c : Curve) : Nat → Nat → Point → Point → Point
  | 0, _, _, acc => acc
  | k + 1, e, q, acc => pointMul c k (e / 2) (pointAdd c q q) (if e % 2 == 1 then pointAdd c acc q else acc)

/-- Whether a pair of coordinates is a point of the curve. -/
def onCurve (c : Curve) (x y : Nat) : Bool :=
  decide (x < c.p) && decide (y < c.p) && y * y % c.p == (x * x * x + 3 * (c.p - x) + c.b) % c.p

/-- A point's uncompressed encoding: 4, x, y. -/
def pointBytes (c : Curve) : Point → Bytes
  | none => [0]
  | some (x, y) => 4 :: (be c.bytes x ++ be c.bytes y)

/-- The point an uncompressed encoding spells, if it is a valid one. -/
def pointOf (c : Curve) (m : Bytes) : Point :=
  let x := beNat (sub m 1 c.bytes)
  let y := beNat (sub m (1 + c.bytes) c.bytes)
  if m.length = 1 + 2 * c.bytes ∧ m.headD 0 = 4 ∧ onCurve c x y = true then some (x, y) else none

/-- The private scalar of drawn bytes (FIPS 186-5, extra random bits). -/
def scalarOf (c : Curve) (draw : Bytes) : Nat := beNat (draw.take (c.bytes + 8)) % (c.n - 1) + 1

/-- The ECDH public key of drawn bytes. -/
@[irreducible] def ecPublic (c : Curve) (draw : Bytes) : Bytes :=
  pointBytes c (pointMul c (8 * c.bytes) (scalarOf c draw) (some (c.gx, c.gy)) none)

/-- The ECDH x-coordinate, if the peer's key is a valid curve point. -/
@[irreducible] def ecShared (c : Curve) (draw peer : Bytes) : Option Bytes :=
  match pointOf c peer with
  | none => none
  | some q =>
    match pointMul c (8 * c.bytes) (scalarOf c draw) (some q) none with
    | none => none
    | some r => some (be c.bytes r.1)

end Sys2Proof.Machine
end

