-- ==== Sys2Proof/Machine/Sha.lean ====
section
/-! DEFINITION. The digests the spec takes from their standards: SHA-384 (FIPS 180-4), and the SHA-3 functions (FIPS
202) that ML-KEM is built on (R181). The constants of SHA-384 stand as one number, word i at bits 64i. DEDUCED: log
entry 70. -/
namespace Sys2Proof.Machine

/-- The 80 round constants of FIPS 180-4. -/
def shaRound : Nat := 0x6c44198c4a4758175fcb6fab3ad6faec597f299cfc657e2a4cc5d4becb3e42b6431d67c49c100d4c3c9ebe0a15c9bebc32caab7b40c7249328db77f523047d841b710b35131c471b113f9804bef90dae0a637dc5a2c898a606f067aa72176fbaf57d4f7fee6ed178eada7dd6cde0eb1ed186b8c721c0c207ca273eceea26619cc67178f2e372532bbef9a3f7b2c67915a4506cebde82bde990befffa23631e288cc702081a6439ec84c87814a1f0ab7278a5636f43172f60748f82ee5defb2fc682e6ff3d6b2b8a35b9cca4f7763e3734ed8aa4ae3418acb391c0cb3c5c95a6334b0bcb5e19b48a82748774cdf8eeb991e376c085141ab5319a4c116b8d2d0c8106aa07032bbd1b8f40e35855771202ad69906245565a910d192e819d6ef5218c76c51a30654be30c24b8b70d0f89791a81a664bbc423001a2bfe8a14cf1036492722c851482353b81c2c92e47edaee6766a0abb3c77b2a8650a73548baf63de53380d139d95b3df4d2c6dfc5ac42aed2e1b21385c26c92627b70a8546d22ffc142929670a0e6e7006ca6351e003826fd5a79147930aa725c6e00bf33da88fc2bf597fc7beef0ee4b00327c898fb213fa831c66d2db43210983e5152ee66dfab76f988da831153b55cb0a9dcbd41fbd44a7484aa6ea6e4832de92c6f592b0275240ca1cc77ac9c650fc19dc68b8cd5b5efbe4786384f25e3e49b69c19ef14ad2c19bf174cf6926949bdc06a725c7123580deb1fe3b1696b172be5d74f27b896f550c7dc3d5ffb4e2243185be4ee4b28c12835b0145706fbed807aa98a3030242ab1c5ed5da6d8118923f82a4af194f9b59f111f1b605d0193956c25bf348b538e9b5dba58189dbbcb5c0fbcfec4d3b2f7137449123ef65cd428a2f98d728ae22
/-- The initial hash value of SHA-384. -/
def shaInit : Nat := 0x47b5481dbefa4fa4db0c2e0d64f98fa78eb44a876858151167332667ffc00b31152fecd8f70e59399159015a3070dd17629a292a367cd507cbbb9d5dc1059ed8

/-- A 64-bit word of a constant table. -/
def tableWord (t i : Nat) : W64 := BitVec.ofNat 64 (t >>> (64 * i))

/-- The message schedule, newest first, `n` more words. -/
def shaGrow : Nat → List W64 → List W64
  | 0, ws => ws
  | n + 1, ws =>
    let a := ws.getD 1 0
    let b := ws.getD 14 0
    let s1 := a.rotateRight 19 ^^^ a.rotateRight 61 ^^^ (a >>> 6)
    let s0 := b.rotateRight 1 ^^^ b.rotateRight 8 ^^^ (b >>> 7)
    shaGrow n ((s1 + ws.getD 6 0 + s0 + ws.getD 15 0) :: ws)

/-- The eight working variables. -/
structure ShaVars where
  a : W64
  b : W64
  c : W64
  d : W64
  e : W64
  f : W64
  g : W64
  h : W64
  deriving DecidableEq, Repr

/-- One round with its schedule word and constant. -/
def shaStep (v : ShaVars) (w k : W64) : ShaVars :=
  let s1 := v.e.rotateRight 14 ^^^ v.e.rotateRight 18 ^^^ v.e.rotateRight 41
  let t1 := v.h + s1 + ((v.e &&& v.f) ^^^ (~~~v.e &&& v.g)) + k + w
  let s0 := v.a.rotateRight 28 ^^^ v.a.rotateRight 34 ^^^ v.a.rotateRight 39
  let t2 := s0 + ((v.a &&& v.b) ^^^ (v.a &&& v.c) ^^^ (v.b &&& v.c))
  { a := t1 + t2, b := v.a, c := v.b, d := v.c, e := v.d + t1, f := v.e, g := v.f, h := v.g }

/-- The rounds over the schedule from round `i`. -/
def shaRounds : List W64 → Nat → ShaVars → ShaVars
  | [], _, v => v
  | w :: ws, i, v => shaRounds ws (i + 1) (shaStep v w (tableWord shaRound i))

/-- One 128-byte block. -/
def shaBlock (v : ShaVars) (b : Bytes) : ShaVars :=
  let ws := (pieces 8 16 b).map (fun x => BitVec.ofNat 64 (beNat x))
  let r := shaRounds (shaGrow 64 ws.reverse).reverse 0 v
  { a := v.a + r.a, b := v.b + r.b, c := v.c + r.c, d := v.d + r.d, e := v.e + r.e, f := v.f + r.f, g := v.g + r.g,
    h := v.h + r.h }

/-- SHA-384. -/
@[irreducible] def sha384 (m : Bytes) : Bytes :=
  let n := m.length
  let p := m ++ [0x80] ++ zb ((239 - n % 128) % 128) ++ be 16 (8 * n)
  let i := tableWord shaInit
  let v := (pieces 128 (p.length / 128) p).foldl shaBlock ⟨i 0, i 1, i 2, i 3, i 4, i 5, i 6, i 7⟩
  [v.a, v.b, v.c, v.d, v.e, v.f].flatMap (fun w => be 8 w.toNat)

/-! ### SHA-3 (FIPS 202): 25 lanes, lane (x, y) at place 5y + x -/

/-- A lane. -/
def lane (a : List W64) (x y : Nat) : W64 := a.getD (5 * (y % 5) + x % 5) 0

/-- The rotation of each lane. -/
def keccakRot : List Nat :=
  [0, 1, 62, 28, 27, 36, 44, 6, 55, 20, 3, 10, 43, 25, 39, 41, 45, 15, 21, 8, 18, 2, 61, 56, 14]

/-- The 24 round constants, word i at bits 64i. -/
def keccakRc : Nat := 0x8000000080008008000000008000000180000000000080808000000080008081800000008000000a000000000000800a8000000000000080800000000000800280000000000080038000000000008089800000000000008b000000008000808b000000008000000a00000000800080090000000000000088000000000000008a800000000000800980000000800080810000000080000001000000000000808b8000000080008000800000000000808a00000000000080820000000000000001

/-- One round: theta, rho and pi, chi, iota. -/
def keccakRound (a : List W64) (rc : W64) : List W64 :=
  let c := (List.range 5).map (fun x => lane a x 0 ^^^ lane a x 1 ^^^ lane a x 2 ^^^ lane a x 3 ^^^ lane a x 4)
  let d := fun x => c.getD ((x + 4) % 5) 0 ^^^ (c.getD ((x + 1) % 5) 0).rotateLeft 1
  let t := (List.range 25).map (fun i => (a.getD i 0 ^^^ d (i % 5)).rotateLeft (keccakRot.getD i 0))
  let b := (List.range 25).map (fun i => lane t (i % 5 + 3 * (i / 5)) (i % 5))
  let e := (List.range 25).map (fun i => b.getD i 0 ^^^ (~~~lane b (i % 5 + 1) (i / 5) &&& lane b (i % 5 + 2) (i / 5)))
  (e.headD 0 ^^^ rc) :: e.tail

/-- Keccak-f[1600]. -/
def keccak (a : List W64) : List W64 := (List.range 24).foldl (fun a i => keccakRound a (tableWord keccakRc i)) a

/-- Lanes and bytes. -/
def lanesOf (b : Bytes) : List W64 := (pieces 8 25 (pad 200 b)).map (fun x => BitVec.ofNat 64 (leNat x))

/-- Squeezing `n` further blocks of `rate` bytes. -/
def squeeze (rate : Nat) : Nat → List W64 → Bytes
  | 0, _ => []
  | n + 1, a => (a.flatMap (fun w => le 8 w.toNat)).take rate ++ squeeze rate n (keccak a)

/-- The sponge: rate, domain suffix, message, output bytes. -/
@[irreducible] def sponge (rate : Nat) (suffix : Byte) (m : Bytes) (n : Nat) : Bytes :=
  let k := m.length / rate + 1
  let p := pad (rate * k) (m ++ [suffix])
  let p := p.dropLast ++ [p.getLastD 0 ^^^ 0x80]
  let a := (pieces rate k p).foldl (fun a b => keccak (List.zipWith (· ^^^ ·) a (lanesOf b))) (List.replicate 25 0)
  (squeeze rate ((n + rate - 1) / rate) a).take n

/-- SHA3-256. -/
def sha3x256 (m : Bytes) : Bytes := sponge 136 0x06 m 32
/-- SHA3-512. -/
def sha3x512 (m : Bytes) : Bytes := sponge 72 0x06 m 64
/-- SHAKE128. -/
def shake128 (m : Bytes) (n : Nat) : Bytes := sponge 168 0x1F m n
/-- SHAKE256. -/
def shake256 (m : Bytes) (n : Nat) : Bytes := sponge 136 0x1F m n

end Sys2Proof.Machine
end

