-- ==== Sys2Proof/Machine/Kem.lean ====
section
/-! DEFINITION. ML-KEM of FIPS 203, with `k` = 3 (ML-KEM-768) or 4 (ML-KEM-1024) (R181). A polynomial is the list of its
256 coefficients, each below q = 3329. DEDUCED: log entry 70. -/
namespace Sys2Proof.Machine

/-- The seven bits of `i`, reversed. -/
def bitRev7 (i : Nat) : Nat := (List.range 7).foldl (fun r j => 2 * r + i / 2 ^ j % 2) 0
/-- Coefficientwise sum. -/
def polyAdd (f g : List Nat) : List Nat := List.zipWith (fun x y => (x + y) % 3329) f g
/-- Coefficientwise difference. -/
def polySub (f g : List Nat) : List Nat := List.zipWith (fun x y => (x + 3329 - y) % 3329) f g
/-- A polynomial times a number. -/
def polyScale (z : Nat) (f : List Nat) : List Nat := f.map (fun x => z * x % 3329)

/-- The number-theoretic transform: `d` layers left, block `i` of the layer. -/
def ntt : Nat → Nat → List Nat → List Nat
  | 0, _, f => f
  | d + 1, i, f =>
    let a := f.take (f.length / 2)
    let b := polyScale (17 ^ bitRev7 i) (f.drop (f.length / 2))
    ntt d (2 * i) (polyAdd a b) ++ ntt d (2 * i + 1) (polySub a b)

/-- Its inverse, but for the factor 128. -/
def nttBack : Nat → Nat → List Nat → List Nat
  | 0, _, f => f
  | d + 1, i, f =>
    let a := nttBack d (2 * i) (f.take (f.length / 2))
    let b := nttBack d (2 * i + 1) (f.drop (f.length / 2))
    polyAdd a b ++ polyScale (17 ^ (256 - bitRev7 i)) (polySub a b)

/-- The inverse transform. -/
def nttInv (f : List Nat) : List Nat := polyScale 3303 (nttBack 7 1 f)

/-- The product of two transforms. -/
def polyMul (f g : List Nat) : List Nat :=
  (List.range 128).flatMap (fun i =>
    let a := f.getD (2 * i) 0
    let b := f.getD (2 * i + 1) 0
    let c := g.getD (2 * i) 0
    let d := g.getD (2 * i + 1) 0
    [(a * c + b * d * 17 ^ (2 * bitRev7 i + 1)) % 3329, (a * d + b * c) % 3329])

/-- The inner product of two vectors of transforms. -/
def polyDot (a b : List (List Nat)) : List Nat := (List.zipWith polyMul a b).foldl polyAdd (List.replicate 256 0)

/-- ByteEncode of `d` bits a coefficient. -/
def polyEncode (d : Nat) (f : List Nat) : Bytes := le (32 * d) (f.foldr (fun x n => x + 2 ^ d * n) 0)
/-- ByteDecode. -/
def polyDecode (d : Nat) (b : Bytes) : List Nat :=
  let n := leNat b
  (List.range 256).map (fun i => (n >>> (d * i)) % 2 ^ d % (if d == 12 then 3329 else 2 ^ d))

/-- SampleNTT: the accepted 12-bit values of the extendable output, at most 256; its loop is bounded at 280 steps, the
least bound FIPS 203 allows. -/
def sampleNtt (seed : Bytes) : List Nat :=
  let g := pieces 3 280 (shake128 seed 840)
  ((g.flatMap (fun t => [u8 t 0 + 256 * (u8 t 1 % 16), u8 t 1 / 16 + 16 * u8 t 2])).filter (· < 3329)).take 256

/-- SamplePolyCBD with η = 2. -/
def sampleCbd (b : Bytes) : List Nat :=
  let n := leNat b
  let bit := fun i => (n >>> i) % 2
  (List.range 256).map (fun i => (bit (4 * i) + bit (4 * i + 1) + 3329 - bit (4 * i + 2) - bit (4 * i + 3)) % 3329)

/-- A noise polynomial: the PRF of a seed and a count. -/
def noise (seed : Bytes) (i : Nat) : List Nat := sampleCbd (shake256 (seed ++ le 1 i) 128)
/-- `k` noise polynomials from a count. -/
def noises (k : Nat) (seed : Bytes) (i : Nat) : List (List Nat) := (List.range k).map (fun j => noise seed (i + j))

/-- Compress to `d` bits. -/
def compress (d : Nat) (f : List Nat) : List Nat := f.map (fun x => (x * 2 ^ d + 1664) / 3329 % 2 ^ d)
/-- Decompress. -/
def decompress (d : Nat) (f : List Nat) : List Nat := f.map (fun y => (y * 3329 + 2 ^ (d - 1)) / 2 ^ d)

/-- The entry of the public matrix in a row and a column. -/
def kemMatrix (rho : Bytes) (i j : Nat) : List Nat := sampleNtt (rho ++ le 1 j ++ le 1 i)

/-- ML-KEM key generation from d: the encapsulation key and K-PKE's decryption key. -/
@[irreducible] def kemKeys (k : Nat) (d : Bytes) : Bytes × Bytes :=
  let g := sha3x512 (d ++ le 1 k)
  let sk := (noises k (g.drop 32) 0).map (ntt 7 1)
  let e := (noises k (g.drop 32) k).map (ntt 7 1)
  let t := (List.range k).map (fun i =>
    polyAdd (polyDot ((List.range k).map (kemMatrix (g.take 32) i)) sk) (e.getD i []))
  (t.flatMap (polyEncode 12) ++ g.take 32, sk.flatMap (polyEncode 12))

/-- Bits of a coefficient of u and of v in a ciphertext. -/
def kemDu (k : Nat) : Nat := if k == 4 then 11 else 10
/-- See `kemDu`. -/
def kemDv (k : Nat) : Nat := if k == 4 then 5 else 4

/-- K-PKE encryption of a message under randomness. -/
def kemEncrypt (k : Nat) (ek m r : Bytes) : Bytes :=
  let t := (pieces 384 k ek).map (polyDecode 12)
  let rho := ek.drop (384 * k)
  let y := (noises k r 0).map (ntt 7 1)
  let e := noises k r k
  let u := (List.range k).map (fun i =>
    polyAdd (nttInv (polyDot ((List.range k).map (fun j => kemMatrix rho j i)) y)) (e.getD i []))
  let v := polyAdd (polyAdd (nttInv (polyDot t y)) (noise r (2 * k))) (decompress 1 (polyDecode 1 m))
  u.flatMap (fun f => polyEncode (kemDu k) (compress (kemDu k) f)) ++ polyEncode (kemDv k) (compress (kemDv k) v)

/-- The input checks of an encapsulation key: its length, and every coefficient below q. -/
@[irreducible] def kemKeyOk (k : Nat) (ek : Bytes) : Bool :=
  decide (ek.length = 384 * k + 32) &&
    ((pieces 384 k ek).flatMap (fun b => polyEncode 12 (polyDecode 12 b)) == ek.take (384 * k))

/-- ML-KEM encapsulation of a drawn message: the ciphertext and the shared secret. -/
@[irreducible] def kemEncaps (k : Nat) (ek m : Bytes) : Bytes × Bytes :=
  let g := sha3x512 (m ++ sha3x256 ek)
  (kemEncrypt k ek m (g.drop 32), g.take 32)

/-- ML-KEM decapsulation, with implicit rejection: a ciphertext that is not the one its message gives yields the
secret that z and the ciphertext give. -/
@[irreducible] def kemDecaps (k : Nat) (d z c : Bytes) : Bytes :=
  let keys := kemKeys k d
  let n := 32 * kemDu k
  let u := (pieces n k c).map (fun b => ntt 7 1 (decompress (kemDu k) (polyDecode (kemDu k) b)))
  let v := decompress (kemDv k) (polyDecode (kemDv k) (c.drop (n * k)))
  let w := polySub v (nttInv (polyDot ((pieces 384 k keys.2).map (polyDecode 12)) u))
  let m := polyEncode 1 (compress 1 w)
  let g := sha3x512 (m ++ sha3x256 keys.1)
  if kemEncrypt k keys.1 m (g.drop 32) = c then g.take 32 else shake256 (z ++ c) 32

end Sys2Proof.Machine
end

