-- ==== Sys2Proof/Machine/Sign.lean ====
section
/-! DEFINITION. Signature verification: ECDSA P-384 over SHA-384 of FIPS 186-5, and ML-DSA-65 of FIPS 204 with an empty context
(R297). A polynomial is the list of its 256 coefficients, each below q = 8380417. DEDUCED: log entry 70. -/
namespace Sys2Proof.Machine

/-- ECDSA P-384: an uncompressed public key, SHA-384 of the message, r and s of 48 bytes each. -/
@[irreducible] def ecdsaVerify (key msg sig : Bytes) : Bool :=
  let n := p384.n
  let r := beNat (sub sig 0 48)
  let t := beNat (sub sig 48 48)
  match pointOf p384 key with
  | none => false
  | some q =>
    let w := invMod n t
    let a := pointMul p384 384 (beNat (sha384 msg) * w % n) (some (p384.gx, p384.gy)) none
    let b := pointMul p384 384 (r * w % n) (some q) none
    match pointAdd p384 a b with
    | none => false
    | some x => sig.length == 96 && r != 0 && decide (r < n) && t != 0 && decide (t < n) && x.1 % n == r

/-- q of ML-DSA. -/
def dsaQ : Nat := 8380417
/-- The eight bits of `i`, reversed. -/
def bitRev8 (i : Nat) : Nat := (List.range 8).foldl (fun r j => 2 * r + i / 2 ^ j % 2) 0
/-- A power of the root of unity 1753. -/
def dsaRoot (e : Nat) : Nat := powMod dsaQ 10 1753 e 1
/-- Coefficientwise sum. -/
def dsaAdd (f g : List Nat) : List Nat := List.zipWith (fun x y => (x + y) % dsaQ) f g
/-- Coefficientwise difference. -/
def dsaSub (f g : List Nat) : List Nat := List.zipWith (fun x y => (x + dsaQ - y) % dsaQ) f g
/-- A polynomial times a number. -/
def dsaScale (z : Nat) (f : List Nat) : List Nat := f.map (fun x => z * x % dsaQ)
/-- The product of two transforms. -/
def dsaMul (f g : List Nat) : List Nat := List.zipWith (fun x y => x * y % dsaQ) f g

/-- The number-theoretic transform: `d` layers left, block `i` of the layer. -/
def dsaNtt : Nat → Nat → List Nat → List Nat
  | 0, _, f => f
  | d + 1, i, f =>
    let a := f.take (f.length / 2)
    let b := dsaScale (dsaRoot (bitRev8 i)) (f.drop (f.length / 2))
    dsaNtt d (2 * i) (dsaAdd a b) ++ dsaNtt d (2 * i + 1) (dsaSub a b)

/-- Its inverse, but for the factor 256. -/
def dsaBack : Nat → Nat → List Nat → List Nat
  | 0, _, f => f
  | d + 1, i, f =>
    let a := dsaBack d (2 * i) (f.take (f.length / 2))
    let b := dsaBack d (2 * i + 1) (f.drop (f.length / 2))
    dsaAdd a b ++ dsaScale (dsaRoot (512 - bitRev8 i)) (dsaSub a b)

/-- The inverse transform. -/
def dsaInv (f : List Nat) : List Nat := dsaScale 8347681 (dsaBack 8 1 f)

/-- Coefficients of `d` bits each. -/
def dsaBits (d : Nat) (b : Bytes) : List Nat :=
  let n := leNat b
  (List.range 256).map (fun i => (n >>> (d * i)) % 2 ^ d)

/-- RejNTTPoly: the accepted 23-bit values of the extendable output; its loop is bounded at 298 steps, the least bound FIPS 204
allows. -/
def dsaMatrix (rho : Bytes) (r c : Nat) : List Nat :=
  let g := pieces 3 298 (shake128 (rho ++ le 1 c ++ le 1 r) 894)
  ((g.map (fun t => u8 t 0 + 256 * u8 t 1 + 65536 * (u8 t 2 % 128))).filter (· < dsaQ)).take 256

/-- SampleInBall's steps: `i` counts up to 255, `k` the signs taken, over the bytes of the extendable output. -/
def ballStep : Nat → Nat → Nat → Bytes → List Nat → List Nat
  | 0, _, _, _, c => c
  | _, _, _, [], c => c
  | n + 1, i, signs, j :: rest, c =>
    if i < j.toNat then ballStep n i signs rest c
    else
      let c := (c.set i (c.getD j.toNat 0)).set j.toNat (if signs % 2 == 1 then dsaQ - 1 else 1)
      if i == 255 then c else ballStep n (i + 1) (signs / 2) rest c

/-- SampleInBall with 49 non-zero coefficients. -/
def dsaBall (seed : Bytes) : List Nat :=
  let h := shake256 seed 408
  ballStep 400 207 (leNat (h.take 8)) (h.drop 8) (List.replicate 256 0)

/-- HintBitUnpack of one polynomial after another: the positions from `first` up to each polynomial's mark, rising. -/
def hintRows (y : Bytes) : Nat → Nat → Nat → Option (List (List Nat))
  | 0, _, first => if zeros y first (55 - first) then some [] else none
  | k + 1, i, first =>
    let last := u8 y (55 + i)
    let row := (List.range (last - first)).map (fun j => u8 y (first + j))
    if last < first || 55 < last || !(List.range (last - first - 1)).all (fun j => row.getD j 0 < row.getD (j + 1) 0) then none
    else (hintRows y k (i + 1) last).map (row :: ·)

/-- UseHint of one coefficient, γ2 = 261888. -/
def useHint (h : Bool) (x : Nat) : Nat :=
  let r := x % 523776
  let low : Int := if 261888 < r then (r : Int) - 523776 else r
  let edge := (x : Int) - low == (dsaQ : Int) - 1
  let r1 := if edge then 0 else (((x : Int) - low) / 523776).toNat
  let low := if edge then low - 1 else low
  if !h then r1 else if 0 < low then (r1 + 1) % 16 else (r1 + 15) % 16

/-- ML-DSA-65 of a message with an empty context. -/
@[irreducible] def mldsaVerify (key msg sig : Bytes) : Bool :=
  let rho := key.take 32
  let ch := sig.take 48
  let zs := (pieces 640 5 (sig.drop 48)).map (dsaBits 20)
  let mu := shake256 (shake256 key 64 ++ [0, 0] ++ msg) 64
  match hintRows (sig.drop 3248) 6 0 0 with
  | none => false
  | some hints =>
    let c := dsaNtt 8 1 (dsaBall ch)
    let z := zs.map (fun f => dsaNtt 8 1 (f.map (fun v => (dsaQ + 524288 - v) % dsaQ)))
    let w1 := (List.range 6).flatMap (fun i =>
      let t := dsaNtt 8 1 (dsaScale 8192 (dsaBits 10 (sub key (32 + 320 * i) 320)))
      let az := ((List.range 5).map (fun j => dsaMul (dsaMatrix rho i j) (z.getD j []))).foldl dsaAdd (List.replicate 256 0)
      let w := dsaInv (dsaSub az (dsaMul c t))
      let hint := hints.getD i []
      le 128 ((w.zipIdx.map (fun e => useHint (hint.contains e.2) e.1)).foldr (fun x n => x + 16 * n) 0))
    key.length == 1952 && sig.length == 3309 && zs.all (fun f => f.all (fun v => decide (((524288 : Int) - v).natAbs < 524092))) &&
      ch == shake256 (mu ++ w1) 48

/-- A signature of scheme 1 or 2 verifies under a key over a message (R297). -/
def verify (scheme : Nat) (key msg sig : Bytes) : Bool :=
  if scheme == 1 then ecdsaVerify key msg sig else if scheme == 2 then mldsaVerify key msg sig else false

/-- A key block of a scheme holds valid public keys (R342, R352). -/
def keyBlockOk (scheme : Nat) (b : Bytes) : Bool := match scheme with
  | 1 => (pointOf p384 b).isSome
  | 2 => b.length == 1952
  | 3 => (pointOf p384 (b.take 97)).isSome && b.length == 2049
  | _ => false

end Sys2Proof.Machine
end

