-- ==== Sys2Proof/Machine/Crypto.lean ====
section
/-! DEFINITION. The cryptographic operations, over the ciphers, digests and curves of Aes, Sha, Curve and Kem: the KDF of R157, AES-GCM
(Table 4-1), AES-256-GCM-SIV (R162), the hybrid exchange (R181), signatures. Output lengths are the standards'. DEDUCED: log entry 70. -/
namespace Sys2Proof.Machine

/-- Iterations `i`, `i + 1`, … of the KDF (R157). -/
def kdfBlocks (key label context : Bytes) (bits : Nat) : Nat → Nat → Bytes
  | 0, _ => []
  | n + 1, i =>
    pad 16 (cmac key (be 4 i ++ label ++ [0] ++ context ++ be 4 bits)) ++
      kdfBlocks key label context bits n (i + 1)

/-- KDF(key, label, context) of `n` bytes (R157). -/
def kdf (key : Bytes) (label : String) (context : Bytes) (n : Nat) : Bytes :=
  (kdfBlocks key (ascii label) context (8 * n) ((n + 15) / 16) 1).take n

/-- AES-256-GCM-SIV: ciphertext and tag (R162). -/
def sivSeal (key nonce aad plain : Bytes) : Bytes × Bytes :=
  let tag := pad 16 (sivTag key nonce aad plain)
  (xorBytes plain (sivStream key nonce tag plain.length), tag)

/-- Unseal: the plaintext, if the tag verifies. -/
def sivOpen (key nonce aad ct tag : Bytes) : Option Bytes :=
  let plain := xorBytes ct (sivStream key nonce tag ct.length)
  if tag = pad 16 (sivTag key nonce aad plain) then some plain else none

/-- AES-GCM: ciphertext and 16-byte tag (Table 4-1). -/
def gcmSeal (key iv aad plain : Bytes) : Bytes × Bytes :=
  let ct := xorBytes plain (gcmStream (roundKeys key) iv plain.length)
  (ct, pad 16 (gcmTag (roundKeys key) (hashKey key) iv aad ct))

/-- Decrypt and verify. The plaintext is given whatever the tag says (R133). -/
def gcmOpen (key iv aad ct tag : Bytes) : Bytes × Bool :=
  (xorBytes ct (gcmStream (roundKeys key) iv ct.length),
   decide (tag = pad 16 (gcmTag (roundKeys key) (hashKey key) iv aad ct)))

/-- Round keys held as shares. -/
def rksOf (x : Shares) : List Bytes := pieces 16 (x.a.length / 16) x.value

/-- The keystream of `n` bytes as two shares: the data blocks of a pre-roll head, and the continuation under the mask `t1`
(R127, R130). -/
def streamShares (rk : Shares) (iv t1 : Bytes) (head : List Shares) (n : Nat) : Shares :=
  let pre := head.tail
  let m := Nat.min n (16 * pre.length)
  let rest := Shares.split (t1.drop m) ((gcmStream (rksOf rk) iv n).drop m)
  ⟨(pre.flatMap (·.a)).take m ++ rest.a, (pre.flatMap (·.b)).take m ++ rest.b⟩

/-- A slice's AES-GCM on data that it takes as two parts, under keys held as shares (R122, R130, R146): the keystream is two shares
T1 and T2, and the ciphertext is (A xor T1) xor (B xor T2). The blocks of a frame's head, none for a miss, are the tag mask and
the first data blocks. Ciphertext and tag. -/
def sealShares (rk h : Shares) (head : List Shares) (iv aad t1 a b : Bytes) : Bytes × Bytes :=
  let ks := streamShares rk iv t1 head a.length
  let ct := xorBytes (xorBytes a ks.a) (xorBytes b ks.b)
  let e0 := match head with
    | [] => gcmTagMask (rksOf rk) iv
    | x :: _ => x.value
  (ct, pad 16 (gcmTagOf (block128 h.value) e0 aad ct))

/-- Decryption into the two shares A = C xor S1 and B = S2, and whether the tag verifies (R122, R146). -/
def openShares (rk h : Shares) (iv aad s1 ct tag : Bytes) : Shares × Bool :=
  let ks := Shares.split s1 (gcmStream (rksOf rk) iv ct.length)
  (⟨xorBytes ct ks.a, ks.b⟩, decide (tag = pad 16 (gcmTag (rksOf rk) (block128 h.value) iv aad ct)))

/-! ### The hybrid exchange (R181): mode 1 is P-384 with ML-KEM-1024, mode 2 P-256 with ML-KEM-768 -/

/-- The curve of a mode. -/
def pkeCurve (mode : Nat) : Curve := if mode == 1 then p384 else p256
/-- ML-KEM's rank of a mode. -/
def pkeRank (mode : Nat) : Nat := if mode == 1 then 4 else 3
/-- Bytes of a mode's ECDH public key. -/
def pkePoint (mode : Nat) : Nat := 1 + 2 * (pkeCurve mode).bytes

/-- M1: the initiator's ECDH public key, then its encapsulation key. Of the drawn bytes the first 56 give the ECDH key,
the next 32 ML-KEM's d and the next 32 its z (DESIGN CHOICE: log entry 70). -/
def pkePublic (mode : Nat) (secret : Bytes) : Bytes :=
  ecPublic (pkeCurve mode) secret ++ (kemKeys (pkeRank mode) (sub secret 56 32)).1

/-- RESPOND: the checks of a received M1; then M2, Z_e and Z_k. Of the drawn bytes the first 56 give the ECDH key and the
next 32 the message ML-KEM encapsulates. -/
def pkeRespond (mode : Nat) (secret m1 : Bytes) : Option (Bytes × Bytes × Bytes) :=
  let ek := m1.drop (pkePoint mode)
  match ecShared (pkeCurve mode) secret (m1.take (pkePoint mode)) with
  | none => none
  | some ze =>
    if kemKeyOk (pkeRank mode) ek then
      let c := kemEncaps (pkeRank mode) ek (sub secret 56 32)
      some (ecPublic (pkeCurve mode) secret ++ c.1, ze, c.2)
    else none

/-- FINISH: the check of a received M2; then Z_e and Z_k, the latter by implicit rejection where the ciphertext is not
the one its message gives. -/
def pkeFinish (mode : Nat) (secret m2 : Bytes) : Option (Bytes × Bytes) :=
  match ecShared (pkeCurve mode) secret (m2.take (pkePoint mode)) with
  | none => none
  | some ze => some (ze, kemDecaps (pkeRank mode) (sub secret 56 32) (sub secret 88 32) (m2.drop (pkePoint mode)))

/-- The suite is XPN (Table 4-1). -/
def isXpn (suite : Nat) : Bool := suite == 3 || suite == 4
/-- Key bytes of a suite (Table 4-1). -/
def suiteKey (suite : Nat) : Nat := if suite == 1 || suite == 3 then 16 else 32
/-- The last PN of a suite (Table 4-1). -/
def lastPn (suite : Nat) : Nat := if isXpn suite then 2 ^ 64 - 1 else 2 ^ 32 - 1

/-- The IV of a frame (Table 4-1, R87). -/
def frameIv (suite sci ssci pn : Nat) (salt : Bytes) : Bytes :=
  if isXpn suite then xorBytes (be 4 ssci ++ be 8 pn) salt else be 8 sci ++ be 4 pn

/-- Lengths of a signature by scheme: 1 ECDSA P-384, 2 ML-DSA-65 (R297). -/
def sigLen (scheme : Nat) : Nat := if scheme == 1 then 96 else 3309

end Sys2Proof.Machine
end

