-- ==== Sys2Proof/Machine/Flags.lean ====
section
/-! DEFINITION. What a write does to a register field, by its access code (R9, Table 0-3), and the counter arithmetic
of 00_scope.md (64-bit statistics counters that wrap, counts that stop at their maximum). -/
namespace Sys2Proof.Machine

/-- W1C: a 1 clears the bit, a 0 has no effect (R9). -/
def w1c {n : Nat} (old v : BitVec n) : BitVec n := old &&& ~~~v
/-- W1C of one bit. -/
def w1cb (old v : Bool) : Bool := old && !v
/-- W1S: a 1 sets the bit, a 0 has no effect (R9). -/
def w1sb (old v : Bool) : Bool := old || v
/-- RWL: sets the field until its lock bit is 1; afterwards ignored (R9). -/
def rwl {α : Type} (lock : Bool) (old v : α) : α := if lock then old else v
/-- The bits `lo` to `lo + n - 1` of a 32-bit write. -/
def fld (v : BitVec 32) (lo n : Nat) : Nat := v.toNat / 2 ^ lo % 2 ^ n
/-- One bit of a 32-bit write. -/
def bitOf (v : BitVec 32) (i : Nat) : Bool := v.getLsbD i
/-- Bit `i` of a number. -/
def nbit (v i : Nat) : Bool := v.testBit i
/-- A 32-bit count that stops at 0xFFFFFFFF. -/
def satInc32 (n : Nat) : Nat := if n < 0xFFFFFFFF then n + 1 else n
/-- Low 32 bits of a 64-bit value. -/
def lo32 (v : BitVec 64) : BitVec 32 := v.setWidth 32
/-- High 32 bits of a 64-bit value. -/
def hi32 (v : BitVec 64) : BitVec 32 := (v >>> 32).setWidth 32

end Sys2Proof.Machine
end

