-- ==== Sys2Proof/Machine/Tab.lean ====
section
/-! DEFINITION. Sparse tables: an addressed table (a RAM, a record table, a per-object counter file) is the list
of its entries that differ from the entry every unlisted key holds, with the keys strictly rising. The form is
canonical, so equal tables are equal data. -/
namespace Sys2Proof.Machine

/-- A sparse table with entries of type `α`. -/
abbrev Tab (α : Type) := List (Nat × α)

variable {α : Type}

/-- The entry at a key: what is listed, or the table's default entry `d`. -/
def tget (d : α) : Tab α → Nat → α
  | [], _ => d
  | (k, v) :: t, i => if i < k then d else if i = k then v else tget d t i

/-- The rest of a table behind a key: nothing in a canonical table's tail is left out. -/
def tbehind (i : Nat) (t : Tab α) : Tab α := t.dropWhile (fun e => e.1 ≤ i)

/-- Write an entry, keeping the form canonical: writing the default entry removes the key. -/
def tset [DecidableEq α] (d : α) : Tab α → Nat → α → Tab α
  | [], i, x => if x = d then [] else [(i, x)]
  | (k, v) :: t, i, x =>
    if i < k then (if x = d then (k, v) :: t else (i, x) :: (k, v) :: t)
    else if i = k then (if x = d then tbehind i t else (i, x) :: t)
    else (k, v) :: tset d t i x

/-- Change one entry by a function. -/
def tmod [DecidableEq α] (d : α) (t : Tab α) (i : Nat) (f : α → α) : Tab α := tset d t i (f (tget d t i))

/-- Change every listed entry by a function that keeps the default entry. -/
def tmap [DecidableEq α] (d : α) (f : α → α) : Tab α → Tab α
  | [] => []
  | (k, v) :: t => if f v = d then tbehind k (tmap d f t) else (k, f v) :: tmap d f t

/-- Every listed key is above `b`, the keys rise strictly, and no listed entry is the default one. -/
def TabAbove (d : α) : Nat → Tab α → Prop
  | _, [] => True
  | b, (k, v) :: t => b ≤ k ∧ v ≠ d ∧ TabAbove d (k + 1) t

/-- The canonical form of a table. -/
def TabWf (d : α) (t : Tab α) : Prop := TabAbove d 0 t

/-- The bytes of an addressed buffer: unlisted bytes read 0. -/
def bufRead (t : Tab Byte) (off n : Nat) : Bytes := (List.range n).map (fun i => tget 0 t (off + i))

/-- Write a byte string into an addressed buffer. -/
def bufWrite : Tab Byte → Nat → Bytes → Tab Byte
  | t, _, [] => t
  | t, off, b :: bs => bufWrite (tset 0 t off b) (off + 1) bs

/-- The keys whose entries meet a test, among the listed ones. -/
def tkeys (p : Nat → α → Bool) (t : Tab α) : List Nat := (t.filter (fun e => p e.1 e.2)).map (·.1)

/-- The least key not listed, from `b` on. -/
def tfree (b : Nat) : Tab α → Nat
  | [] => b
  | (k, _) :: t => if b < k then b else tfree (Nat.max b (k + 1)) t

end Sys2Proof.Machine
end

