-- ==== Sys2Proof/Machine/KeyState.lean ====
section
/-! DEFINITION. State of the key manager, the KENNEL, the wait buffers and the PKE store (07_key_manager.md).
Each field's docstring reads: what it is | width | rule and file | value at reset. -/
namespace Sys2Proof.Machine

/-- A pair of values, one per side: host (0) and line (1). -/
structure Two (α : Type) where
  host : α
  line : α
  deriving DecidableEq, Repr

/-- The value of a side: 0 host, any other line. -/
def Two.get {α : Type} (t : Two α) (side : Nat) : α := if side = 0 then t.host else t.line
/-- Replace the value of a side. -/
def Two.set {α : Type} (t : Two α) (side : Nat) (v : α) : Two α :=
  if side = 0 then { t with host := v } else { t with line := v }
/-- Change the value of a side. -/
def Two.upd {α : Type} (t : Two α) (side : Nat) (f : α → α) : Two α := t.set side (f (t.get side))

/-- A lineage (R159). -/
structure Lineage where
  gen : BitVec 8
  parent : Option Nat
  depth : Nat
  /-- Policy ORPHAN (else CASCADE). -/
  orphan : Bool
  spent : Bool
  deriving DecidableEq, Repr

/-- Key states of R163. -/
inductive KeySt where
  | absent | present | blocked
  deriving DecidableEq, Repr

/-- What the key manager keeps for a SAH (R163). Its blob lies in the blob store of LPDDR5X. -/
structure KeyRec where
  st : KeySt
  gen : W16
  deriving DecidableEq, Repr

/-- After reset every SAH is ABSENT with generation 0 (R165). -/
def KeyRec.reset : KeyRec := { st := .absent, gen := 0 }

/-- KENNEL slot states of Table 7-5. -/
inductive SlotSt where
  | free | loading | resident | draining
  deriving DecidableEq, Repr

/-- A KENNEL slot (R167). -/
structure Slot where
  st : SlotSt
  sah : Nat
  suite : Nat
  /-- The round keys of the SAK, as two shares. -/
  roundKeys : Shares
  /-- The GHASH key H of the SAK, as two shares. -/
  hash : Shares
  salt : Bytes
  lineage : Nat
  /-- Slot generation. -/
  gen : BitVec 8
  ref : Nat
  use : Bool
  pinned : Bool
  /-- Pinned by an ORPHAN invalidation (R160). -/
  orphan : Bool
  /-- A stop was recorded while LOADING. -/
  stop : Bool
  /-- The fetch is for the datapath (a miss), not for a command. -/
  datapath : Bool
  /-- TOD at which it entered DRAINING. -/
  drain : W64
  /-- Deferred work that ends when the slot is FREE (KEY_EVICT, KEY_LINEAGE_INVALIDATE). -/
  waiters : List Nat
  deriving DecidableEq, Repr

/-- An empty slot (R165: the KENNEL is empty after reset). -/
def Slot.reset : Slot :=
  { st := .free, sah := 0, suite := 0, roundKeys := .none, hash := .none, salt := [], lineage := 0, gen := 0, ref := 0, use := false,
    pinned := false, orphan := false, stop := false, datapath := false, drain := 0, waiters := [] }

/-- A miss-table entry (R171). -/
structure Miss where
  sah : Nat
  /-- The slot of the fetch once it is issued. -/
  slot : Option Nat
  deriving DecidableEq, Repr

/-- KWB limits of one side (R173, Table 7-8). -/
structure KwbLim where
  sa : Nat
  reserve : Nat
  port : Nat
  deriving DecidableEq, Repr

/-- The staging registers (R175, Table 7-9). -/
structure Staging where
  /-- KM_STG_KEY0-7, WO-K | 8 x 32 bits | R175 Table 7-9, 07_key_manager.md | 0 -/
  key : Tab W32
  /-- KM_STG_SALT0-2, WO-K | 3 x 32 bits | R175 Table 7-9, 07_key_manager.md | 0 -/
  salt : Tab W32
  /-- KM_STG_CTRL.SUITE, SALT_VALID, USAGE | 3 + 1 + 2 bits | R175 Table 7-9, 07_key_manager.md | 0 -/
  suite : BitVec 3
  saltValid : Bool
  usage : BitVec 2
  /-- KM_STG_CTRL.SOURCE | 4 bits | R175 Table 7-9, 07_key_manager.md | 0 -/
  source : Nat
  /-- KM_STG_TARGET.SAH | 17 bits | R175 Table 7-9, 07_key_manager.md | 0 -/
  target : BitVec 17
  /-- KM_STG_LINEAGE.ID | 24 bits | R175 Table 7-9, 07_key_manager.md | 0 -/
  lineage : BitVec 24
  /-- KM_STG_STATUS.LOADED | 1 bit | R175 Table 7-9, 07_key_manager.md | 0 -/
  loaded : Bool
  /-- KM_STG_STATUS.BUSY, and the REPLACE of the wrap in progress | 1 + 1 bits | R175 Table 7-9, 07_key_manager.md | 0 -/
  busy : Bool
  replace : Bool
  /-- KM_STG_STATUS.DONE and DENIED, W1C | 1 bit each | R175 Table 7-9, 07_key_manager.md | 0 -/
  doneBit : Bool
  denied : Bool
  /-- KM_STG_STATUS.CODE | 4 bits | R175 Table 7-9, 07_key_manager.md | 0 -/
  code : Nat
  /-- KM_STG_STATUS.GEN | 16 bits | R175 Table 7-9, 07_key_manager.md | 0x0000 -/
  gen : W16
  /-- TOD of the last write of a key or salt register | 64 bits | R176, 07_key_manager.md | DESIGN CHOICE 0, log entry 14 -/
  written : W64
  deriving DecidableEq, Repr

/-- The staging registers at reset. -/
def Staging.reset : Staging :=
  { key := [], salt := [], suite := 0, saltValid := false, usage := 0, source := 0, target := 0, lineage := 0,
    loaded := false, busy := false, replace := false, doneBit := false, denied := false, code := 0, gen := 0,
    written := 0 }

/-- A symmetric PKE slot (R180). -/
structure SymSlot where
  /-- Purpose: 1 CAK, 2 TRANSPORT. -/
  purpose : Nat
  key : Bytes
  deriving DecidableEq, Repr

/-- An agreement context (R180, R181). -/
structure PkeCtx where
  purpose : Nat
  mode : Nat
  /-- The ephemeral private keys, as drawn. -/
  secret : Bytes
  /-- The first message M1. -/
  m1 : Bytes
  expiry : W64
  deriving DecidableEq, Repr

/-- Counters of one side of KEY_STATS_GET (R183, Table 7-12). -/
structure KmCnt where
  hit : W64
  miss : W64
  fetch : W64
  stale : W64
  integrity : W64
  kekMiss : W64
  deriving DecidableEq, Repr

/-- All 0. -/
def KmCnt.reset : KmCnt := ⟨0, 0, 0, 0, 0, 0⟩

/-- The key manager. -/
structure Km where
  /-- UDS, as derived at boot, in two shares | 2 x 256 bits | R156 Table 7-1, 07_key_manager.md | none (derived at boot) -/
  uds : Option Shares
  /-- FBK, in two shares | 2 x 256 bits | R156 Table 7-1, 07_key_manager.md | none (derived at boot) -/
  fbk : Option Shares
  /-- MK of the running image's manifest, in two shares | 2 x 256 bits | R156 Table 7-1, R177, 07_key_manager.md | none (cleared at reset) -/
  mkRun : Option Shares
  /-- MK of the staged next image's manifest, in two shares | 2 x 256 bits | R156 Table 7-1, R177, 07_key_manager.md | none (cleared at reset) -/
  mkNext : Option Shares
  /-- Table-line key, from the DRBG at each reset, in two shares | 2 x 256 bits | R156 Table 7-1, R164, 07_key_manager.md | free value drawn at each reset; before the first, DESIGN CHOICE 0, log entry 11 -/
  lineKey : Shares
  /-- MUZZLED, until reset | 1 bit | R179, 07_key_manager.md | false -/
  muzzled : Bool
  /-- Clearing after MUZZLE is in progress | 1 bit | R179, 07_key_manager.md | false -/
  clearing : Bool
  /-- A state image was restored since reset | 1 bit | R166, 07_key_manager.md | false -/
  restored : Bool
  /-- Forward-sealed: key sources refused until reset | 1 bit | R178, 07_key_manager.md | false -/
  sealed : Bool
  /-- The lineage table, by 24-bit ID | up to 65,536 entries | R159, R165, 07_key_manager.md | empty -/
  lineages : Tab (Option Lineage)
  /-- The KEK cache: lineage ID, generation and the KEK in two shares, most recently used first | 256 entries | R156 Table 7-1, R441, 07_key_manager.md | DESIGN CHOICE empty, log entry 14 -/
  kekCache : List (Nat × Nat × Shares)
  /-- Key state and blob generation by SAH; the blobs and the generation table lie in LPDDR5X, Prot.mem | 131,072 x (2 + 16 bits) | R163, R165, 07_key_manager.md | ABSENT, generation 0 -/
  keys : Tab KeyRec
  /-- The tags of the generation-table lines written since reset; a line not written has the tag of a line of zeros | 4,096 x 64 bits | R164, 07_key_manager.md | none written -/
  lineTags : Tab (Option (BitVec 64))
  /-- The KENNEL slots | 16,384 | R167, R165, 07_key_manager.md | all FREE -/
  slots : Tab Slot
  /-- The clock-sweep pointer | 14 bits | R170, 07_key_manager.md | DESIGN CHOICE 0, log entry 14 -/
  sweep : Nat
  /-- Event 0x400A was raised in this episode | 1 bit | R170, 07_key_manager.md | false -/
  noVictim : Bool
  /-- Miss tables, oldest first: encrypt (host side), decrypt (line side) | 2 x 256 entries | R171, 07_key_manager.md | empty -/
  misses : Two (List Miss)
  /-- KWB limits per side | 3 x 16 bits | R173 Table 7-8, 07_key_manager.md | SA 256, reserve 32, port 1,024 -/
  lim : Two KwbLim
  /-- KWB high-water mark per side | cells | R183 Table 7-12, 07_key_manager.md | 0 (R386) -/
  kwbHighWater : Two Nat
  /-- Fetch high-water mark per side | CCLK | R183 Table 7-12, 07_key_manager.md | 0 (R386) -/
  fetchHighWater : Two Nat
  /-- KWB_HIGH raised and KWB_LOW not yet, per side | 1 bit | R184, 07_key_manager.md | false -/
  kwbHigh : Two Bool
  /-- Staging registers | see Staging | R175, 07_key_manager.md | 0 -/
  stg : Staging
  /-- Asymmetric PKE slots in use, 0x0000 to 0x003F | key references | R180, 07_key_manager.md | none (identity keys derived at boot) -/
  asym : Tab (Option Bytes)
  /-- Symmetric PKE slots, 0x1000 to 0x2FFF | 256 bits each | R180, 07_key_manager.md | none -/
  sym : Tab (Option SymSlot)
  /-- Agreement contexts, 256 | see PkeCtx | R180, 07_key_manager.md | none -/
  ctxs : Tab (Option PkeCtx)
  /-- Counters per side, Table 7-12 | 6 x 64 bits | R183, 07_key_manager.md | 0 (R386) -/
  cnt : Two KmCnt
  /-- KENNEL_EVICT_CNT, DRAIN_FORCED_CNT | 64 bits each | R183 Table 7-12, 07_key_manager.md | 0 (R386) -/
  evictCnt : W64
  forcedCnt : W64
  /-- KWB_DROP_CNT and KEY_UNAVAIL_DROP_CNT by SC port, per side | 2 x 32 x 64 bits | R183 Table 7-12, 07_key_manager.md | 0 (R386) -/
  kwbDrop : Two (Tab W64)
  unavail : Two (Tab W64)
  deriving DecidableEq, Repr

/-- The key manager after reset. -/
def Km.reset : Km :=
  { uds := none, fbk := none, mkRun := none, mkNext := none, lineKey := ⟨zb 32, zb 32⟩, muzzled := false, clearing := false,
    restored := false, sealed := false, lineages := [], kekCache := [], keys := [], lineTags := [], slots := [], sweep := 0,
    noVictim := false, misses := ⟨[], []⟩, lim := ⟨⟨256, 32, 1024⟩, ⟨256, 32, 1024⟩⟩, kwbHighWater := ⟨0, 0⟩,
    fetchHighWater := ⟨0, 0⟩, kwbHigh := ⟨false, false⟩, stg := .reset, asym := [], sym := [], ctxs := [],
    cnt := ⟨.reset, .reset⟩, evictCnt := 0, forcedCnt := 0, kwbDrop := ⟨[], []⟩, unavail := ⟨[], []⟩ }

end Sys2Proof.Machine
end

