-- ==== Sys2Proof/Machine/PortState.lean ====
section
/-! DEFINITION. State of the port complex (02_ports_frame_path.md). Each field's docstring reads: what it is |
width | rule and file | value at reset. -/
namespace Sys2Proof.Machine

/-- The states of Table 2-3. -/
inductive PortSt where
  | disabled | adminDown | linkWait | up | rfault
  deriving DecidableEq, Repr

/-- The code of PORT_STATUS_GET (Table 2-13). -/
def PortSt.code : PortSt → Nat
  | .disabled => 0 | .adminDown => 1 | .linkWait => 2 | .up => 3 | .rfault => 4

/-- The configuration of a port (Table 2-12), field by field as PORT_CONFIG_GET reports it. -/
structure PortCfg where
  /-- Role: 0 DISABLED, 1 HOST, 2 LINE, 3 TRANSCRYPT, 4 GP0 configured | 1 byte | R15, R56, 02_ports_frame_path.md | 0 (all ports DISABLED after every reset) -/
  role : Nat
  /-- Peer port number | 1 byte | R16, R56, 02_ports_frame_path.md | 0xFF (the value of a DISABLED port, R56) -/
  peer : Nat
  /-- Lane mode, Table 2-1 | 1 byte | R36, 02_ports_frame_path.md | DESIGN CHOICE 0, log entry 8 -/
  lane : Nat
  /-- FEC | 1 byte | R36, 02_ports_frame_path.md | DESIGN CHOICE 0, log entry 8 -/
  fec : Nat
  /-- Flow control | 1 byte | R38, 02_ports_frame_path.md | DESIGN CHOICE 0, log entry 8 -/
  flow : Nat
  /-- Preemption, 1 AUTO | 1 byte | R38, 02_ports_frame_path.md | DESIGN CHOICE 0, log entry 8 -/
  preempt : Nat
  /-- LINK_FOLLOW | 1 bit | R38, 02_ports_frame_path.md | DESIGN CHOICE 0, log entry 8 -/
  linkFollow : Bool
  /-- MAX_FRAME | 16 bits | R38, 02_ports_frame_path.md | 16383 -/
  maxFrame : Nat
  /-- Kennel-miss order, 1 PORT_STRICT | 1 byte | R38, R173, 02_ports_frame_path.md | DESIGN CHOICE 0, log entry 8 -/
  missOrder : Nat
  /-- Learning eviction, 1 RANDOM | 1 byte | R38, R78, 02_ports_frame_path.md | DESIGN CHOICE 0, log entry 8 -/
  evict : Nat
  /-- RX polarity | 8 bits | R38, 02_ports_frame_path.md | DESIGN CHOICE 0, log entry 8 -/
  rxPol : Nat
  /-- TX polarity | 8 bits | R38, 02_ports_frame_path.md | DESIGN CHOICE 0, log entry 8 -/
  txPol : Nat
  /-- Implicit SCI, network order | 8 bytes | R38, R46, 02_ports_frame_path.md | DESIGN CHOICE 0, log entry 8 -/
  sci : Nat
  /-- Pause SA, wire order | 6 bytes | R38, 02_ports_frame_path.md | 0 -/
  pauseSa : Nat
  deriving DecidableEq, Repr

/-- A port's configuration after reset. -/
def PortCfg.reset : PortCfg :=
  { role := 0, peer := 0xFF, lane := 0, fec := 0, flow := 0, preempt := 0, linkFollow := false, maxFrame := 16383,
    missOrder := 0, evict := 0, rxPol := 0, txPol := 0, sci := 0, pauseSa := 0 }

/-- The port statistics of Table 2-10, in its order. -/
structure PortCnt where
  rxFrames : W64
  rxOctets : W64
  txFrames : W64
  txOctets : W64
  rxFcs : W64
  rxErr : W64
  rxUndersize : W64
  rxOversize : W64
  rxStomped : W64
  rxMerge : W64
  rxBadtag : W64
  rxUncontrolled : W64
  toCp : W64
  cpPathDrop : W64
  rxPause : W64
  txPause : W64
  stompIcv : W64
  stompAbort : W64
  stompRxerr : W64
  txDown : W64
  txPreempt : W64
  fecCorr : W64
  fecUncorr : W64
  linkDown : W64
  deriving DecidableEq, Repr

/-- All counters 0. -/
def PortCnt.reset : PortCnt := ⟨0, 0, 0, 0, 0, 0, 0, 0, 0, 0, 0, 0, 0, 0, 0, 0, 0, 0, 0, 0, 0, 0, 0, 0⟩

/-- The counters in the order of Table 2-10. -/
def PortCnt.list (c : PortCnt) : List W64 :=
  [c.rxFrames, c.rxOctets, c.txFrames, c.txOctets, c.rxFcs, c.rxErr, c.rxUndersize, c.rxOversize, c.rxStomped,
   c.rxMerge, c.rxBadtag, c.rxUncontrolled, c.toCp, c.cpPathDrop, c.rxPause, c.txPause, c.stompIcv, c.stompAbort,
   c.stompRxerr, c.txDown, c.txPreempt, c.fecCorr, c.fecUncorr, c.linkDown]

/-- One port: HP0-HP31 are 0 to 31, LP0-LP31 are 32 to 63, GP0 is 64 (R35). -/
structure Port where
  /-- Configuration, Table 2-12 | 32 bytes | R38, R56, 02_ports_frame_path.md | see PortCfg -/
  cfg : PortCfg
  /-- State of Table 2-3 | 3 bits | R40, 02_ports_frame_path.md | DISABLED -/
  st : PortSt
  /-- Lanes with CDR and FEC lock | 8 bits | R40 Table 2-13, 02_ports_frame_path.md | 0 (lanes powered down) -/
  locked : Nat
  /-- Local Fault received | 1 bit | R40, 02_ports_frame_path.md | DESIGN CHOICE false, log entry 9 -/
  localFault : Bool
  /-- Remote Fault received | 1 bit | R40, 02_ports_frame_path.md | DESIGN CHOICE false, log entry 9 -/
  remoteFault : Bool
  /-- Forcing Remote Fault under LINK_FOLLOW | 1 bit | R38, 02_ports_frame_path.md | DESIGN CHOICE false, log entry 9 -/
  forcing : Bool
  /-- Preemption active | 1 bit | R38, 02_ports_frame_path.md | DESIGN CHOICE false, log entry 9 -/
  preemptOn : Bool
  /-- Failed verification attempts | 0 to 3 | R55, 02_ports_frame_path.md | DESIGN CHOICE 0, log entry 9 -/
  preemptFails : Nat
  /-- TOD at the last state change | 64 bits | R40 Table 2-13, 02_ports_frame_path.md | DESIGN CHOICE 0, log entry 9 -/
  lastChange : W64
  /-- Port statistics, Table 2-10 | 24 x 64 bits | R54, 02_ports_frame_path.md | 0 (statistics start at 0 after each device reset, R386) -/
  cnt : PortCnt
  /-- FEC_SYMBOL_ERR_CNT by lane | 8 x 64 bits | R54 Table 2-10, 02_ports_frame_path.md | 0 (R386) -/
  fecSym : Tab W64
  /-- The 1 ms interval of TOD last seen and the FEC_UNCORR_CW_CNT at its start | 64 + 64 bits | R55 Table 2-11, 02_ports_frame_path.md | DESIGN CHOICE 0, log entry 9 -/
  fecMs : Nat
  fecBase : W64
  /-- FEC_DEGRADED was raised in this interval | 1 bit | R55 Table 2-11, 02_ports_frame_path.md | DESIGN CHOICE false, log entry 9 -/
  fecRaised : Bool
  deriving DecidableEq, Repr

/-- A port after reset. -/
def Port.reset : Port :=
  { cfg := .reset, st := .disabled, locked := 0, localFault := false, remoteFault := false, forcing := false,
    preemptOn := false, preemptFails := 0, lastChange := 0, cnt := .reset, fecSym := [], fecMs := 0, fecBase := 0,
    fecRaised := false }

/-- A frame on the control path to the CP (R43, TO_CP). -/
structure CpFrame where
  port : Nat
  data : Bytes
  /-- The receive timestamp captured at the port. -/
  tRx : W64
  /-- Its colour at the policer, 0 green or 1 yellow: the control-path metadata of R219. -/
  colour : Nat
  deriving DecidableEq, Repr

end Sys2Proof.Machine
end

