-- ==== Sys2Proof/Machine/SliceState.lean ====
section
/-! DEFINITION. State of the cipher slices, the pre-roll engines, the distributors and the reorder stages
(05_cipher_slices.md). Each field's docstring reads: what it is | width | rule and file | value at reset. -/
namespace Sys2Proof.Machine

/-- Unit states of Table 5-6. -/
inductive UnitSt where
  | inService | reset | quarantined | stopped
  deriving DecidableEq, Repr

/-- The state code of Table 5-6. -/
def UnitSt.code : UnitSt → Nat
  | .inService => 0 | .reset => 1 | .quarantined => 2 | .stopped => 3

/-- A place in the output of a mask generator: its key, and the 64-bit words before it (R123, R124). -/
structure MaskAt where
  key : BitVec 256
  pos : Nat
  deriving DecidableEq, Repr

/-- An engine's work on a head: the masking mode it took when it began it, and its mask set: in FRAME the one drawn then, in FULL
the last drawn (R123). -/
structure HeadWork where
  eng : Nat
  full : Bool
  set : MaskAt
  deriving DecidableEq, Repr

/-- The head of a PN's keystream: the tag mask and the first data blocks, each as two shares, and the engines that have worked on
it, in the order in which they began (R127, R130). -/
structure Head where
  blocks : List Shares
  work : List HeadWork
  deriving DecidableEq, Repr

/-- No block. -/
def Head.empty : Head := ⟨[], []⟩

/-- The mask set that a head brings for the continuation: that of the engine which began it (R130). -/
def Head.masks (h : Head) : Option MaskAt := h.work.head?.map (·.set)

/-- A slice or engine: E0-E7 are 0 to 7, D0-D7 are 8 to 15, P0-P7 are 16 to 23 (R135). -/
structure SUnit where
  /-- State of Table 5-6 | 2 bits | R135, 05_cipher_slices.md | DESIGN CHOICE IN_SERVICE, log entry 13 -/
  st : UnitSt
  /-- The state held before STOPPED | 2 bits | R125, R135, 05_cipher_slices.md | DESIGN CHOICE IN_SERVICE, log entry 13 -/
  prior : UnitSt
  /-- TODs of the recent faults | 3 x 64 bits | R135, 05_cipher_slices.md | none -/
  faults : List W64
  /-- In RESET because DEV_SLICE_RESTORE committed | 1 bit | R135, R142, 05_cipher_slices.md | false -/
  restoring : Bool
  /-- Clock-gated | 1 bit | R20, 01_architecture.md; R135, 05_cipher_slices.md | DESIGN CHOICE false, log entry 13 -/
  gated : Bool
  /-- The frame in the slice | frame | R116, 05_cipher_slices.md | none -/
  frame : Option Nat
  /-- The masking mode in force, taken at frame boundaries | 1 bit | R123, R24, 05_cipher_slices.md | FULL (R19) -/
  maskFull : Bool
  /-- The mask generator was seeded since the unit's last reset | 1 bit | R124, 05_cipher_slices.md | false (the boot's draws seed it) -/
  seeded : Bool
  /-- The mask generator's key, 256 bits from the DRBG | 256 bits | R124, 05_cipher_slices.md | DESIGN CHOICE 0, log entry 13 -/
  maskKey : BitVec 256
  /-- 64-bit words the mask generator has given since it was seeded | count | R124, 05_cipher_slices.md | 0 -/
  maskPos : Nat
  /-- The mask set in force, as a place in a generator's output | 72 or 144 words | R123 Table 5-2, 05_cipher_slices.md | none drawn -/
  maskSet : Option MaskAt
  /-- The reseed of every 2^24 CCLK is due at the next frame or head boundary | 1 bit | R124, R137 Table 5-7, 05_cipher_slices.md | false -/
  reseedDue : Bool
  /-- The continuous test has found a repetition | 1 bit | R124, R134, 05_cipher_slices.md | false -/
  repeated : Bool
  /-- The round keys, as two shares | 2 x 176 or 240 bytes | R122, 05_cipher_slices.md | none held -/
  roundKeys : Shares
  /-- The GHASH key H, as two shares | 2 x 128 bits | R122, 05_cipher_slices.md | none held -/
  hash : Shares
  /-- The AES state, as two shares: the block computed last | 2 x 128 bits | R122, 05_cipher_slices.md | none held -/
  aes : Shares
  /-- The keystream block used last, as two shares | 2 x 128 bits | R122, 05_cipher_slices.md | none held -/
  keystream : Shares
  /-- Hold buffer cells in use (D) | 0 to 256 | R132, 05_cipher_slices.md | 0 (empty) -/
  cells : Nat
  /-- Hold buffer high-water mark (D) | cells | R139 Table 5-10, 05_cipher_slices.md | 0 (R386) -/
  highWater : Nat
  /-- SLC_FRAMES_CNT, SLC_OCTETS_CNT, SLC_ABORT_CNT, SLC_FAULT_CNT | 64 bits each | R139 Table 5-10, 05_cipher_slices.md | 0 (R386) -/
  frames : W64
  octets : W64
  aborts : W64
  faultCnt : W64
  /-- PREROLL_HIT_CNT (E) or ICV_FAIL_CNT (D) | 64 bits | R139 Table 5-10, 05_cipher_slices.md | 0 (R386) -/
  hits : W64
  /-- PREROLL_MISS_CNT (E) | 64 bits | R139 Table 5-10, 05_cipher_slices.md | 0 (R386) -/
  misses : W64
  /-- PAIR_FRAMES_CNT | 64 bits | R139 Table 5-10, 05_cipher_slices.md | 0 (R386) -/
  pairFrames : W64
  /-- Slot accounting: RETIRED, WASTED, STARVED_BACK, STARVED_FRONT | 4 x 64 bits | R138, 05_cipher_slices.md | 0 (R386) -/
  slotCnt : Tab W64
  deriving DecidableEq, Repr

/-- A unit after reset. -/
def SUnit.reset : SUnit :=
  { st := .inService, prior := .inService, faults := [], restoring := false, gated := false, frame := none,
    maskFull := true, seeded := false, maskKey := 0, maskPos := 0,
    maskSet := none, reseedDue := false, repeated := false, roundKeys := .none, hash := .none, aes := .none, keystream := .none, cells := 0, highWater := 0, frames := 0, octets := 0, aborts := 0,
    faultCnt := 0, hits := 0, misses := 0, pairFrames := 0, slotCnt := [] }

/-- One group of eight slices: its distributor and its reorder stage. -/
structure Group where
  /-- The pair FIFO: frames in order | list | R117, 05_cipher_slices.md | empty -/
  pairQ : List Nat
  /-- The single FIFO: frames in order | list | R117, 05_cipher_slices.md | empty -/
  singleQ : List Nat
  /-- The slices of the group in the order in which they became free, longest first | 8 | R117, 05_cipher_slices.md | DESIGN CHOICE index order, log entry 13 -/
  freeOrder : List Nat
  /-- The pair reserved for the head of the pair FIFO | 2 bits | R117, 05_cipher_slices.md | none -/
  reserved : Option Nat
  /-- SLC_ABORT_CNT of the distributor | 64 bits | R117, 05_cipher_slices.md | 0 (R386) -/
  aborts : W64
  /-- Next sequence number by egress port | count | R118, 05_cipher_slices.md | DESIGN CHOICE 0, log entry 13 -/
  nextSeq : Tab Nat
  /-- The frames of each egress port holding a sequence number not yet passed, in order | lists | R118, 05_cipher_slices.md | empty -/
  order : Tab (List Nat)
  deriving DecidableEq, Repr

/-- A group after reset; the argument is its first unit. -/
def Group.reset (b : Nat) : Group :=
  { pairQ := [], singleQ := [], freeOrder := [b, b + 1, b + 2, b + 3, b + 4, b + 5, b + 6, b + 7], reserved := none,
    aborts := 0, nextSeq := [], order := [] }

/-- A hot-set entry (R127). -/
structure Hot where
  sah : Nat
  /-- Activity count, 0 to 7. -/
  act : Nat
  /-- What is ready of the head of the next PN. -/
  h1 : Head
  /-- What is ready of the head of the second PN. -/
  h2 : Head
  deriving DecidableEq, Repr

/-- Slices, engines, groups and the hot set. -/
structure Slices where
  /-- The 24 units | see SUnit | R135, 05_cipher_slices.md | see SUnit -/
  units : Tab SUnit
  /-- The encrypt group | see Group | R117, R118, 05_cipher_slices.md | empty -/
  enc : Group
  /-- The decrypt group | see Group | R117, R118, 05_cipher_slices.md | empty -/
  dec : Group
  /-- The hot set, 1,024 entries | list | R127, 05_cipher_slices.md | none in use -/
  hot : Tab (Option Hot)
  /-- The rotating pointer | 10 bits | R127, 05_cipher_slices.md | 0 -/
  pointer : Nat
  /-- MISS_NOT_HOT_CNT, MISS_NOT_READY_CNT, MISS_SHORT_CNT | 64 bits each | R129 Table 5-9, 05_cipher_slices.md | 0 (R386) -/
  missNotHot : W64
  missNotReady : W64
  missShort : W64
  /-- PREROLL_DISCARD_BLK_CNT, HOTSET_ADMIT_CNT, HOTSET_DENY_CNT | 64 bits each | R127 Table 5-9, 05_cipher_slices.md | 0 (R386) -/
  discardBlk : W64
  admitCnt : W64
  denyCnt : W64
  /-- HEEL_FRAMES_CNT, LURCHER_FRAMES_CNT | 64 bits each | R139 Table 5-9, 05_cipher_slices.md | 0 (R386) -/
  heel : W64
  lurcher : W64
  /-- ICV_FAIL_CNT by line port | 32 x 64 bits | R132, R139 Table 5-9, 05_cipher_slices.md | 0 (R386) -/
  icvFail : Tab W64
  /-- The entropy condition of R125 holds, R126 not yet met | 1 bit | R125, R126, 05_cipher_slices.md | DESIGN CHOICE false, log entry 13 -/
  entropyFail : Bool
  deriving DecidableEq, Repr

/-- The slices after reset. -/
def Slices.reset : Slices :=
  { units := [], enc := Group.reset 0, dec := Group.reset 8, hot := [], pointer := 0, missNotHot := 0,
    missNotReady := 0, missShort := 0, discardBlk := 0, admitCnt := 0, denyCnt := 0, heel := 0, lurcher := 0,
    icvFail := [], entropyFail := false }

end Sys2Proof.Machine
end

