-- ==== Sys2Proof/Machine/FrameState.lean ====
section
/-! DEFINITION. Frames in flight (Table 2-4) and the control path. Each field's docstring reads: what it is | width |
rule and file | value at reset. DESIGN CHOICE: log entry 71. -/
namespace Sys2Proof.Machine

/-- Where a frame is on its path (Table 2-4). -/
inductive Stage where
  /-- In the KWB, waiting for its key. -/
  | kwb
  /-- In the distributor's FIFO. -/
  | dist
  /-- In a slice. -/
  | slice
  /-- Out of its slice: in the completion buffer until REORDER_RELEASE. -/
  | order
  /-- Reaching the traffic manager. -/
  | arrive
  /-- In an egress queue. -/
  | queued
  /-- In transmission. -/
  | sending
  /-- Its way out has closed (R41, R192, R204, R225); its slice still works on it, to its end. -/
  | cut
  /-- On its way to the CP. -/
  | toCp
  /-- Ended; the rest of it is still being received, and its receive checks still count (R53). -/
  | gone
  deriving DecidableEq, Repr

/-- What happens to a frame on the datapath. -/
inductive Kind where
  /-- UNCONTROLLED, or injected in clear. -/
  | clear
  /-- Encrypted. -/
  | enc
  /-- Decrypted. -/
  | dec
  /-- Transcrypted, in its decrypt half. -/
  | xcDec
  /-- Transcrypted, in its encrypt half. -/
  | xcEnc
  /-- To the CP. -/
  | cp
  deriving DecidableEq, Repr

/-- A policer decision whose debit is still owed (R218). -/
structure Debit where
  side : Nat
  index : Nat
  epoch : Nat
  /-- C named; E or P named. -/
  c : Bool
  e : Bool
  /-- 0 green, 1 yellow. -/
  colour : Nat
  deriving DecidableEq, Repr

/-- A transcrypted frame between the two XOR stages: DA and SA, and the secure data as two shares (R146). -/
structure Shared where
  mac : Bytes
  a : Bytes
  b : Bytes
  deriving DecidableEq, Repr

/-- A frame in flight. -/
structure Frame where
  kind : Kind
  stage : Stage
  /-- Ingress port; none for an injected frame. -/
  ingress : Option Nat
  egress : Nat
  /-- The bytes from DA on that the header operand gave. -/
  hdr : Bytes
  /-- The whole frame from DA, without FCS, once its last byte has arrived. -/
  data : Option Bytes
  /-- The decrypted frame from DA, without SecTAG, ICV and FCS. -/
  plain : Option Bytes
  /-- A transcrypted frame's shares, once it has verified (R146). -/
  shared : Option Shared
  /-- The secure-data bytes that the SA which verified the frame sent in clear (R145). -/
  rxClear : Nat
  /-- Stomped: 0 ICV, 1 abort, 2 receive error (R52). -/
  stomp : Option Nat
  /-- Its first byte has left the egress MAC (R50). -/
  left : Bool
  /-- Ended by MUZZLE or an entropy failure: no other counter records it (R53). -/
  aborted : Bool
  /-- Its ingress port kept PORT_STRICT order when it was classified (R53, R120). -/
  strict : Bool
  /-- The completion buffer has no room for it: its slice is held back (R118). -/
  stall : Bool
  /-- Every word of it has left its slice, and its hold buffer, and is in a slot class (R138). -/
  out : Bool
  /-- The mask set that its slice works on it with: a place in a mask generator's output (R123, R130). -/
  masks : Option MaskAt
  /-- The count of R242 at which its release from the hold buffer began (R132). -/
  release : Option Nat
  txSch : Option Nat
  txSah : Option Nat
  pn : Nat
  txSlot : Option (Nat × BitVec 8)
  rxSch : Option Nat
  rxSah : Option Nat
  rxPn : Nat
  rxSlot : Option (Nat × BitVec 8)
  /-- Released in HEEL (else LURCHER). -/
  heel : Bool
  /-- Pre-roll hit. -/
  hit : Bool
  /-- ICV verified. -/
  verified : Bool
  /-- Taken by a slice pair. -/
  pair : Bool
  unit : Option Nat
  seqn : Nat
  /-- Cells held in the KWB, in the hold buffer, in the TM. -/
  kwbCells : Nat
  holdCells : Nat
  tmCells : Nat
  tc : Nat
  /-- The queue of the classification result, if valid. -/
  clsQueue : Option Nat
  queue : Option Nat
  debit : Option Debit
  yellow : Bool
  /-- EXPRESS_PTP, ORIGIN, transmit capture requested. -/
  express : Bool
  origin : Bool
  capture : Bool
  /-- The start of the reserved slot in 2^-32 ns of TOD, and the departure time D: ns and fraction (R203, R249). -/
  slot : Option Int
  depart : Option (W64 × W32)
  /-- Receive timestamp, and the count of R242 at its capture. -/
  tRx : W64
  tRxFrac : W32
  rxCount : Nat
  /-- Its length from DA to FCS, when its last byte arrives within 9 CCLK of its first (R128). -/
  early : Option Nat
  /-- The head bound to it at PN allocation (R129); none when the SA was not hot. -/
  head : Option Head
  /-- Counted as a miss at the hit check (R129). -/
  missed : Bool
  /-- The TCI/AN byte and the explicit SCI of its SecTAG on transmit (R45, R46). -/
  tci : Nat
  tagSci : Option Nat
  /-- The encrypted frame from DA to the ICV. -/
  cipher : Option Bytes
  /-- Transmit timestamp, and the count of R242 at its capture. -/
  tTx : Option (W64 × W32 × Nat)
  /-- What is added to its correctionField, in 2^-16 ns (R246, R249). -/
  fix : Option Int
  /-- The time written into its originTimestamp (R248, R249). -/
  stamp : Option W64
  /-- Its twoStepFlag is set (R250). -/
  twoStep : Bool
  /-- A preemptable frame under transmission has been fragmented. -/
  fragments : Nat
  deriving DecidableEq, Repr

/-- A frame that enters the datapath. -/
def Frame.enter (kind : Kind) (stage : Stage) (ingress : Option Nat) (egress : Nat) (hdr : Bytes) : Frame :=
  { kind := kind, stage := stage, ingress := ingress, egress := egress, hdr := hdr, data := none, plain := none, shared := none, rxClear := 0,
    stomp := none, left := false, aborted := false, strict := false, stall := false, out := false, masks := none, release := none, txSch := none, txSah := none, pn := 0, txSlot := none, rxSch := none, rxSah := none,
    rxPn := 0, rxSlot := none, heel := false, hit := false, verified := false, pair := false, unit := none, seqn := 0,
    kwbCells := 0, holdCells := 0, tmCells := 0, tc := 0, clsQueue := none, queue := none, debit := none,
    yellow := false, express := false, origin := false, capture := false, slot := none, depart := none, tRx := 0,
    tRxFrac := 0, rxCount := 0, early := none, head := none, missed := false, tci := 0, tagSci := none, cipher := none,
    tTx := none, fix := none, stamp := none, twoStep := false, fragments := 0 }

/-- A frame as a port sent it. -/
structure TxFrame where
  /-- From DA to the last byte before the FCS. -/
  bytes : Bytes
  /-- Ended with a stomped FCS (R50). -/
  stomped : Bool
  deriving DecidableEq, Repr

/-- The frames in flight and the control path. -/
structure Flow where
  /-- Frames in flight, by the sender's number | list | R43 to R53, 02_ports_frame_path.md | none -/
  frames : Tab (Option Frame)
  /-- The waiting frames of each KWB in arrival order: host side (encrypt), line side (decrypt) | 2 x 1 MiB | R173, 07_key_manager.md | empty -/
  kwb : Two (List Nat)
  /-- The control-path FIFO to the CP | 64 KiB | R43, 02_ports_frame_path.md | empty -/
  cpFifo : List CpFrame
  /-- What the firmware took from the control path last | frame | R43, 02_ports_frame_path.md | none -/
  cpLast : Option CpFrame
  /-- What each port sent last | frame | R49, R50, 02_ports_frame_path.md | none -/
  sent : Tab (Option TxFrame)
  deriving DecidableEq, Repr

/-- No frame in flight. -/
def Flow.reset : Flow := { frames := [], kwb := ⟨[], []⟩, cpFifo := [], cpLast := none, sent := [] }

end Sys2Proof.Machine
end

