-- ==== Sys2Proof/Machine/FrameBytes.lean ====
section
/-! DEFINITION. The bytes of frames: parsing (R59, R60), PTP messages in them (R244), what the device writes into a frame in
clear (R219, R246, R249, R250), and the lengths of its parts. DEDUCED: log entry 82. -/
namespace Sys2Proof.Machine

/-! ### Parsing (R59, R60) -/

/-- A recognised SecTAG. -/
structure SecTag where
  tci : Nat
  sl : Nat
  pn : Nat
  /-- The SCI it carries. -/
  sci : Option Nat
  deriving DecidableEq, Repr

/-- Bytes of a SecTAG. -/
def SecTag.len (t : SecTag) : Nat := if t.sci.isSome then 16 else 8

/-- The fields of Table 3-1. -/
structure Parsed where
  da : Nat
  sa : Nat
  /-- Outer tag: TPID is 0x88A8; TCI. -/
  outer : Option (Bool × Nat)
  inner : Option Nat
  et : Nat
  pay : Nat
  tag : Option SecTag
  deriving DecidableEq, Repr

/-- A big-endian field of a header, 0 beyond its end. -/
def hbe (h : Bytes) (off n : Nat) : Nat := beNat (pad n (sub h off n))

/-- The fields of a frame from its first 48 bytes. -/
def parse (line : Bool) (hdr : Bytes) : Parsed :=
  let h := hdr.take 48
  let da := hbe h 0 6
  let sa := hbe h 6 6
  let t0 := hbe h 12 2
  if line && t0 == 0x88E5 then
    let tci := u8 h 14
    let sci := if nbit tci 5 then some (hbe h 20 8) else none
    let tag : SecTag := { tci := tci, sl := u8 h 15, pn := hbe h 16 4, sci := sci }
    { da := da, sa := sa, outer := none, inner := none, et := t0, pay := hbe h (12 + tag.len) 2, tag := some tag }
  else if t0 == 0x8100 || t0 == 0x88A8 then
    let outer := some (t0 == 0x88A8, hbe h 14 2)
    let t1 := hbe h 16 2
    if t1 == 0x8100 then
      { da := da, sa := sa, outer := outer, inner := some (hbe h 18 2), et := hbe h 20 2, pay := hbe h 22 2, tag := none }
    else { da := da, sa := sa, outer := outer, inner := none, et := t1, pay := hbe h 18 2, tag := none }
  else { da := da, sa := sa, outer := none, inner := none, et := t0, pay := hbe h 14 2, tag := none }

/-! ### PTP messages (R244) -/

/-- Where the PTP message of a frame in clear begins, for a frame that carries one. -/
def ptpAt (d : Bytes) : Option Nat :=
  let et (o : Nat) := beNat (sub d o 2)
  let tag (o : Nat) := et o == 0x8100 || et o == 0x88A8
  let o := if tag 12 then (if tag 16 then 20 else 16) else 12
  if et o == 0x88F7 && u8 d (o + 3) % 16 == 2 then some (o + 2) else none

/-- The messageType of a frame's event message, if it carries one. -/
def ptpEvent (d : Bytes) : Option Nat := match ptpAt d with
  | some m => if u8 d m % 16 ≤ 3 then some (u8 d m % 16) else none
  | none => none

/-- A Pdelay message: Pdelay_Req, Pdelay_Resp or Pdelay_Resp_Follow_Up. -/
def ptpPdelay (d : Bytes) : Bool := match ptpAt d with
  | some m => u8 d m % 16 == 2 || u8 d m % 16 == 3 || u8 d m % 16 == 10
  | none => false

/-- Write bytes over a frame at an offset, as far as it goes. -/
def overlay (d : Bytes) (off : Nat) (bs : Bytes) : Bytes :=
  if off + bs.length ≤ d.length then d.take off ++ bs ++ d.drop (off + bs.length) else d

/-- The correctionField with an amount added, modulo 2^64. -/
def ptpCorrect (k : Int) (m : Nat) (d : Bytes) : Bytes :=
  overlay d (m + 8) (leInt 8 (signed 8 (beNat (sub d (m + 8) 8)) + k)).reverse

/-- originTimestamp as the PTP view of a TOD (R235, R249). -/
def ptpOrigin (t : W64) (m : Nat) (d : Bytes) : Bytes :=
  overlay d (m + 34) (be 6 (t.toNat / 1000000000) ++ be 4 (t.toNat % 1000000000))

/-- twoStepFlag set (R250). -/
def ptpTwoStep (m : Nat) (d : Bytes) : Bytes := overlay d (m + 6) [(d.getD (m + 6) 0) ||| 2]

/-- What the device writes into a frame's PTP message (R246, R249, R250). -/
def ptpApply (f : Frame) (d : Bytes) : Bytes := match ptpAt d with
  | none => d
  | some m =>
    let d := match f.fix with
      | some k => ptpCorrect k m d
      | none => d
    let d := match f.stamp with
      | some t => ptpOrigin t m d
      | none => d
    if f.twoStep then ptpTwoStep m d else d

/-- A yellow frame's first tag is marked DEI (R219). -/
def markYellow (d : Bytes) : Bytes :=
  let t := beNat (sub d 12 2)
  if t == 0x8100 || t == 0x88A8 then overlay d 14 [(d.getD 14 0) ||| 16] else d

/-! ### Lengths -/

/-- Cells of 256 bytes. -/
def cellsOf (n : Nat) : Nat := (n + 255) / 256

/-- The SecTAG of a received frame. -/
def rxTag (d : Bytes) : Option SecTag := (parse true d).tag

/-- Bytes of SecTAG and ICV that decryption takes off a received frame (R49). -/
def rxOver (d : Bytes) : Nat := ((rxTag d).map SecTag.len).getD 8 + 16

/-- Bytes of the SecTAG a frame leaves with. -/
def tagLen (f : Frame) : Nat := if f.tagSci.isSome then 16 else 8
/-- Bytes of SecTAG and ICV a frame leaves the line-egress TM with. -/
def macsecLen (f : Frame) : Nat := if f.kind == .enc || f.kind == .xcEnc then tagLen f + 16 else 0
/-- Secure-data bytes of a frame, as far as they have arrived. -/
def secureLen (f : Frame) : Nat :=
  let n := (f.data.getD f.hdr).length
  match f.kind with
  | .xcEnc => (f.shared.map (·.a.length)).getD 0
  | .dec | .xcDec =>
    let d := f.data.getD f.hdr
    n - 12 - (rxOver d - 16) - (if f.data.isSome then 16 else 0)
  | _ => n - 12

end Sys2Proof.Machine
end

