-- ==== Sys2Proof/Config.lean ====
section
/-! DEFINITION. What the spec leaves to other standards or open: uninterpreted functions and free values. None has a
body, so nothing can be proved of their values. The byte lengths their standards fix are imposed where they are used.
DEDUCED: log entry 70. DESIGN CHOICE: log entry 52. -/
namespace Sys2Proof.Config

/-- The DRBG's successive 256-bit outputs (free values: R66, R164, R294, R298 draw from it). -/
opaque drbg : Nat → BitVec 256
/-- A signature of a scheme by a key over a message. -/
opaque sign (scheme : Nat) (key msg : Bytes) : Bytes
/-- What MKA's distributed SAK unwraps to under a CAK's key-encrypting key: the key and the salt (R175; IEEE 802.1X by
reference). -/
opaque mkaUnwrap (cak wrapped : Bytes) : Option (Bytes × Bytes)
/-- The PUF key (Table 7-1). -/
opaque pufKey : Bytes
/-- The identity key pairs the boot ROM derives from a secret: the private key and its public key (R343). -/
opaque identityKey (secret label : Bytes) : Bytes × Bytes
/-- The die density of the LPDDR5X memory: one of three (R428). -/
opaque lpddrDensity : Fin 3
/-- The size of the LPDDR5X memory in bytes: 4, 8 or 16 GiB (R428, Table 12-14). -/
def lpddrSize : Nat := 4294967296 * 2 ^ lpddrDensity.val
/-- Where in the LPDDR5X, from its base, the firmware allocates the key manager's regions at boot (R163, R164). -/
opaque kmRegion : Nat
/-- Where in the LPDDR5X, from its base, the firmware allocates the statistics region at boot (R112). -/
opaque statRegion : Nat
/-- The transmit block boundary the TSU predicts: 2^-32 ns after a slot start, by port and slot start (R249). -/
opaque blockWait (port : Nat) (slot : Int) : Nat
/-- announceReceiptTimeout: the Announce intervals without an Announce after which a master is lost, which the spec names and does
not state (R240). -/
opaque announceReceiptTimeout : Nat
/-- The link key of two members of a pack that have run no exchange with each other, which the spec does not state (R266). -/
opaque linkKey (packId a b : Nat) : Bytes
/-- Whether a certificate chains to the Perdahar device root (R264; X.509 by reference). -/
opaque chains (cert : Bytes) : Bool
/-- A certificate's subject public key (R264, R344). -/
opaque certKey (cert : Bytes) : Bytes
/-- Where a value is unstated by the spec: the free value of a log entry's number, drawn by a count. -/
opaque free (entry n : Nat) : BitVec 64

/-- The mask under which the key manager splits a key into the shares of a KENNEL slot, drawn by a count (R167, Table 7-6). -/
opaque split (n : Nat) : BitVec 2048
/-- The OTP share of the UDS (Table 7-1). -/
opaque otpShare : Bytes
/-- The next state of the 32-bit generator of the tamper loops, and the word it gives a loop then (R355). -/
opaque loopNext : BitVec 32 → BitVec 32
opaque loopWord : BitVec 32 → BitVec 8
/-- A byte of the boot ROM, by its address. -/
opaque romByte : Nat → BitVec 8
/-- The OTP configuration words that MEAS0 is extended with: revocation and owner digest, in a layout the spec does not
state (Table 14-5). -/
opaque otpWords (revoked : BitVec 4) (ownerDigest : Bytes) : Bytes
/-- What MEAS2 holds under the recovery agent, which the spec does not state (Table 14-5). -/
opaque recoveryMeas : Bytes
/-- The firmware-signing public key of a generation: scheme 1 ECDSA, 2 ML-DSA (R332). -/
opaque fwKey (generation scheme : Nat) : Bytes
/-- The IDevID certificate Perdahar writes into a slot at manufacture (R344). -/
opaque idevCert (slot : Nat) : Bytes
/-- Whether a certificate's subject public key is a slot's public key (R344). -/
opaque certSubject (cert key : Bytes) : Bool
/-- The signed part and the signature of a certificate (R344). -/
opaque certParts (cert : Bytes) : Bytes × Bytes
/-- The meter's own private key of a scheme, derived from its PUF (R403, R410). -/
opaque meterKey (scheme : Nat) : Bytes
/-- The PKCS #10 request for a key pair (R344). -/
opaque csr (key : Bytes × Bytes) : Bytes

end Sys2Proof.Config
end

