-- ==== Sys2Proof/Machine/BootState.lean ====
section
/-! DEFINITION. State of boot, life cycle and identity (14_boot_lifecycle.md), of the part's fuses and of the reset
pins (19_electrical_package.md). Each field's docstring reads: what it is | width | rule and file | value at reset. -/
namespace Sys2Proof.Machine

/-- A valid directory copy (R331). -/
structure DirCopy where
  seq : Nat
  active : Nat
  trial : Option Nat
  attempts : Nat
  deriving DecidableEq, Repr

/-- An image slot of the flash (R330): its manifest and its code, both empty for one that is erased or being written. -/
structure ImageSlot where
  manifest : Bytes
  code : Bytes
  deriving DecidableEq, Repr

/-- What runs on the CP (R334, R347). -/
structure Running where
  /-- 0 A, 1 B, none for no image (boot ROM, recovery agent). -/
  image : Option Nat
  trial : Bool
  version : Nat
  svn : Nat
  digest : Bytes
  revoke : Nat
  keyGen : Nat
  deriving DecidableEq, Repr

/-- No image (R338). -/
def Running.none : Running :=
  { image := Option.none, trial := false, version := 0, svn := 0, digest := [], revoke := 0, keyGen := 0 }

/-- Staging (R346). -/
structure Stage14 where
  /-- 0 NONE, 1 WRITING, 2 STAGED, 3 FAILED. -/
  st : Nat
  slot : Nat
  version : Nat
  svn : Nat
  digest : Bytes
  /-- The image being written. -/
  image : ImageSlot
  /-- The deferred work of FW_IMAGE_STAGE. -/
  deferred : Nat
  deriving DecidableEq, Repr

/-- Staging NONE. -/
def Stage14.none : Stage14 :=
  { st := 0, slot := 0, version := 0, svn := 0, digest := [], image := ⟨[], []⟩, deferred := 0 }

/-- The BBRAM and the AON-reset flag, in the battery domain (R340). -/
structure Bbram where
  /-- The root-key share | 256 bits | R156, 07_key_manager.md; R340, 14_boot_lifecycle.md | none (no supply before) -/
  share : Option Bytes
  /-- Recorded transition counter and life-cycle code | 8 + 3 bits | R340, 14_boot_lifecycle.md | none (AON-reset case) -/
  recorded : Option (Nat × Nat)
  /-- State counter | 64 bits | R166, 07_key_manager.md | DESIGN CHOICE 0, log entry 19 -/
  counter : W64
  /-- AON-reset flag | 1 bit | R340, 14_boot_lifecycle.md | 1 (set at power-up from no supply) -/
  aonReset : Bool
  deriving DecidableEq, Repr

/-- Boot, life cycle and identity. -/
structure Boot where
  /-- POR_L asserted | pin | R425, 19_electrical_package.md | DESIGN CHOICE asserted, log entry 1 -/
  por : Bool
  /-- SYS_RST_L asserted | pin | R425, 19_electrical_package.md | DESIGN CHOICE released, log entry 1 -/
  sysRst : Bool
  /-- The reset in progress began with POR_L | 1 bit | R425, R436, 19_electrical_package.md | true (power-up) -/
  cold : Bool
  /-- TCLK cycles since POR_L was released | count | R350, 14_boot_lifecycle.md; R425, 19_electrical_package.md | 0 -/
  porClk : Nat
  /-- TCLK cycles since the last reset input was released | count | R425 Table 19-9, 19_electrical_package.md | 0 -/
  pinClk : Nat
  /-- HIF_FW_STATE.AGENT: 0 BOOT_ROM, 1 RECOVERY, 2 FIRMWARE, 3 HALTED | 2 bits | R285 Table 12-3, 12_host_interface.md | 0 -/
  agent : Nat
  /-- The device is out of reset and the boot ROM has handed over | 1 bit | R334, 14_boot_lifecycle.md | false (held in reset) -/
  handed : Bool
  /-- The recovery agent runs (else the firmware), once handed over | 1 bit | R338, 14_boot_lifecycle.md | false -/
  recovery : Bool
  /-- The meter fuse: present (-A) | 1 fuse | R1, R2, 00_scope.md | DESIGN CHOICE present, log entry 2 -/
  meterFuse : Bool
  /-- Temperature grade E | 1 fuse | R1, R4, 00_scope.md | DESIGN CHOICE grade C, log entry 2 -/
  gradeE : Bool
  /-- Device serial | 64 bits | R307 Table 12-14, 12_host_interface.md | DESIGN CHOICE 0, log entry 2 -/
  serial : W64
  /-- Life-cycle state in OTP | 3 bits | R339, 14_boot_lifecycle.md | DESIGN CHOICE RAW (0), log entry 2 -/
  lc : Nat
  /-- HIF_FW_STATE.LC and SUM_STATE.LC, loaded at boot | 3 bits | R285 Table 12-3, 12_host_interface.md | 0x0 -/
  lcView : Nat
  /-- ZEROIZED | 1 bit | R340, 14_boot_lifecycle.md | 0 -/
  zeroized : Bool
  /-- SVN counter | 128 fuses | R336, 14_boot_lifecycle.md | DESIGN CHOICE 0, log entry 2 -/
  svn : Nat
  /-- Revoked key generations | 4 fuses | R336, 14_boot_lifecycle.md | DESIGN CHOICE 0, log entry 2 -/
  revoked : BitVec 4
  /-- Transition counter | 64 fuses | R336, 14_boot_lifecycle.md | DESIGN CHOICE 0, log entry 2 -/
  transitions : Nat
  /-- Owner scheme, 0 before the claim; owner key block; owner digest | 1 + 2,049 + 48 bytes | R342, 14_boot_lifecycle.md | DESIGN CHOICE none, log entry 2 -/
  ownerScheme : Nat
  ownerKey : Bytes
  ownerDigest : Bytes
  /-- The battery-domain RAM | see Bbram | R340, 14_boot_lifecycle.md | see Bbram -/
  bbram : Bbram
  /-- Flash directory copies 0 and 1, none when not valid | 16 bytes each | R331, 14_boot_lifecycle.md | DESIGN CHOICE not valid (erased flash), log entry 2 -/
  dir0 : Option DirCopy
  dir1 : Option DirCopy
  /-- Image slots A and B | 16 MiB each | R330, 14_boot_lifecycle.md | DESIGN CHOICE erased, log entry 2 -/
  slotA : ImageSlot
  slotB : ImageSlot
  /-- Certificates of slots 0 to 3 | 8 KiB each | R344, 14_boot_lifecycle.md | DESIGN CHOICE none, log entry 2 -/
  certs : Tab (Option Bytes)
  /-- The running image | see Running | R334, R347, 14_boot_lifecycle.md | none -/
  running : Running
  /-- Staging | see Stage14 | R346, 14_boot_lifecycle.md | NONE -/
  staging : Stage14
  /-- The staged manifest's checks passed under the running image (MK derivable) | 1 bit | R177, 07_key_manager.md | false -/
  staged : Bool
  /-- MEAS0-MEAS7 | 8 x 48 bytes | R337, 14_boot_lifecycle.md | 0 -/
  meas : Tab Bytes
  /-- MEAS_CTRL.INDEX | 3 bits | R337 Table 14-6, 14_boot_lifecycle.md | 0x0 -/
  measIndex : BitVec 3
  /-- MEAS_CTRL.BUSY, and the extension in progress | 1 bit, 3 bits and 48 bytes | R337 Table 14-6, 14_boot_lifecycle.md | 0 -/
  measBusy : Option (Nat × Bytes)
  /-- MEAS_CTRL.LOCK_LOW, W1S | 1 bit | R337 Table 14-6, 14_boot_lifecycle.md | 0 -/
  lockLow : Bool
  /-- MEAS_CTRL.IGNORED, W1C | 1 bit | R337 Table 14-6, 14_boot_lifecycle.md | 0 -/
  measIgnored : Bool
  /-- MEAS_DATA0-11 | 48 bytes | R337 Table 14-6, 14_boot_lifecycle.md | 0 -/
  measData : Tab W32
  /-- The identity key pairs in PKE slots 0 to 3 | key pairs | R343, 14_boot_lifecycle.md | none (derived at boot) -/
  ids : Tab (Option (Bytes × Bytes))
  /-- A transition waits for MUZZLE_DONE: its target | 3 bits | R341, 14_boot_lifecycle.md | none -/
  transition : Option Nat
  /-- A core reset is due at a TOD | 64 bits | R341, R352, 14_boot_lifecycle.md | none -/
  coreReset : Option W64
  /-- Boot results the first agent records as events: code and parameters | list | R334, 14_boot_lifecycle.md | none -/
  results : List (Nat × Bytes)
  deriving DecidableEq, Repr

/-- The device held in reset after power-up. -/
def Boot.reset : Boot :=
  { por := true, sysRst := false, cold := true, porClk := 0, pinClk := 0, agent := 0, handed := false, recovery := false, meterFuse := true, gradeE := false,
    serial := 0, lc := 0, lcView := 0, zeroized := false, svn := 0, revoked := 0, transitions := 0, ownerScheme := 0,
    ownerKey := [], ownerDigest := [], bbram := { share := none, recorded := none, counter := 0, aonReset := true },
    dir0 := none, dir1 := none, slotA := ⟨[], []⟩, slotB := ⟨[], []⟩, certs := [], running := .none,
    staging := .none, staged := false, meas := [], measIndex := 0, measBusy := none, lockLow := false,
    measIgnored := false, measData := [], ids := [], transition := none, coreReset := none, results := [] }

end Sys2Proof.Machine
end

