-- ==== Sys2Proof/Machine/ChannelState.lean ====
section
/-! DEFINITION. State of the secure channels, the security associations and the transcryption pairings
(04_channels_rekey.md, 06_transcryption.md). Each field's docstring reads: what it is | width | rule and file |
value at reset. -/
namespace Sys2Proof.Machine

/-- An IN_USE SC record (R85, Table 4-2), with its counters (R111). -/
structure Sc where
  /-- Direction: true RX. -/
  rx : Bool
  /-- Line port number, 0x20 to 0x3F. -/
  port : Nat
  /-- Suite of Table 4-1. -/
  suite : Nat
  /-- SCI option of Table 2-7 (TX). -/
  option : Nat
  replay : Bool
  group : Bool
  /-- SCI, network order. -/
  sci : Nat
  window : Nat
  create : W64
  /-- TX_NOSA_DROP_CNT or RX_NOSA_DROP_CNT. -/
  nosa : W64
  /-- SA_SWITCH_CNT. -/
  switches : W64
  deriving DecidableEq, Repr

/-- SA states with the codes of Table 4-4. -/
inductive SaSt where
  | free | installed | armed | current | exhausted | superseded | active | retiring | draining
  deriving DecidableEq, Repr

/-- The state code of the SA record (Table 4-4). -/
def SaSt.code : SaSt → Nat
  | .free => 0 | .installed => 1 | .armed => 2 | .current => 3 | .exhausted => 4 | .superseded => 5
  | .active => 6 | .retiring => 7 | .draining => 8

/-- An SA record (R85, Table 4-3), kept after the SA is FREE again (R114). -/
structure Sa where
  sch : Nat
  an : Nat
  st : SaSt
  rx : Bool
  integrityOnly : Bool
  strict : Bool
  offset : Nat
  /-- RX: release; TX: switch condition. -/
  mode : Nat
  ssci : Nat
  /-- Next PN, not yet saturated as Table 4-3 shows it. -/
  next : Nat
  /-- TX: PN threshold; RX: floor. -/
  thr : Nat
  /-- TX: first PN used; RX: lowest acceptable PN. -/
  low : Nat
  /-- TX: switch TOD; RX: retire TOD. -/
  tod : W64
  /-- State change TOD. -/
  change : W64
  /-- Event 0x3001 was raised for the SA (R102). -/
  thrRaised : Bool
  /-- The threshold was reached (R103). -/
  reachedThr : Bool
  /-- A frame of the RX SA has verified (R113). -/
  used : Bool
  /-- Tag of the command whose entry stopped the SA (R109). -/
  tag : Nat
  /-- TX: the SA's last 8 frames, newest first: none for longer than S, else its data blocks (R128). -/
  lens : List (Option Nat)
  /-- Deferred work that ends when the SA reaches FREE (R108, R109). -/
  waiters : List Nat
  /-- The on-chip partials of the four counters of Table 4-8, in its order; their totals lie in the statistics region (R112). -/
  c0 : Nat
  c1 : Nat
  c2 : Nat
  c3 : Nat
  /-- SATURATED (R112). -/
  saturated : Bool
  deriving DecidableEq, Repr

/-- A pairing of an RX SC (R143). -/
structure Pairing where
  tx : Nat
  tod : W64
  deriving DecidableEq, Repr

/-- Transcryption counters of a line port (R153, Table 6-3). -/
structure XcCnt where
  frames : W64
  octets : W64
  nopair : W64
  expose : W64
  deriving DecidableEq, Repr

/-- All 0. -/
def XcCnt.reset : XcCnt := ⟨0, 0, 0, 0⟩

/-- Channels and associations. -/
structure Chan where
  /-- SC records, 65,536 | 40 bytes each | R85 Table 4-2, 04_channels_rekey.md | all FREE -/
  scs : Tab (Option Sc)
  /-- SA records, 131,072, none before the first installation | 64 bytes each | R85 Table 4-3, 04_channels_rekey.md | none installed since reset -/
  sas : Tab (Option Sa)
  /-- RX_UNKNOWN_SCI_CNT by line port | 32 x 64 bits | R101, R111, 04_channels_rekey.md | 0 (R386) -/
  unknownSci : Tab W64
  /-- Transcryption pairings by RX SCH | 16 + 64 bits each | R143, 06_transcryption.md | none -/
  pairs : Tab (Option Pairing)
  /-- Transcryption counters by line port | 32 x 32 bytes | R153, 06_transcryption.md | 0 (R386) -/
  xc : Tab XcCnt
  /-- TOD of the last statistics spill sweep | 64 bits | R112, 04_channels_rekey.md | DESIGN CHOICE 0, log entry 12 -/
  spillTod : W64
  deriving DecidableEq, Repr

/-- Channels after reset. -/
def Chan.reset : Chan := { scs := [], sas := [], unknownSci := [], pairs := [], xc := [], spillTod := 0 }

end Sys2Proof.Machine
end

