-- ==== Sys2Proof/Machine/ClassifierState.lean ====
section
/-! DEFINITION. State of the two classifiers and their Table Command Units (03_classifier.md). Each field's
docstring reads: what it is | width | rule and file | value at reset. -/
namespace Sys2Proof.Machine

/-- A classification result (R61, Table 3-2). -/
structure ClsRes where
  /-- Valid mask: bit 0 decision, 1 SC, 2 policer, 3 TC, 4 queue, 5 flags. -/
  valid : BitVec 6
  /-- 0 CONTROLLED, 1 UNCONTROLLED, 2 DROP, 3 TO_CP. -/
  decision : Nat
  tc : Nat
  sch : Nat
  pol : Nat
  queue : Nat
  /-- Bit 0 EXPRESS_PTP, bit 1 PRE_YELLOW, bit 2 NO_LEARN. -/
  flags : BitVec 3
  deriving DecidableEq, Repr

/-- Valid mask 0 (R65). -/
def ClsRes.reset : ClsRes := { valid := 0, decision := 0, tc := 0, sch := 0, pol := 0, queue := 0, flags := 0 }

/-- A stored XT entry, Table 3-5, with its age stamp (R66, R77). -/
structure XtEntry where
  /-- TYPE: 1 SCI, 2 DA_VID. -/
  typ : Nat
  /-- The port number. -/
  port : Nat
  /-- KEY, in the layout of Table 3-5. -/
  key : Nat
  /-- TAGGED (DA_VID). -/
  tagged : Bool
  learned : Bool
  staged : Bool
  version : BitVec 2
  res : ClsRes
  stamp : BitVec 8
  deriving DecidableEq, Repr

/-- What an XT location holds: nothing when VALID is 0. -/
abbrev XtSlot := Option XtEntry

/-- A PT entry (R71, Table 3-11); VALID 0 is no entry. -/
structure PtEntry where
  key : Bytes
  mask : Bytes
  res : ClsRes
  /-- PT_HIT_CNT (R73). -/
  hits : W64
  deriving DecidableEq, Repr

/-- One staged change of a batch (R81). -/
inductive Staged where
  /-- A DT write: port and VID. -/
  | dt (port vid : Nat) (res : ClsRes)
  /-- An XT insert: its location already holds the entry with STAGED 1. -/
  | xtIns (loc : Nat)
  /-- An XT modify at a location. -/
  | xtMod (loc : Nat) (e : XtEntry)
  /-- An XT delete of the entry a location holds. -/
  | xtDel (loc : Nat) (e : XtEntry)
  /-- A PT write. -/
  | pt (index : Nat) (e : Option PtEntry)
  deriving DecidableEq, Repr

/-- A queued learn request (R74). -/
structure LearnReq where
  port : Nat
  sci : Nat
  deriving DecidableEq, Repr

/-- A learn notice or an ageing notice on its way to firmware (R76). -/
structure LearnNote where
  /-- Ageing removal (AGED) or learn. -/
  aged : Bool
  port : Nat
  sci : Nat
  /-- XT location in the CLS_TCU_LOC layout. -/
  loc : W32
  tod : W64
  deriving DecidableEq, Repr

/-- Learning settings of a port (R74 to R76). -/
structure LearnCfg where
  on : Bool
  notifyLearned : Bool
  notifyAged : Bool
  limit : Nat
  deriving DecidableEq, Repr

/-- Learning is off after reset (R74). -/
def LearnCfg.reset : LearnCfg := { on := false, notifyLearned := false, notifyAged := false, limit := 0 }

/-- Per-port drop counters of Table 3-13. -/
structure ClsPortCnt where
  drop : W64
  default : W64
  untagged : W64
  nosc : W64
  deriving DecidableEq, Repr

/-- All 0. -/
def ClsPortCnt.reset : ClsPortCnt := ⟨0, 0, 0, 0⟩

/-- A TBL_FLUSH sweep in progress (R82). -/
structure Flush where
  port : Nat
  scope : Nat
  /-- The deferred work it ends. -/
  deferred : Nat
  deriving DecidableEq, Repr

/-- One side's classifier. -/
structure Cls where
  /-- The direct tables, 32 x 4096 results, by port x 4096 + VID | 16 bytes each | R65, 03_classifier.md | valid mask 0 -/
  dt : Tab ClsRes
  /-- The exact-match table, 4 ways of 65,536 rows by way x 65536 + row, and the 8 stash entries from 262144 on | 256 bits each | R66, 03_classifier.md | DESIGN CHOICE all VALID 0 (Table 3-5), log entry 10 -/
  xt : Tab XtSlot
  /-- The four way seeds, drawn from the DRBG at reset | 4 x 32 bits | R66, 03_classifier.md | free value drawn at each reset; before the first, DESIGN CHOICE 0, log entry 11 -/
  seeds : Tab W32
  /-- The policy table, 8,192 entries | 64 bytes each | R71, 03_classifier.md | all invalid -/
  pt : Tab (Option PtEntry)
  /-- The learn queue, 16 requests | list | R74, 03_classifier.md | empty -/
  learnQ : List LearnReq
  /-- The learn FIFO, 1,024 notices | list | R76, 03_classifier.md | empty -/
  learnFifo : List LearnNote
  /-- Learning settings by port | 32 | R74, R75, R76, 03_classifier.md | off -/
  learn : Tab LearnCfg
  /-- LEARN_LIMIT_REACHED is signalled, by port | 1 bit each | R75, R84, 03_classifier.md | false -/
  atLimit : List Nat
  /-- The tick number | 8 bits | R77, 03_classifier.md | DESIGN CHOICE 0, log entry 10 -/
  tick : BitVec 8
  /-- TOD of the last tick | 64 bits | R77, 03_classifier.md | DESIGN CHOICE 0, log entry 10 -/
  tickTod : W64
  /-- Sweeps that wait for the maintenance port, one for each tick | count | R77, R79, 03_classifier.md | 0 -/
  sweepDue : Nat
  /-- CLS_AGE_CFG.AGE_TICK | 16 bits | R77 Table 3-9, 03_classifier.md | 0x03E8 -/
  ageTick : W16
  /-- CLS_AGE_CFG.AGE_LIMIT | 8 bits | R77 Table 3-9, 03_classifier.md | 0x3C -/
  ageLimit : BitVec 8
  /-- CLS_TCU_STATUS.BUSY, and the operation in progress | 1 bit | R80 Table 3-9, 03_classifier.md | 0 -/
  busy : Bool
  /-- CLS_TCU_STATUS.DONE, W1C | 1 bit | R80 Table 3-9, 03_classifier.md | 0 -/
  doneBit : Bool
  /-- CLS_TCU_STATUS.OVERRUN, W1C | 1 bit | R80 Table 3-9, 03_classifier.md | 0 -/
  overrun : Bool
  /-- CLS_TCU_STATUS.CODE | 4 bits | R80 Table 3-9, 03_classifier.md | 0 -/
  code : Nat
  /-- CLS_TCU_STATUS.MOVES | 2 bits | R80 Table 3-9, 03_classifier.md | 0 -/
  moves : Nat
  /-- CLS_TCU_STATUS.STASHED | 1 bit | R80 Table 3-9, 03_classifier.md | 0 -/
  stashed : Bool
  /-- CLS_TCU_ARG.INDEX | 16 bits | R80 Table 3-9, 03_classifier.md | 0x0000 -/
  argIndex : W16
  /-- CLS_TCU_ARG.PORT | 8 bits | R80 Table 3-9, 03_classifier.md | 0x00 -/
  argPort : BitVec 8
  /-- CLS_TCU_LOC | 22 bits | R80 Table 3-9, 03_classifier.md | 0 -/
  loc : W32
  /-- CLS_TCU_DATA0-17 | 72 bytes | R80 Table 3-9, 03_classifier.md | 0x0000_0000 each -/
  data : Tab W32
  /-- The result of the operation in progress, shown at DONE: code, moves, stashed | 4 + 2 + 1 bits | R80, 03_classifier.md | 0 (no operation) -/
  opCode : Nat
  opMoves : Nat
  opStashed : Bool
  /-- The port of a static XT insertion in progress, for event 0x2003 | 8 bits | R84, 03_classifier.md | none -/
  opInsPort : Option Nat
  /-- The staging buffer, 256 entries | list | R81, 03_classifier.md | empty -/
  staging : List Staged
  /-- CLS_STAGE_STATUS.COMMITTED | 1 bit | R81 Table 3-9, 03_classifier.md | 0 -/
  committed : Bool
  /-- XT_STASH_HIGH was raised and XT_STASH_LOW not yet | 1 bit | R84, 03_classifier.md | false -/
  stashHigh : Bool
  /-- Flush sweeps in progress | list | R82, 03_classifier.md | none -/
  flushes : List Flush
  /-- XT_INSERT_CNT, XT_MOVE_CNT, XT_STASH_CNT | 64 bits each | R82 Table 3-13, 03_classifier.md | 0 (R386) -/
  insertCnt : W64
  moveCnt : W64
  stashCnt : W64
  /-- LEARN_CNT, LEARN_EVICT_CNT, LEARN_FAIL_CNT, LEARN_LIMIT_CNT, LEARN_DROP_CNT, LEARN_NOTICE_LOST_CNT | 64 bits each | R82 Table 3-13, 03_classifier.md | 0 (R386) -/
  learnCnt : W64
  evictCnt : W64
  failCnt : W64
  limitCnt : W64
  dropCnt : W64
  noticeLostCnt : W64
  /-- AGE_REMOVE_CNT, CLS_QUEUE_OOR_CNT | 64 bits each | R82 Table 3-13, 03_classifier.md | 0 (R386) -/
  ageRemoveCnt : W64
  queueOorCnt : W64
  /-- Per-port drop counters | 32 x 4 x 64 bits | R64, R82 Table 3-13, 03_classifier.md | 0 (R386) -/
  perPort : Tab ClsPortCnt
  deriving DecidableEq, Repr

/-- A classifier after reset. -/
def Cls.reset : Cls :=
  { dt := [], xt := [], seeds := [], pt := [], learnQ := [], learnFifo := [], learn := [], atLimit := [], tick := 0,
    tickTod := 0, sweepDue := 0, ageTick := 0x03E8, ageLimit := 0x3C, busy := false, doneBit := false, overrun := false, code := 0,
    moves := 0, stashed := false, argIndex := 0, argPort := 0, loc := 0, data := [], opCode := 0, opMoves := 0,
    opStashed := false, opInsPort := none, staging := [], committed := false, stashHigh := false, flushes := [],
    insertCnt := 0, moveCnt := 0, stashCnt := 0, learnCnt := 0, evictCnt := 0, failCnt := 0, limitCnt := 0,
    dropCnt := 0, noticeLostCnt := 0, ageRemoveCnt := 0, queueOorCnt := 0, perPort := [] }

end Sys2Proof.Machine
end

