-- ==== Sys2Proof/Machine/CounterState.lean ====
section
/-! DEFINITION. State of the performance counters, the central reader, the thresholds and the health monitors
(17_counters_health.md). Each field's docstring reads: what it is | width | rule and file | value at reset. -/
namespace Sys2Proof.Machine

/-- A performance counter (R386, Table 17-2). -/
structure Pmc where
  /-- PMCn_CFG.EVENT | 8 bits | R386 Table 17-2, 17_counters_health.md | 0x00 -/
  event : Nat
  /-- PMCn_CFG.ENABLE, EDGE, CHAIN, OVF | 1 bit each | R386 Table 17-2, 17_counters_health.md | 0 -/
  enable : Bool
  edge : Bool
  chain : Bool
  ovf : Bool
  /-- PMCn_CFG.FILTER | 8 bits | R386 Table 17-2, 17_counters_health.md | 0xFF -/
  filter : Nat
  /-- PMCn_VAL.VALUE | 32 bits | R386 Table 17-2, 17_counters_health.md | 0 -/
  value : W32
  /-- How often its event had occurred, for the ports of its filter, when the value was last brought up to date | 64 bits | R387, 17_counters_health.md | 0 -/
  base : W64
  /-- EDGE: the cycle, in TCLK since reset, in which its event was last seen | count | R387, 17_counters_health.md | none -/
  seen : Option Nat
  deriving DecidableEq, Repr

/-- A performance counter after reset (R386). -/
def Pmc.reset : Pmc :=
  { event := 0, enable := false, edge := false, chain := false, ovf := false, filter := 0xFF, value := 0, base := 0, seen := none }

/-- A threshold slot in use (R392). -/
structure Thr where
  id : W32
  /-- Window in ms. -/
  window : Nat
  thr : W64
  forward : Bool
  /-- Value at the start of the window. -/
  base : W64
  /-- The event of this episode was raised. -/
  episode : Bool
  /-- The counter was written in this window: its delta is discarded. -/
  discard : Bool
  /-- TOD at which the window began. -/
  start : W64
  deriving DecidableEq, Repr

/-- One daily sample of an item: its value and its place on the item's axis (R395). -/
structure DaySample where
  value : Int
  /-- Days, or stress-equivalent hours in units of 2^-32 h. -/
  axis : Nat
  deriving DecidableEq, Repr

/-- A health item (R395, Table 17-6). -/
structure HItem where
  /-- The last 64 daily samples, newest first. -/
  samples : List DaySample
  /-- 0 NO_FORECAST, 1 OK, 2 WARN, 3 URGENT, 4 AT_LIMIT. -/
  st : Nat
  /-- 0xFFFF for no forecast. -/
  days : Nat
  /-- Value units per 1,000 axis units. -/
  slope : Int
  deriving DecidableEq, Repr

/-- An item of a history just begun. -/
def HItem.reset : HItem := { samples := [], st := 0, days := 0xFFFF, slope := 0 }

/-- The health history as the flash holds it (R397). -/
structure History where
  items : Tab HItem
  stress : Nat
  stressDays : List Nat
  powered : Nat
  dayNo : Nat
  dayTod : W64
  deriving DecidableEq, Repr

/-- A history just begun. -/
def History.reset : History := { items := [], stress := 0, stressDays := [], powered := 0, dayNo := 0, dayTod := 0 }

/-- One of the two copies of the health history in the xSPI flash: never written, with a wrong CRC-32C, or good (R397). -/
inductive HistoryCopy where
  | blank
  | damaged
  | valid (h : History)
  deriving DecidableEq, Repr

/-- Counters and health. -/
structure Cnt where
  /-- PMC n of block k, at 8 k + n | 12 blocks x 8 | R386 Table 17-2, 17_counters_health.md | see Pmc -/
  pmc : Tab Pmc
  /-- Occurrences since reset of event e of block k at port p, at 128 (16 k + e) + p; those that a statistics counter counts are not here | 64 bits each | R386, R387 Table 17-3, 17_counters_health.md | 0 -/
  occ : Tab W64
  /-- TCLK cycles since the device reset, two CCLK each | count | R387, R391, 17_counters_health.md; R25, 01_architecture.md | 0 -/
  tclk : Nat
  /-- CRD_COUNT.COUNT as written | 11 bits | R390 Table 17-4, 17_counters_health.md | 0x001 -/
  crdCount : BitVec 11
  /-- CRD_STATUS.BUSY, DONE, INVALID, OVERRUN | 1 bit each | R390 Table 17-4, 17_counters_health.md | 0 -/
  crdBusy : Bool
  crdDone : Bool
  crdInvalid : Bool
  crdOverrun : Bool
  /-- The sweep in progress has met an entry that names no counter | 1 bit | R390 Table 17-4, 17_counters_health.md | false -/
  crdFound : Bool
  /-- CRD_INVALID_IDX.INDEX | 11 bits | R390 Table 17-4, 17_counters_health.md | 0x000 -/
  crdInvalidIdx : Nat
  /-- CRD_TOD, start TOD of the last sweep | 64 bits | R390 Table 17-4, 17_counters_health.md | 0 -/
  crdTod : W64
  /-- CRD_DURATION | 32 bits | R390 Table 17-4, 17_counters_health.md | 0 -/
  crdDuration : Nat
  /-- The sweep in progress: its entries, and how many of them are latched | 2 x 11 bits | R389, 17_counters_health.md | none -/
  crdSweep : Option (Nat × Nat)
  /-- CRD_LIST | 1024 x 32 bits | R390 Table 17-4, 17_counters_health.md | 0 -/
  crdList : Tab W32
  /-- CRD_RESULT | 1024 x 64 bits | R390 Table 17-4, 17_counters_health.md | 0 -/
  crdResult : Tab W64
  /-- Threshold slots | 64 | R392, 17_counters_health.md | free -/
  thr : Tab (Option Thr)
  /-- Health items: AGE 0-23 at 0, SERDES 0-65 at 24, BATTERY at 90, OTP_TRANSITION at 91, OTP_SVN at 92 | 93 | R393, R395, 17_counters_health.md | DESIGN CHOICE no samples (a new history), log entry 21 -/
  items : Tab HItem
  /-- Latest hourly value of AM0-AM23, 0.001 % | 24 x 32 bits signed | R393 Table 17-9, 17_counters_health.md | DESIGN CHOICE 0, log entry 21 -/
  am : Tab Int
  /-- Latest eye height by lane, mV | 66 x 16 bits | R393 Table 17-9, 17_counters_health.md | 0 (never measured) -/
  eye : Tab Nat
  /-- VBAT samples since the last daily sample: sum and number | mV, count | R393 Table 17-5, 17_counters_health.md | DESIGN CHOICE 0, log entry 21 -/
  vbatSum : Nat
  vbatNum : Nat
  /-- Stress-equivalent hours, units of 2^-32 h | count | R394, 17_counters_health.md | DESIGN CHOICE 0 (a new history), log entry 21 -/
  stress : Nat
  /-- Stress-equivalent hours at the last daily samples, newest first | up to 64 | R395, 17_counters_health.md | DESIGN CHOICE none, log entry 21 -/
  stressDays : List Nat
  /-- Powered seconds since the history began | count | R394 Table 17-6, 17_counters_health.md | DESIGN CHOICE 0, log entry 21 -/
  powered : Nat
  /-- Daily samples taken since the history began | count | R395, 17_counters_health.md | DESIGN CHOICE 0, log entry 21 -/
  dayNo : Nat
  /-- TOD of the last daily sample | 64 bits | Table 17-6, 17_counters_health.md | DESIGN CHOICE 0, log entry 21 -/
  dayTod : W64
  /-- SUM_LIFE.DAYS | 16 bits | R396; R305 Table 12-11, 12_host_interface.md | 0xFFFF (no forecast) -/
  days : Nat
  /-- Limiting kind and index | 2 x 8 bits | R396 Table 17-6, 17_counters_health.md | 0 (none) -/
  limKind : Nat
  limIndex : Nat
  /-- HLT_URGENT was raised and the days have been below 90 since | 1 bit | R396, 17_counters_health.md | DESIGN CHOICE false, log entry 21 -/
  urgent : Bool
  /-- The two copies of the health history in flash, written alternately | 2, in 256 KiB | R397, 17_counters_health.md | DESIGN CHOICE never written, log entry 21 -/
  hist0 : HistoryCopy
  hist1 : HistoryCopy
  deriving DecidableEq, Repr

/-- Counters and health of a new part after reset. -/
def Cnt.reset : Cnt :=
  { pmc := [], occ := [], tclk := 0, crdCount := 1, crdBusy := false, crdDone := false, crdInvalid := false, crdOverrun := false, crdFound := false,
    crdInvalidIdx := 0, crdTod := 0, crdDuration := 0, crdSweep := none, crdList := [], crdResult := [], thr := [],
    items := [], am := [], eye := [], vbatSum := 0, vbatNum := 0, stress := 0, stressDays := [], powered := 0,
    dayNo := 0, dayTod := 0, days := 0xFFFF, limKind := 0, limIndex := 0, urgent := false, hist0 := .blank,
    hist1 := .blank }

/-- The history a copy holds, none where it is not valid. -/
def HistoryCopy.get : HistoryCopy → Option History
  | .valid h => some h
  | _ => none

/-- The history in flash: the later of the valid copies, none where both are invalid (R397). -/
def Cnt.history (c : Cnt) : Option History := match c.hist0.get, c.hist1.get with
  | some a, some b => some (if b.dayNo < a.dayNo then a else b)
  | some a, none => some a
  | none, b => b

/-- The history as the registers of the firmware hold it now. -/
def Cnt.current (c : Cnt) : History :=
  { items := c.items, stress := c.stress, stressDays := c.stressDays, powered := c.powered, dayNo := c.dayNo, dayTod := c.dayTod }

/-- A history is written to its copy: the two take the days in turn (R397; log entry 21). -/
def Cnt.save (h : History) (c : Cnt) : Cnt :=
  if h.dayNo % 2 == 0 then { c with hist0 := .valid h } else { c with hist1 := .valid h }

end Sys2Proof.Machine
end

