-- ==== Sys2Proof/Machine/HostState.lean ====
section
/-! DEFINITION. State of the host interface (12_host_interface.md): HIF registers, mailboxes, sessions, the
notification queue, the SMBus target. Each field's docstring reads: what it is | width | rule and file | value at
reset. DESIGN CHOICE: log entry 68. -/
namespace Sys2Proof.Machine

/-- The states of a mailbox (Table 12-4, Table 12-5). -/
inductive MbState where
  | idle | posted | executing | done
  deriving DecidableEq, Repr

/-- The code of MBn_STATUS.STATE (Table 12-4). -/
def MbState.code : MbState → Nat
  | .idle => 0 | .posted => 1 | .executing => 2 | .done => 3

/-- One mailbox (R288, Table 12-4; MB_MTR has the same, R291). -/
structure Mailbox where
  /-- MBn_STATUS.STATE | 2 bits | R288, R289, 12_host_interface.md | IDLE (0x0) -/
  st : MbState
  /-- MBn_STATUS.OVERRUN, W1C | 1 bit | R288, 12_host_interface.md | 0 -/
  overrun : Bool
  /-- MBn_STATUS.COMPLETIONS, modulo 256 | 8 bits | R288, 12_host_interface.md | 0x00 -/
  completions : BitVec 8
  /-- MBn_CTRL.IRQ_EN | 1 bit | R288, 12_host_interface.md | 1 -/
  irqEn : Bool
  /-- MBn_CTRL.TIMEOUT_MS | 16 bits | R288, R290, 12_host_interface.md | 0x03E8 -/
  timeoutMs : W16
  /-- MBn_TAG.TAG | 16 bits | R288, R289, 12_host_interface.md | 0x0000 -/
  tag : W16
  /-- The watchdog expired while the command was EXECUTING under a running agent | 1 bit | R290, 12_host_interface.md | false (nothing posted) -/
  expired : Bool
  /-- Request area, 4 KiB | 4096 bytes | R285, R291, 12_host_interface.md | DESIGN CHOICE zero bytes, log entry 3 -/
  req : Tab Byte
  /-- Response area, 4 KiB | 4096 bytes | R285, R291, 12_host_interface.md | DESIGN CHOICE zero bytes, log entry 3 -/
  resp : Tab Byte
  deriving DecidableEq, Repr

/-- A mailbox at reset (Table 12-4). -/
def Mailbox.reset : Mailbox :=
  { st := .idle, overrun := false, completions := 0, irqEn := true, timeoutMs := 0x03E8, tag := 0,
    expired := false, req := [], resp := [] }

/-- An open session (R294, R298). -/
structure Session where
  /-- The session number, never 0 (Table 12-13). -/
  id : Nat
  /-- The session's current nonce, none when absent, consumed or expired (R298). -/
  nonce : Option W64
  deriving DecidableEq, Repr

/-- What a command that yields is waiting for (R295 and the chapters of the commands). -/
inductive Wait where
  /-- Not started, or not waiting. -/
  | none
  /-- SC_CREATE or SA_INSTALL of a GROUP channel waits for the lead's answer to a claim (R271). -/
  | claim (entries : List Bytes) (statuses : List Nat) (bad : List Nat)
  /-- KEY_PIN_SET waits for the fetch of a LOADING slot (R186). -/
  | fetch (slot : Nat)
  /-- KEY_PIN_SET waits in the miss table of a side for a slot for its SAH's fetch (R170, R186). -/
  | entry (side sah : Nat)
  /-- TOD_SET with AT_PPS_IN waits for the edge (R258). -/
  | pps
  /-- EPOCH_ENLIST waits for its vote to be acknowledged (R282). -/
  | vote (epoch : Nat)
  /-- LC_STATE_SET waits for MUZZLE_DONE and its commit (R341). -/
  | muzzle (target : Nat)
  /-- LC_DEBUG_UNLOCK waits for the granted level to be applied (R325). -/
  | debug (level : Nat)
  /-- MTR_STATEMENT_GET waits for the latch (R410). -/
  | statement
  /-- MTR_BINDING_SET waits for the final sweep of the old bank (R408). -/
  | binding
  /-- EPOCH_ABORT waits for the deputy's acknowledgement (R274). -/
  | deputy (epoch : Nat)
  /-- FW_IMAGE_ACTIVATE with CONFIRM: a reset falls during its fuse writes (R349). -/
  | cut
  deriving DecidableEq, Repr

/-- A command an agent has taken and not yet completed (R295). -/
structure Cmd where
  /-- The mailbox it came from: 0 to 7, or 8 for MB_MTR. -/
  mb : Nat
  /-- The opcode of its request header. -/
  opcode : Nat
  /-- The four flags of its header (R293). -/
  flags : Nat
  /-- The tag its response echoes (R293). -/
  tag : Nat
  /-- The session of its header. -/
  session : Nat
  /-- Its own payload, the signature trailer cut off (R297). -/
  payload : Bytes
  /-- The claim signature's key block, given with an owner claim (R297, R341). -/
  claim : Bytes
  /-- Its response and its NOTIFY completion are to be discarded (R284, R310). -/
  discard : Bool
  /-- What it waits for. -/
  wait : Wait
  deriving DecidableEq, Repr

/-- Deferred work of a command that answered OK_DEFERRED (R293): one COMPLETION is posted when no work is left. -/
structure Deferred where
  /-- The device's own number of the work. -/
  id : Nat
  /-- Opcode, tag, mailbox and session of the command (Table 12-9). -/
  opcode : Nat
  tag : Nat
  mb : Nat
  session : Nat
  /-- The final status the COMPLETION carries (R293). -/
  status : Nat
  /-- The detail the COMPLETION carries (Table 12-9). -/
  detail : Nat
  /-- Pieces of work still open: slots to drain, a sweep, a write. -/
  left : Nat
  /-- A piece of work has been opened. -/
  used : Bool
  /-- The command's batch still runs: no COMPLETION is posted before it has ended (R108, R293). -/
  runs : Bool
  /-- A reset of the host interface has closed its session since (R284, R310). -/
  closed : Bool
  deriving DecidableEq, Repr

/-- A notification (R302, Table 12-9). -/
structure Notice where
  /-- Type: 1 COMPLETION, 2 EVENT, 3 FALLBACK, 4 LEARN, 5 AGED, 6 LOST. -/
  typ : Nat
  /-- Body bytes used. -/
  body : Bytes
  /-- Flag PHASE of a written entry; false while it waits in the backlog. -/
  phase : Bool
  /-- Low 32 bits of TOD at posting; 0 while it waits in the backlog. -/
  tod : W32
  deriving DecidableEq, Repr

/-- A bulk transfer the device wrote to host memory by DMA (R300). -/
structure DmaWrite where
  addr : Nat
  data : Bytes
  deriving DecidableEq, Repr

/-- The host interface. -/
structure Hif where
  /-- HIF_IRQ_STATUS: SRC [11:0], NQ_LOST [12], XBOUND [13], W1C | 14 bits | R285 Table 12-3, 12_host_interface.md | 0x0000 -/
  irqStatus : BitVec 14
  /-- HIF_IRQ_MASK.MASK | 12 bits | R285 Table 12-3, R304, 12_host_interface.md | 0x000 -/
  irqMask : BitVec 12
  /-- MSI-X messages sent, by vector | 64 counts | R304, 12_host_interface.md | 0 -/
  msix : Tab Nat
  /-- MSI-X table, 64 entries of 16 bytes, as 32-bit words that differ from their reset value | 1024 bytes | R285 Table 12-2, 12_host_interface.md | PRESUMED 1 in an entry's vector control, else 0 (the PCIe specification's), log entries 4 and 126 -/
  msixTable : Tab W32
  /-- MSI-X pending bit array | 64 bits | R285 Table 12-2, R304, 12_host_interface.md | PRESUMED 0 (the PCIe specification's), log entry 126 -/
  msixPending : W64
  /-- Message Control of the MSI-X capability: MSI-X Enable and Function Mask | 1 bit each | R283 Table 12-1, R304, 12_host_interface.md | PRESUMED 0 (the PCIe specification's), log entry 126 -/
  msixEnable : Bool
  msixFuncMask : Bool
  /-- HIF_XBOUND_CNT | 64 bits | R287 Table 12-3, 12_host_interface.md | 0 -/
  xboundCnt : W64
  /-- HIF_SMB_ADDR.ADDR, RWL | 7 bits | R285 Table 12-3, 12_host_interface.md | 0x5A -/
  smbAddr : BitVec 7
  /-- HIF_SMB_ADDR.LOCK, RWL | 1 bit | R285 Table 12-3, 12_host_interface.md | 0 -/
  smbLock : Bool
  /-- HIF_NQ_BASE_LO.BASE and HIF_NQ_BASE_HI.BASE, the ring address | 64 bits, [5:0] zero | R301 Table 12-3, 12_host_interface.md | 0 -/
  nqBase : W64
  /-- HIF_NQ_CTRL.ENABLE | 1 bit | R301 Table 12-3, 12_host_interface.md | 0 -/
  nqEnable : Bool
  /-- HIF_NQ_CTRL.SIZE_LOG2 | 5 bits | R301 Table 12-3, 12_host_interface.md | 0x06 -/
  nqSize : BitVec 5
  /-- HIF_NQ_CTRL.COAL_COUNT | 8 bits | R301 Table 12-3, 12_host_interface.md | 0x01 -/
  coalCount : BitVec 8
  /-- HIF_NQ_CTRL.COAL_US | 16 bits | R301 Table 12-3, 12_host_interface.md | 0x0000 -/
  coalUs : W16
  /-- HIF_NQ_HEAD.HEAD | 16 bits | R301 Table 12-3, 12_host_interface.md | 0x0000 -/
  nqHead : W16
  /-- HIF_NQ_TAIL.TAIL | 16 bits | R301 Table 12-3, 12_host_interface.md | 0x0000 -/
  nqTail : W16
  /-- HIF_NQ_TAIL.PHASE | 1 bit | R301 Table 12-3, 12_host_interface.md | 1 -/
  nqPhase : Bool
  /-- Entries written since the last vector 8 message | count | R301, 12_host_interface.md | 0 -/
  nqUnsig : Nat
  /-- The ring entries as last written, by index | up to 65536 entries of 64 bytes | R301, R302, 12_host_interface.md | none written -/
  nqRing : List (Nat × Notice)
  /-- The firmware's notification backlog, oldest first | up to 1024 entries | R303, 12_host_interface.md | empty -/
  backlog : List Notice
  /-- The episode of losses not yet reported by a LOST entry: how many, and the TOD of the first | 32 + 64 bits | R303, 12_host_interface.md | none -/
  nqEpisode : Option (Nat × W64)
  /-- Entries to be posted right behind the LOST entry of this episode | list | R309, 12_host_interface.md | none -/
  nqAfter : List Notice
  /-- COMPLETIONs of work whose session a reset of the host interface closed: they join the backlog once the queue is enabled again | list | R310, 12_host_interface.md | none -/
  nqHeld : List Notice
  /-- NQ_LOST_CNT | 64 bits | R303 Table 12-3, 12_host_interface.md | 0 -/
  nqLostCnt : W64
  /-- HIF_AUTH_FAIL_CNT | 64 bits | R298 Table 12-3, 12_host_interface.md | 0 -/
  authFailCnt : W64
  /-- Consecutive failed verifications on MB0-MB7 | 0 to 8 | R298, 12_host_interface.md | 0 -/
  authRun : Nat
  /-- The 60 s lockout is in force | 1 bit | R298, 12_host_interface.md | false -/
  lockout : Bool
  /-- The _HI half a read of a _LO register latched, by the _LO address | 32 bits each | R286, 12_host_interface.md | DESIGN CHOICE 0, log entry 5 -/
  latched : Tab W32
  /-- What the host's last read of BAR0 completed with; none for a Completer Abort, and before the first read | up to 128 bytes | R286, R287, 12_host_interface.md | none -/
  readData : Option Bytes
  /-- The mailboxes MB0 to MB7 | 8 | R288, 12_host_interface.md | all IDLE -/
  mbs : Tab Mailbox
  /-- The POSTED mailboxes in RING order | list | R295, 12_host_interface.md | empty -/
  ringOrder : List Nat
  /-- The open sessions | up to 16 | R294, 12_host_interface.md | none open -/
  sessions : List Session
  /-- The commands taken and not yet completed | list | R289, R295, 12_host_interface.md | none -/
  cmds : List Cmd
  /-- Deferred work whose COMPLETION is due | list | R293, 12_host_interface.md | none -/
  deferred : List Deferred
  /-- The next number of deferred work | the model's own counter | R293, 12_host_interface.md | DESIGN CHOICE 0, log entry 6 -/
  nextDeferred : Nat
  /-- What the last command wrote to host memory by DMA | list | R299, R300, 12_host_interface.md | none -/
  dmaOut : List DmaWrite
  /-- The SMBus codes the firmware refreshes: SMB_POWER and SMB_UPTIME as last refreshed | 16 + 64 bits | R306 Table 12-12, 12_host_interface.md | DESIGN CHOICE 0, log entry 7 -/
  smbPower : W16
  smbUptime : W64
  /-- The SMBus codes the firmware refreshes: SMB_PORTS, SMB_FW and SMB_LIFE as last refreshed | 9 + 8 + 2 bytes | R306 Table 12-12, 12_host_interface.md | DESIGN CHOICE empty, log entry 7 -/
  smbPorts : Bytes
  smbFw : Bytes
  smbLife : Bytes
  /-- What the last SMBus read or write answered: the data bytes, none for a NACK | bytes | R306, 12_host_interface.md | DESIGN CHOICE none, log entry 7 -/
  smbData : Option Bytes
  /-- The PEC byte behind the data of the last SMBus read, none for a NACK or where none was asked for | 8 bits | R306, 12_host_interface.md | DESIGN CHOICE none, log entry 7 -/
  smbPec : Option Byte
  deriving DecidableEq, Repr

/-- The host interface at reset (Table 12-3). -/
def Hif.reset : Hif :=
  { irqStatus := 0, irqMask := 0, msix := [], msixTable := [], msixPending := 0, msixEnable := false, msixFuncMask := false, xboundCnt := 0, smbAddr := 0x5A, smbLock := false,
    nqBase := 0, nqEnable := false, nqSize := 6, coalCount := 1, coalUs := 0, nqHead := 0, nqTail := 0,
    nqPhase := true, nqUnsig := 0, nqRing := [], backlog := [], nqEpisode := none, nqAfter := [], nqHeld := [], nqLostCnt := 0,
    authFailCnt := 0, authRun := 0, lockout := false, latched := [], readData := none, mbs := [], ringOrder := [], sessions := [],
    cmds := [], deferred := [], nextDeferred := 0, dmaOut := [], smbPower := 0, smbUptime := 0, smbPorts := [],
    smbFw := [], smbLife := [], smbData := none, smbPec := none }

end Sys2Proof.Machine
end

