-- ==== Sys2Proof/Machine/MeterState.lean ====
section
/-! DEFINITION. State of the Iastan meter (18_iastan_meter.md). Each field's docstring reads: what it is | width |
rule and file | value at reset. -/
namespace Sys2Proof.Machine

/-- A meter channel (R407). -/
structure Chn where
  octets : W64
  frames : W64
  saturated : Bool
  deriving DecidableEq, Repr

/-- A channel at the start of a life (R403). -/
def Chn.reset : Chn := { octets := 0, frames := 0, saturated := false }

/-- A binding and its tap slot (R404, R408, Table 18-5). -/
structure Binding where
  port : Nat
  dir : Nat
  /-- 0 PORT, 1 VID, 2 SCI. -/
  typ : Nat
  channel : Nat
  per20 : Bool
  /-- SCI as a network-order number; VID; 0 for PORT. -/
  key : Nat
  /-- The slot's octet partial and frame partial. -/
  octets : W32
  frames : W32
  /-- The sweep that MTR_STATEMENT_GET waits for has visited the slot (R410). -/
  seen : Bool
  deriving DecidableEq, Repr

/-- The meter. -/
structure Mtr where
  /-- VDD_MTR is up | 1 bit | R403, 18_iastan_meter.md | DESIGN CHOICE false, log entry 22 -/
  powered : Bool
  /-- MTR_STATUS.READY | 1 bit | R409 Table 18-2, 18_iastan_meter.md | 0 -/
  ready : Bool
  /-- MTR_STATUS.STATE, Table 18-1 | 2 bits | R403, R409 Table 18-2, 18_iastan_meter.md | 0 -/
  st : Nat
  /-- MTR_STATUS.CLOCK_LOST | 1 bit | R406 Table 18-2, 18_iastan_meter.md | 0 -/
  clockLost : Bool
  /-- MTR_STATUS.CHANGED, W1C | 1 bit | R409 Table 18-2, 18_iastan_meter.md | 0 -/
  changed : Bool
  /-- Life fuses blown, meter OTP | 2048 fuses | R403, 18_iastan_meter.md | DESIGN CHOICE 0, log entry 22 -/
  lifeFuses : Nat
  /-- MTR_LIFE.LIFE | 12 bits | R403 Table 18-2, 18_iastan_meter.md | 0x000 -/
  life : Nat
  /-- MTR_GEN.GEN, binding generation | 32 bits | R408 Table 18-2, 18_iastan_meter.md | 0 -/
  gen : W32
  /-- MTR_AUTH_FAIL_CNT | 64 bits | R409 Table 18-2, 18_iastan_meter.md | 0 -/
  authFail : W64
  /-- Consecutive failed verifications; lockout in force | count, 1 bit | R298, R409, 18_iastan_meter.md | 0, false -/
  authRun : Nat
  lockout : Bool
  /-- Authority key, meter OTP, none in UNCLAIMED | 97 bytes | R412, 18_iastan_meter.md | DESIGN CHOICE none, log entry 22 -/
  authority : Option Bytes
  /-- Meter serial, meter OTP | 64 bits | Table 18-3, 18_iastan_meter.md | DESIGN CHOICE 0, log entry 22 -/
  serial : W64
  /-- Certificates 0 ECDSA and 1 ML-DSA | up to 8 KiB each | R411, 18_iastan_meter.md | DESIGN CHOICE empty, log entry 22 -/
  certs : Tab Bytes
  /-- The channels | 4096 | R407, 18_iastan_meter.md | 0 -/
  chs : Tab Chn
  /-- The bindings of the active bank, with their slots, in order of their addition | up to 64 x 2 x 256 | R404, R408, 18_iastan_meter.md | none -/
  binds : List Binding
  /-- The old bank between the switch and its final sweep | as binds | R408, 18_iastan_meter.md | none -/
  oldBank : List Binding
  /-- The taps that have not seen the last bank switch yet, 2 port + direction | up to 128 | R408, 18_iastan_meter.md | none -/
  lag : List Nat
  /-- Statements signed in this life | 64 bits | R410, 18_iastan_meter.md | 0 -/
  stmtSeq : Nat
  /-- Time since the life began, in quarters of an MTRCLK (1.25 ns) | 66 bits | Table 18-3, 18_iastan_meter.md | 0 -/
  clocks : Nat
  /-- The nonce of the last MTR_STATUS_GET, none when absent, consumed or expired | 64 bits | R409, 18_iastan_meter.md | none -/
  nonce : Option W64
  /-- MB_MTR and its areas | see Mailbox | R291, R409, 18_iastan_meter.md | IDLE -/
  mb : Mailbox
  deriving DecidableEq, Repr

/-- The meter before VDD_MTR first rises. -/
def Mtr.reset : Mtr :=
  { powered := false, ready := false, st := 0, clockLost := false, changed := false, lifeFuses := 0, life := 0,
    gen := 0, authFail := 0, authRun := 0, lockout := false, authority := none, serial := 0, certs := [], chs := [],
    binds := [], oldBank := [], lag := [], stmtSeq := 0, clocks := 0, nonce := none, mb := .reset }

end Sys2Proof.Machine
end

