-- ==== Sys2Proof/Machine/PackState.lean ====
section
/-! DEFINITION. State of the Gwynlen pack member (11_pack.md). Each field's docstring reads: what it is | width |
rule and file | value at reset. -/
namespace Sys2Proof.Machine

/-- Member states of Table 11-3. -/
inductive PackSt where
  | none | joining | active | isolated
  deriving DecidableEq, Repr

/-- The state code of PACK_STATUS_GET (Table 11-13). -/
def PackSt.code : PackSt → Nat
  | .none => 0 | .joining => 1 | .active => 2 | .isolated => 3

/-- A message being reassembled (R265). -/
structure Reasm where
  source : Nat
  exchange : Nat
  request : Bool
  count : Nat
  total : Nat
  /-- The fragments received: index and data. -/
  parts : List (Nat × Bytes)
  first : W64
  /-- It was discarded: its further fragments are too, uncounted. -/
  dead : Bool
  deriving DecidableEq, Repr

/-- What a member knows of another (R263, R267). -/
structure Peer where
  /-- Admitted and not yet departed. -/
  configured : Bool
  heard : Bool
  eligible : Bool
  /-- It claims the lead role. -/
  claims : Bool
  /-- TOD of its last HELLO. -/
  lastHello : W64
  /-- TOD at which it became LOST. -/
  lostAt : W64
  /-- The PKE slot of the link key shared with it. -/
  link : Option Nat
  /-- It was LOST when the pack key changed: the number and the key it still uses (R266). -/
  lacks : Option (Nat × Bytes)
  deriving DecidableEq, Repr

/-- An unknown member. -/
def Peer.reset : Peer :=
  { configured := false, heard := false, eligible := false, claims := false, lastHello := 0, lostAt := 0,
    link := Option.none, lacks := Option.none }

/-- An epoch at a member (R273 to R275, Table 11-14). -/
structure Epoch where
  par : EpochParams
  /-- Participant state of Table 11-5, 0xFF when not a participant. -/
  st : Nat
  /-- 0 none, 1 COMMIT, 2 ABORT. -/
  decision : Nat
  decisionTod : W64
  switchTod : W64
  /-- READY votes, bitmap (lead only). -/
  votes : Nat
  /-- Votes received, READY or REFUSE, bitmap (lead only). -/
  voted : Nat
  /-- The decision was copied to the deputy, so it may be sent (R268). -/
  copied : Bool
  /-- The abort cause of event 0x700D. -/
  cause : Nat
  /-- Participants that acknowledged the decision, bitmap (lead only). -/
  acks : Nat
  /-- TOD at which the decision was last sent (lead only). -/
  sentTod : W64
  /-- The decision has been received here (R274). -/
  received : Bool
  /-- The decision copied to this deputy: 0 none, 1 COMMIT, 2 ABORT (R268). -/
  held : Nat
  /-- Enlisted entries: SAH and role (1 TX_NEW, 2 RX_OLD). -/
  entries : List (Nat × Nat)
  /-- The member has enlisted. -/
  enlisted : Bool
  deriving DecidableEq, Repr

/-- A claim sent to the lead and not yet answered (R271). -/
structure Claim where
  entry : DirEntry
  /-- The mailbox of the command that waits for it. -/
  mb : Nat
  deriving DecidableEq, Repr

/-- A pack message sent by this member, and the frames that carried it, without FCS: the last one is kept (Tables 11-1, 11-2). -/
structure PackMsg where
  typ : Nat
  dest : Nat
  sequence : Nat
  keyNumber : Nat
  body : Bytes
  frames : List Bytes
  deriving DecidableEq, Repr

/-- The pack policy (Table 11-12). -/
structure PackPolicy where
  owner : Bytes
  digests : List Bytes
  deriving DecidableEq, Repr

/-- A previous pack key (R266). -/
structure OldKey where
  number : Nat
  key : Bytes
  til : W64
  deriving DecidableEq, Repr

/-- The pack member. -/
structure Pack where
  /-- Member state | 2 bits | R262, 11_pack.md | NONE -/
  st : PackSt
  /-- Pack ID | 64 bits | R260 Table 11-13, 11_pack.md | 0 (zero when NONE) -/
  packId : Nat
  /-- Own member ID | 16 bits | R260 Table 11-13, 11_pack.md | DESIGN CHOICE 0, log entry 17 -/
  me : Nat
  /-- LEAD_ELIGIBLE | 1 bit | R267, 11_pack.md | DESIGN CHOICE 0, log entry 17 -/
  eligible : Bool
  /-- The lead, none when NONE | 16 bits | R267, 11_pack.md | none (0xFFFF) -/
  lead : Option Nat
  /-- DIR_HOLD, s | 16 bits | R263, 11_pack.md | 60 (default) -/
  dirHold : Nat
  /-- The pack policy | 440 bytes | R264 Table 11-12, 11_pack.md | DESIGN CHOICE empty, log entry 17 -/
  policy : PackPolicy
  /-- The pack key and its number | 256 + 32 bits | R261, R262, 11_pack.md | none -/
  key : Option Bytes
  keyNumber : Nat
  /-- Key number sent under now | 32 bits | R266, 11_pack.md | 0 (no key) -/
  sendNow : Nat
  /-- Keys received and not yet sent under: number and TOD of the switch | list | R266, 11_pack.md | none -/
  switches : List (Nat × W64)
  /-- Previous keys and until when they are accepted | list | R266, 11_pack.md | none -/
  olds : List OldKey
  /-- Own next sequence under the sending key | 64 bits | R261, 11_pack.md | 1 (first sequence) -/
  txSeq : Nat
  /-- Own next sequence under a key replaced, by its number | 64 bits each | R261, R266, 11_pack.md | 1 (first sequence) -/
  oldSeq : Tab Nat
  /-- Highest sequence accepted, at 512 x key number + sender | 64 bits each | R261, 11_pack.md | 0 -/
  rxSeq : Tab Nat
  /-- What is known of each member | 512 | R263, 11_pack.md | unknown -/
  peers : Tab Peer
  /-- The configured members as the lead's last HELLO showed them | 512 bits | R263 Table 11-2, 11_pack.md | none -/
  view : Nat
  /-- Its own signature over T of the exchange of its join | bytes | R264, 11_pack.md | none -/
  joinSig : Bytes
  /-- The join in progress: its deferred work, its nonce, its context secret and M1, and when it began | R262, 11_pack.md | none -/
  joinDeferred : Option Nat
  joinNonce : Bytes
  joinSecret : Bytes
  joinM1 : Bytes
  joinTod : W64
  /-- The next exchange ID of a fragmented message | 32 bits | R265, 11_pack.md | DESIGN CHOICE 0, log entry 17 -/
  exchange : Nat
  /-- Messages in reassembly | list | R265, 11_pack.md | none -/
  reasm : List Reasm
  /-- Reassembled messages not yet checked: source, exchange and bytes | list | R265, 11_pack.md | none -/
  ready : List (Nat × Nat × Bytes)
  /-- The directory replica | up to 65,536 + 131,072 entries of 24 bytes | R270, 11_pack.md | empty -/
  dir : List DirEntry
  /-- Directory version | 32 bits | R270 Table 11-13, 11_pack.md | DESIGN CHOICE 0, log entry 17 -/
  dirVersion : Nat
  /-- Claims waiting for the lead's answer | list | R271, 11_pack.md | none -/
  claims : List Claim
  /-- Releases that no acting lead has taken yet | list | R267, R272, 11_pack.md | none -/
  owed : List DirEntry
  /-- Own values whose DIR_RELEASE is sent and not yet seen in a DIR_UPDATE | list | R271, R272, 11_pack.md | none -/
  releasing : List DirEntry
  /-- Members gone for which no acting lead has released the entries and rotated the key yet | up to 512 | R263, R266, R267, R272, 11_pack.md | none -/
  gone : List Nat
  /-- Grants copied to this deputy whose directory change has not come yet | list | R268, 11_pack.md | none -/
  held : List DirEntry
  /-- Grants, votes and decisions waiting for the deputy's acknowledgement | list | R268, 11_pack.md | none -/
  copies : List CopyItem
  /-- Epochs, oldest first | up to 4 open, and the closed ones | R273, R275, 11_pack.md | none -/
  epochs : List Epoch
  /-- The highest epoch number seen | 32 bits | R273, 11_pack.md | DESIGN CHOICE 0, log entry 17 -/
  lastEpoch : Nat
  /-- TOD of the last HELLO, SYNC and DELAY_REQ sent | 3 x 64 bits | R263, R269, 11_pack.md | DESIGN CHOICE 0, log entry 17 -/
  helloTod : W64
  syncTod : W64
  delayTod : W64
  /-- Pack time: receive time of the last SYNC in 2^-32 ns and its sequence, TOD of its acceptance; transmit time of the DELAY_REQ and its sequence; t_rx - t_tx of the last SYNC in 2^-32 ns; path delay in 2^-16 ns | R269, 11_pack.md | DESIGN CHOICE 0 / none, log entry 17 -/
  syncRx : Option ((W64 × W32) × Nat)
  syncAccepted : W64
  delayTx : Option ((W64 × W32) × Nat)
  syncDelta : Option Int
  packDelay : Option Int
  /-- The message sent last | message | R260, 11_pack.md | none -/
  sent : Option PackMsg
  /-- GWL_TX_MSG_CNT, GWL_RX_MSG_CNT, GWL_AUTH_FAIL_CNT, GWL_REPLAY_DROP_CNT, GWL_FOREIGN_DROP_CNT | 64 bits each | R279 Table 11-9, 11_pack.md | 0 (R386) -/
  txCnt : W64
  rxCnt : W64
  authFail : W64
  replayDrop : W64
  foreign : W64
  /-- DIR_CLAIM_CNT, DIR_DENY_CNT | 64 bits each | R279 Table 11-9, 11_pack.md | 0 (R386) -/
  claimCnt : W64
  denyCnt : W64
  /-- EPOCH_COMMIT_CNT, EPOCH_ABORT_CNT, EPOCH_LATE_CNT, MEMBER_LOST_CNT | 64 bits each | R279 Table 11-9, 11_pack.md | 0 (R386) -/
  commitCnt : W64
  abortCnt : W64
  lateCnt : W64
  lostCnt : W64
  deriving DecidableEq, Repr

/-- A device in no pack (R262). -/
def Pack.reset : Pack :=
  { st := .none, packId := 0, me := 0, eligible := false, lead := none, dirHold := 60,
    policy := { owner := [], digests := [] }, key := none, keyNumber := 0, sendNow := 0, switches := [],
    olds := [], txSeq := 1, oldSeq := [], rxSeq := [], peers := [], view := 0, joinSig := [],
    joinDeferred := none, joinNonce := [], joinSecret := [], joinM1 := [], joinTod := 0, exchange := 0, reasm := [],
    ready := [], dir := [], dirVersion := 0, claims := [], owed := [], releasing := [], gone := [], held := [], copies := [], epochs := [], lastEpoch := 0, helloTod := 0,
    syncTod := 0, delayTod := 0, syncRx := none, syncAccepted := 0, delayTx := none, syncDelta := none, packDelay := none, sent := none,
    txCnt := 0, rxCnt := 0, authFail := 0, replayDrop := 0, foreign := 0, claimCnt := 0, denyCnt := 0, commitCnt := 0,
    abortCnt := 0, lateCnt := 0, lostCnt := 0 }

end Sys2Proof.Machine
end

