-- ==== Sys2Proof/Machine/ProfileState.lean ====
section
/-! DEFINITION. State of the device-wide knobs and of the part itself (01_architecture.md, 00_scope.md). Each
field's docstring reads: what it is | width | rule and file | value at reset. -/
namespace Sys2Proof.Machine

/-- The five device-wide knobs (R19, R20). -/
structure Profile where
  /-- Pre-roll knob, 1 ON | 1 bit | R19, R20, 01_architecture.md | ON (BALANCED after every reset, R19) -/
  preroll : Bool
  /-- Masking knob, true FULL, false FRAME | 1 bit | R19, R20, 01_architecture.md | FULL (R19) -/
  maskFull : Bool
  /-- Release default, true LURCHER, false HEEL | 1 bit | R19, R21, 01_architecture.md | HEEL (R19) -/
  lurcher : Bool
  /-- Buffer split, 0 SHALLOW, 1 EVEN, 2 DEEP | 2 bits | R19, R20, 01_architecture.md | 1 EVEN (R19) -/
  split : Nat
  /-- Clock gating, 0 OFF, 1 NORMAL, 2 AGGRESSIVE | 2 bits | R19, R20, 01_architecture.md | 1 NORMAL (R19) -/
  gating : Nat
  deriving DecidableEq, Repr

/-- Profile BALANCED (R19, Table 1-4). -/
def Profile.reset : Profile := { preroll := true, maskFull := true, lurcher := false, split := 1, gating := 1 }

end Sys2Proof.Machine
end

