-- ==== Sys2Proof/Machine/ProtState.lean ====
section
/-! DEFINITION. State of the interconnect firewall, the processor MPU and the debug port (13_protection.md). Each
field's docstring reads: what it is | width | rule and file | value at reset. -/
namespace Sys2Proof.Machine

/-- A firewall region's registers (R313, Table 13-4). -/
structure FwlRegion where
  /-- Base [39:12] as written, a byte address. -/
  base : Nat
  enable : Bool
  lock : Bool
  /-- SIZE_LOG2 as written. -/
  size : BitVec 6
  /-- The nine permission bits, CP_R in bit 0 to DAP_W in bit 8. -/
  perm : BitVec 9
  deriving DecidableEq, Repr

/-- A region at reset. -/
def FwlRegion.reset : FwlRegion := { base := 0, enable := false, lock := false, size := 12, perm := 0 }

/-- An MPU region's registers (R319, Table 13-5). -/
structure MpuRegion where
  start : Nat
  fin : Nat
  enable : Bool
  perm : BitVec 6
  deriving DecidableEq, Repr

/-- A region at reset. -/
def MpuRegion.reset : MpuRegion := { start := 0, fin := 0, enable := false, perm := 0 }

/-- Firewall, MPU and debug. -/
structure Prot where
  /-- FWL_CTRL.OPEN: the boot window | 1 bit | R317 Table 13-4, 13_protection.md | 1 -/
  window : Bool
  /-- The count of R242 at which the window closed: an access of that cycle coincides with the closing | 96 bits | R328, 13_protection.md | none -/
  closedAt : Option Nat
  /-- FWL_STATUS.WR_IGNORED, W1C | 1 bit | R317 Table 13-4, 13_protection.md | 0 -/
  wrIgnored : Bool
  /-- FWL_FAULT_INFO.VALID and OVERFLOW, W1C | 1 bit each | R316 Table 13-4, 13_protection.md | 0 -/
  fwlValid : Bool
  fwlOverflow : Bool
  /-- FWL_FAULT_ADDR | 40 bits | R316 Table 13-4, 13_protection.md | 0 -/
  fwlAddr : Nat
  /-- FWL_FAULT_INFO.MASTER, ACCESS, CAUSE, SIZE | 2 + 2 + 3 + 8 bits | R316 Table 13-4, 13_protection.md | 0 -/
  fwlMaster : Nat
  fwlAccess : Nat
  fwlCause : Nat
  fwlSize : Nat
  /-- FWL_DENY_CNT0-3 | 4 x 64 bits | R316 Table 13-4, 13_protection.md | 0 -/
  denyCnt : Tab W64
  /-- FWL regions 0-31 | 32 | R313 Table 13-4, 13_protection.md | disabled, SIZE_LOG2 0x0C -/
  regions : Tab FwlRegion
  /-- MPU_CTRL.ENABLE, PRIVDEF, LOCK | 1 bit each | R320, R322 Table 13-5, 13_protection.md | 0, 1, 0 -/
  mpuEnable : Bool
  privdef : Bool
  mpuLock : Bool
  /-- MPU_FAULT_STATUS.VALID (W1C), PRIV, ACCESS, CAUSE | 1 + 1 + 2 + 2 bits | R320 Table 13-5, 13_protection.md | 0 -/
  mpuValid : Bool
  mpuPriv : Bool
  mpuAccess : Nat
  mpuCause : Nat
  /-- MPU_FAULT_ADDR | 40 bits | R320 Table 13-5, 13_protection.md | 0 -/
  mpuAddr : Nat
  /-- MPU_FAULT_CNT_P, MPU_FAULT_CNT_U | 64 bits each | R320 Table 13-5, 13_protection.md | 0 -/
  mpuCntP : W64
  mpuCntU : W64
  /-- MPU regions 0-15 | 16 | R319 Table 13-5, 13_protection.md | 0 -/
  mpuRegions : Tab MpuRegion
  /-- Debug level: 0 NONE, 1 NONINVASIVE, 2 INVASIVE | 2 bits | R323, R324, 13_protection.md | the life-cycle state's default (R324) -/
  level : Nat
  /-- Highest level granted since reset | 2 bits | R325, 13_protection.md | 0 (none granted) -/
  highest : Nat
  /-- An INVASIVE grant waits for MUZZLE_DONE | 1 bit | R325, 13_protection.md | false -/
  granting : Bool
  /-- The DAP has halted the lockstep pair | 1 bit | R323, 13_protection.md | false -/
  dapHalted : Bool
  /-- Instructions the DAP stepped while halted | count | R323, 13_protection.md | 0 -/
  dapSteps : Nat
  /-- The debug port's sticky error flag | 1 bit | R315, 13_protection.md | DESIGN CHOICE false, log entry 18 -/
  dapSticky : Bool
  /-- What the debug port answered last: data, none for an error response | bytes | R315, R323, 13_protection.md | DESIGN CHOICE none, log entry 18 -/
  dapData : Option Bytes
  /-- Memory of the CP address map reached by the DAP (SRAM, flash window, LPDDR5X) | 40-bit address space, bytes | R312, 13_protection.md | DESIGN CHOICE zero bytes, log entry 3 -/
  mem : Tab Byte
  /-- User tasks the firmware restarted after a fault, last one | 8 bits | R321, 13_protection.md | none -/
  restarted : Option Nat
  deriving DecidableEq, Repr

/-- The protection units at reset. -/
def Prot.reset : Prot :=
  { window := true, closedAt := none, wrIgnored := false, fwlValid := false, fwlOverflow := false, fwlAddr := 0, fwlMaster := 0,
    fwlAccess := 0, fwlCause := 0, fwlSize := 0, denyCnt := [], regions := [], mpuEnable := false, privdef := true,
    mpuLock := false, mpuValid := false, mpuPriv := false, mpuAccess := 0, mpuCause := 0, mpuAddr := 0, mpuCntP := 0,
    mpuCntU := 0, mpuRegions := [], level := 2, highest := 0, granting := false, dapHalted := false, dapSteps := 0,
    dapSticky := false, dapData := none, mem := [], restarted := none }

end Sys2Proof.Machine
end

