-- ==== Sys2Proof/Machine/RecorderState.lean ====
section
/-! DEFINITION. State of the event recorder (16_event_recorder.md). Each field's docstring reads: what it is |
width | rule and file | value at reset. -/
namespace Sys2Proof.Machine

/-- An event on its way to the recorder (R372). -/
structure Ev where
  /-- The event code (Table 16-2). -/
  code : Nat
  /-- The parameter bytes (R440). -/
  params : Bytes
  /-- TOD at the source. -/
  tod : W64
  /-- TIME_SET was 0 at the source (flags bit 1). -/
  notSet : Bool
  deriving DecidableEq, Repr

/-- A record of the ring (R372, the record table of 16_event_recorder.md). -/
structure Rec where
  code : Nat
  params : Bytes
  /-- Flag OPEN. -/
  opn : Bool
  /-- Flag TOD not set. -/
  notSet : Bool
  /-- Flag raised by firmware. -/
  fw : Bool
  /-- Repeat count, 0 to 65,535. -/
  rep : Nat
  /-- Sequence number, from 1. -/
  seq : Nat
  first : W64
  last : W64
  deriving DecidableEq, Repr

/-- The bytes a record takes: 32 and the parameters padded to 8 (R372). -/
def Rec.size (r : Rec) : Nat := 32 + (r.params.length + 7) / 8 * 8

/-- What a code's suppressions are (R374 case 3). -/
structure Supp where
  count : Nat
  first : W64
  last : W64
  deriving DecidableEq, Repr

/-- A read cursor (R378). -/
structure Cursor where
  seq : Nat
  lost : Bool
  lostCnt : W64
  deriving DecidableEq, Repr

/-- The event recorder. -/
structure Evr where
  /-- The ring's records, oldest first | 256 KiB | R372, R377, 16_event_recorder.md | empty (a device reset empties the ring) -/
  ring : List Rec
  /-- EVR_NEXT: sequence the next record takes | 64 bits | R372 Table 16-4, 16_event_recorder.md | 1 -/
  next : Nat
  /-- EVR_STATUS.WRAPPED | 1 bit | R377 Table 16-4, 16_event_recorder.md | 0 -/
  wrapped : Bool
  /-- EVR_THRESH.RECORDS | 16 bits | R381 Table 16-4, 16_event_recorder.md | 0x0100 -/
  thresh : W16
  /-- The threshold condition has signalled and not fallen below since | 1 bit | R381, 16_event_recorder.md | false -/
  thrSignalled : Bool
  /-- Cursor 0, the firmware's | 64 + 1 + 64 bits | R378, 16_event_recorder.md | 1, LOST 0, count 0 -/
  cur0 : Cursor
  /-- Records that cursor 0 skipped while the CP did not run, not yet counted as notifications lost | count | R378, 16_event_recorder.md | 0 -/
  skipped : Nat
  /-- Cursor 1 | 64 + 1 + 64 bits | R378 Table 16-4, 16_event_recorder.md | 1, LOST 0, count 0 -/
  cur1 : Cursor
  /-- Cursor 2 | 64 + 1 + 64 bits | R378 Table 16-4, 16_event_recorder.md | 1, LOST 0, count 0 -/
  cur2 : Cursor
  /-- Area defaults (B, r), 16 areas | 16 x 32 bits | R375, 16_event_recorder.md | B 64, r 100 -/
  areas : Tab (Nat × Nat)
  /-- Overrides (B, r) by code | up to 64 | R375, R383, 16_event_recorder.md | none -/
  overrides : List (Nat × Nat × Nat)
  /-- Tokens missing from each code's bucket | 0 to 1024 each | R375, 16_event_recorder.md | 0 (every bucket full) -/
  missing : Tab Nat
  /-- Suppressions by code | 32 + 64 + 64 bits each | R374, 16_event_recorder.md | none -/
  supp : List (Nat × Supp)
  /-- EVR_FOLD_CNT | 64 bits | R383, 16_event_recorder.md | 0 -/
  foldCnt : W64
  /-- EVR_SUPPRESS_CNT | 64 bits | R383, 16_event_recorder.md | 0 -/
  suppressCnt : W64
  /-- EVR_INPUT_LOST_CNT | 64 bits | R376, R383, 16_event_recorder.md | 0 -/
  inputLostCnt : W64
  /-- Input losses since the last EVR_INPUT_LOST record | 32 bits | R376, 16_event_recorder.md | 0 -/
  lostSince : Nat
  /-- The 64-entry crossing FIFO of hardware events | 64 entries | R376, 16_event_recorder.md; Table 1-10, 01_architecture.md | empty -/
  hwFifo : List Ev
  /-- The 256-entry firmware queue | 256 entries | R376, 16_event_recorder.md | empty -/
  fwQueue : List Ev
  deriving DecidableEq, Repr

/-- A cursor after a device reset (R378). -/
def Cursor.reset : Cursor := { seq := 1, lost := false, lostCnt := 0 }

/-- The recorder after a device reset (R373, R375, R378). -/
def Evr.reset : Evr :=
  { ring := [], next := 1, wrapped := false, thresh := 0x0100, thrSignalled := false, cur0 := .reset, skipped := 0,
    cur1 := .reset, cur2 := .reset, areas := [], overrides := [], missing := [], supp := [], foldCnt := 0,
    suppressCnt := 0, inputLostCnt := 0, lostSince := 0, hwFifo := [], fwQueue := [] }

end Sys2Proof.Machine
end

