-- ==== Sys2Proof/Machine/TamperState.lean ====
section
/-! DEFINITION. State of the security monitors: alarms, tamper configuration, evidence log, always-on domain
(15_tamper.md). Each field's docstring reads: what it is | width | rule and file | value at reset. -/
namespace Sys2Proof.Machine

/-- An evidence record (R366, Table 15-6): bytes 0 to 23 field by field, and its chain. -/
structure EvdRec where
  seq : Nat
  /-- TOD ns, or the RTC count on battery. -/
  time : W64
  code : Nat
  /-- Class taken, 0 for a record that is not an alarm. -/
  cls : Nat
  /-- Bit 0 ON_BATTERY, bit 1 TOD not set. -/
  flags : Nat
  param : W64
  chain : Bytes
  deriving DecidableEq, Repr

/-- The evidence log in AON RAM (R366, R367). -/
structure Evd where
  /-- The records held, oldest first | 126 x 32 bytes | R366, 15_tamper.md | empty (a new log, R360) -/
  recs : List EvdRec
  /-- Sequence the next record takes; stays at 0xFFFFFFFF once that one is written | 32 bits | R366, 15_tamper.md | 1 -/
  next : Nat
  /-- No further record is written: the sequence stopped | 1 bit | R366, 15_tamper.md | false -/
  stopped : Bool
  /-- Chain of the last record ever written (head chain) | 8 bytes | R366, R367, 15_tamper.md | 8 zero bytes -/
  head : Bytes
  /-- Anchor of the oldest record held | 8 bytes | R367, 15_tamper.md | 8 zero bytes -/
  anchor : Bytes
  /-- Dropped count, stopping at its maximum | 32 bits | R367, 15_tamper.md | 0 -/
  dropped : Nat
  /-- First drop: its time and whether it was on battery | 64 + 1 bits | R367, 15_tamper.md | none (0) -/
  firstDrop : Option (W64 × Bool)
  /-- Event 0x9046 was raised in this full episode | 1 bit | R367, 15_tamper.md | false -/
  fullRaised : Bool
  deriving DecidableEq, Repr

/-- A new, empty log (R360, R367). -/
def Evd.reset : Evd :=
  { recs := [], next := 1, stopped := false, head := [0, 0, 0, 0, 0, 0, 0, 0], anchor := [0, 0, 0, 0, 0, 0, 0, 0],
    dropped := 0, firstDrop := none, fullRaised := false }

/-- The tamper configuration (R362). -/
structure TmpCfg where
  /-- Class and ERASE_SHARE of alarms 0 to 23, SEC_ALARM_CFGa | 24 x (3 + 1 bits) | R362 Tables 15-1 and 15-4, 15_tamper.md | default classes of Table 15-1, ERASE_SHARE 0 -/
  alarms : List (Nat × Bool)
  /-- SEC_LOOP_CTRL.LOOP_EN | 4 bits | R355 Table 15-4, 15_tamper.md | 0 (disabled, R355) -/
  loops : BitVec 4
  /-- SEC_LOOP_CTRL.LID_EN | 1 bit | R356 Table 15-4, 15_tamper.md | 0 (disabled, R356) -/
  lid : Bool
  deriving DecidableEq, Repr

/-- The default configuration (Table 15-1, R355, R356). -/
def TmpCfg.reset : TmpCfg :=
  { alarms := [2, 4, 2, 2, 2, 2, 1, 3, 4, 2, 3, 4, 4, 3, 4, 4, 4, 4, 4, 2, 4, 2, 4, 2].map (fun c => (c, false)),
    loops := 0, lid := false }

/-- The security monitors. -/
structure Tamper where
  /-- SEC_ALARM_ACTIVE, the conditions that hold | 32 bits | R353 Table 15-4, 15_tamper.md | 0x0000_0000 -/
  active : BitVec 32
  /-- SEC_ALARM_LATCHED, AON | 32 bits | R353 Table 15-4, 15_tamper.md | DESIGN CHOICE 0, log entry 20 -/
  latched : BitVec 32
  /-- SEC_ALARM_CNTa, AON | 24 x 32 bits | R353, R358 Table 15-4, 15_tamper.md | DESIGN CHOICE 0, log entry 20 -/
  cnt : Tab W32
  /-- The tamper configuration, AON | see TmpCfg | R362, 15_tamper.md | see TmpCfg -/
  cfg : TmpCfg
  /-- SEC_CTRL.LOCK and SUM_STATE.TMP_LOCKED, AON | 1 bit | R363 Table 15-4, 15_tamper.md | DESIGN CHOICE 0, log entry 20 -/
  lock : Bool
  /-- SEC_SEVERITY.MAX and SUM_SEVERITY.MAX | 3 bits | R358 Table 15-4, 15_tamper.md | 0 -/
  severity : Nat
  /-- SEC_CTRL.ON_BATTERY | 1 bit | R360 Table 15-4, 15_tamper.md | 0 -/
  onBattery : Bool
  /-- The AON domain has lost all power | 1 bit | R360, 15_tamper.md | DESIGN CHOICE false, log entry 20 -/
  aonDown : Bool
  /-- The class each latched alarm has taken, AON | 24 x 3 bits | R359, R362, 15_tamper.md | DESIGN CHOICE 0, log entry 20 -/
  taken : Tab Nat
  /-- The sampled alarms whose last sample failed | list | R357, 15_tamper.md | DESIGN CHOICE none, log entry 20 -/
  failing : List Nat
  /-- VBAT at the last sample, mV | 16 bits | R357, R371 Table 15-11, 15_tamper.md | DESIGN CHOICE 0, log entry 20 -/
  vbat : Nat
  /-- AON temperature, junction sensors 0 to 7, as 16-bit patterns in units of 0.125 degrees | 9 x 16 bits | R371 Table 15-11, 15_tamper.md | DESIGN CHOICE 0, log entry 20 -/
  aonTemp : W16
  sensors : Tab W16
  /-- Loops whose last sample failed | 4 bits | Table 15-11, 15_tamper.md | DESIGN CHOICE 0, log entry 20 -/
  loopsFailing : BitVec 4
  /-- Lid open at the last sample | 1 bit | Table 15-11, 15_tamper.md | DESIGN CHOICE 0, log entry 20 -/
  lidOpen : Bool
  /-- Shadowed registers held at their safe value: group and register index | list | R365 Table 15-5, 15_tamper.md | none -/
  safe : List (Nat × Nat)
  /-- The RTC as last read, units of 2^-15 s, AON | 48 bits | Table 15-6, R360, 15_tamper.md | DESIGN CHOICE 0, log entry 20 -/
  rtc : Nat
  /-- Time has passed since the RTC was last read | 1 bit | R361, R366 Table 15-6, 15_tamper.md | true -/
  rtcDue : Bool
  /-- The loop generator, seeded from the DRBG at every boot | 32 bits | R355, 15_tamper.md | free value drawn at each boot; before the first, DESIGN CHOICE 0, log entry 11 -/
  loopSeed : W32
  /-- The words last driven on TAMP_OUT, by loop | 4 x 8 bits | R355, 15_tamper.md | DESIGN CHOICE 0, log entry 20 -/
  loopOut : Tab Byte
  /-- The evidence log, AON | 4 KiB | R366, 15_tamper.md | see Evd -/
  evd : Evd
  /-- A time-anchor record was written since boot | 1 bit | R367, 15_tamper.md | false -/
  anchored : Bool
  /-- Record 0x9044 is due at the next boot: the log was lost | 1 bit | R360, 15_tamper.md | DESIGN CHOICE true (first power-up of the AON domain), log entry 20 -/
  lostLog : Bool
  deriving DecidableEq, Repr

/-- The security monitors at reset, the AON domain just powered (R355, R356, R360). -/
def Tamper.reset : Tamper :=
  { active := 0, latched := 0, cnt := [], cfg := .reset, lock := false, severity := 0, onBattery := false,
    aonDown := false, taken := [], failing := [], vbat := 0, aonTemp := 0, sensors := [], loopsFailing := 0,
    lidOpen := false, safe := [], rtc := 0, rtcDue := true, loopSeed := 0, loopOut := [], evd := .reset, anchored := false, lostLog := true }

end Sys2Proof.Machine
end

