-- ==== Sys2Proof/Machine/TimeState.lean ====
section
/-! DEFINITION. State of the time-sync unit, the servo and PTP (10_time.md). Each field's docstring reads: what it is
| width | rule and file | value at reset. -/
namespace Sys2Proof.Machine

/-- An injected frame that took a fallback, as a Follow_Up needs it: its traffic class, TX SC, and bytes (R250). -/
structure Injected where
  tc : Nat
  sch : Option Nat
  data : Bytes
  deriving DecidableEq, Repr

/-- When a PTP message of a type last came from a port identity, and the interval it announces: a power of 2 s (R240). -/
structure PtpHeard where
  id : Bytes
  typ : Nat
  tod : W64
  log : Int
  deriving DecidableEq, Repr

/-- A record of the timestamp FIFO (R243). -/
inductive TsRec where
  /-- Receive capture of a PTP frame sent to the CP. -/
  | rx (port : Nat) (tod : W64) (frac : W32)
  /-- Transmit capture of a CP-injected frame. -/
  | tx (port : Nat) (tod : W64) (frac : W32)
  /-- A PPS_IN edge. -/
  | pps (tod : W64) (frac : W32)
  /-- A fallback notice: its body (Table 10-5), the egress port, and the frame where the CP injected it. -/
  | fallback (port : Nat) (injected : Option Injected) (body : Bytes)
  deriving DecidableEq, Repr

/-- A TOD change armed for the next PPS_IN edge (R237, R252). -/
structure Armed where
  /-- A load (else a step). -/
  load : Bool
  /-- The operand; the fraction for TOD_SET. -/
  value : W64
  frac : W32
  /-- It came from TOD_SET: the command completes with it. -/
  command : Bool
  /-- TOD at which TOD_SET gives up. -/
  deadline : W64
  deriving DecidableEq, Repr

/-- PTP settings and counters of a port. -/
structure PtpPort where
  /-- Mode: 0 OFF, 1 TC_E2E, 2 TC_P2P | 2 bits | R245, 10_time.md | OFF -/
  mode : Nat
  /-- FALLBACK_NOTIFY | 1 bit | R250, 10_time.md | DESIGN CHOICE 0, log entry 16 -/
  notify : Bool
  /-- PX_ASYM_RX | 32 bits signed ps | R241 Table 10-1, 10_time.md | 0 -/
  asymRx : W32
  /-- PX_ASYM_TX | 32 bits signed ps | R241 Table 10-1, 10_time.md | 0 -/
  asymTx : W32
  /-- Mean link delay, units of 2^-16 ns | 64 bits signed | R247 Table 10-10, 10_time.md | DESIGN CHOICE 0, log entry 16 -/
  linkDelay : Int
  /-- PTP_TC_CORR_CNT, PTP_EXPRESS_WRITE_CNT, PTP_FALLBACK_CNT, PTP_EXPRESS_SKEW_CNT | 64 bits each | R255, 10_time.md | 0 (R386) -/
  corr : W64
  write : W64
  fallback : W64
  skew : W64
  deriving DecidableEq, Repr

/-- A port's PTP state after reset. -/
def PtpPort.reset : PtpPort :=
  { mode := 0, notify := false, asymRx := 0, asymTx := 0, linkDelay := 0, corr := 0, write := 0, fallback := 0,
    skew := 0 }

/-- The time-sync unit and the servo. -/
structure Tsu where
  /-- TOD, ns | 64 bits | R234, 10_time.md | 0 -/
  ns : W64
  /-- TOD, fraction | 32 bits | R234, 10_time.md | 0 -/
  frac : W32
  /-- The sum of all TOD_INC since reset, 2^-32 ns: the count R242 measures residence on | 96 bits | R242, 10_time.md | 0 (follows TOD at reset) -/
  count : Nat
  /-- TOD_INC.FRAC as written, held until TOD_INC_NS is written | 32 bits | R237 Table 10-1, 10_time.md | 0x4000_0000 -/
  incFrac : W32
  /-- TOD_INC_NS.NS as written | 4 bits | R237 Table 10-1, 10_time.md | 0x1 -/
  incNs : BitVec 4
  /-- TOD_INC in force, units of 2^-32 ns | 36 bits | R234, 10_time.md | 1.25 ns -/
  inc : Nat
  /-- TOD_ADJ_LO and TOD_ADJ_HI, the signed operand | 64 bits | R237 Table 10-1, 10_time.md | 0 -/
  adj : W64
  /-- Slew remaining, units of 2^-32 ns | signed | R237, 10_time.md | 0 -/
  slew : Int
  /-- TOD_STATUS.STEPPED, W1C | 1 bit | R237 Table 10-1, 10_time.md | 0 -/
  stepped : Bool
  /-- TOD_STATUS.PPS_IN_EDGE, W1C | 1 bit | R237 Table 10-1, 10_time.md | 0 -/
  ppsEdge : Bool
  /-- TOD_STATUS.REF10M_OK | 1 bit | R253 Table 10-1, 10_time.md | 0 -/
  ref10m : Bool
  /-- Consecutive 10 MHz counts within the bounds, up to 16 | 5 bits | R253, 10_time.md | DESIGN CHOICE 0, log entry 16 -/
  refGood : Nat
  /-- TOD_STATUS.PPS_IN_OK | 1 bit | R252 Table 10-1, 10_time.md | 0 -/
  ppsOk : Bool
  /-- TOD_STATUS.TIME_SET | 1 bit | R234, 10_time.md | 0 -/
  timeSet : Bool
  /-- TOD_STATUS.ARMED, with what is armed | 1 bit and the operand | R237 Table 10-1, 10_time.md | 0 -/
  armed : Option Armed
  /-- TOD_NS_LO/HI, PTP_SEC_LO/HI and PTP_NS as latched by a read of TOD_FRAC: the TOD they show | 64 bits | R237 Table 10-1, 10_time.md | 0 -/
  latched : W64
  /-- The TOD_FRAC value of that read | 32 bits | R237 Table 10-1, 10_time.md | 0 -/
  latchedFrac : W32
  /-- PPS_OUT enabled | 1 bit | R251, 10_time.md | false -/
  ppsOut : Bool
  /-- The PPS_OUT pin is high | 1 bit | R251, 10_time.md | low -/
  ppsHigh : Bool
  /-- PPS_OUT width, ns | 32 bits | R251, 10_time.md | DESIGN CHOICE 0, log entry 16 -/
  ppsWidth : Nat
  /-- PPS_OUT offset, signed ns | 32 bits | R251, 10_time.md | DESIGN CHOICE 0, log entry 16 -/
  ppsOffset : Int
  /-- TOD of the last PPS_OUT edge | 64 bits | R251 Table 10-9, 10_time.md | DESIGN CHOICE 0, log entry 16 -/
  ppsOutLast : W64
  /-- That TOD on the present timescale: moved by every step since, so that the width runs on | 64 bits | R251, 10_time.md | DESIGN CHOICE 0, log entry 16 -/
  ppsFrom : W64
  /-- The PPS_OUT instant that TOD reached by running in the cycle that ends now, its edge not made yet | 1 bit and 64 bits | R251, 10_time.md | none -/
  ppsDue : Option W64
  /-- PPS_IN polarity, true falling | 1 bit | R252, 10_time.md | DESIGN CHOICE rising, log entry 16 -/
  ppsFalling : Bool
  /-- PPS_IN delay, signed ps | 32 bits | R252, 10_time.md | DESIGN CHOICE 0, log entry 16 -/
  ppsDelay : Int
  /-- TOD of the last PPS_IN edge, none before the first | 64 bits | R252 Table 10-9, 10_time.md | none (0 if none) -/
  ppsInLast : Option W64
  /-- Its fraction, 2^-32 ns | 32 bits | R252, 10_time.md | 0 (none yet) -/
  ppsInFrac : W32
  /-- Servo mode EXTERNAL (else INTERNAL) | 1 bit | R238, 10_time.md | INTERNAL -/
  external : Bool
  /-- Servo source: 0 NONE, 1 PTP, 2 PPS_IN, 3 PACK | 2 bits | R238, 10_time.md | NONE -/
  source : Nat
  /-- Servo state of Table 10-2 | 3 bits | R239, 10_time.md | DESIGN CHOICE FREERUN (INTERNAL with source NONE), log entry 16 -/
  servo : Nat
  /-- Consecutive samples within the lock threshold | 0 to 16 | R239, 10_time.md | DESIGN CHOICE 0, log entry 16 -/
  inLock : Nat
  /-- The first sample of an acquisition is still to come | 1 bit | R239, 10_time.md | true -/
  fresh : Bool
  /-- TOD of entry into the servo state | 64 bits | R239 Table 10-12, 10_time.md | DESIGN CHOICE 0, log entry 16 -/
  since : W64
  /-- Holdover limit exceeded | 1 bit | R239 Table 10-12, 10_time.md | false -/
  limitFlag : Bool
  /-- STEP_LIMIT, ns | 32 bits | R239, 10_time.md | 1000 (default) -/
  stepLimit : Nat
  /-- LOCK_THRESHOLD, ns | 32 bits | Table 10-11, 10_time.md | DESIGN CHOICE 100 (the value 0 selects), log entry 16 -/
  lockThr : Nat
  /-- HOLDOVER_LIMIT, s | 32 bits | Table 10-11, 10_time.md | DESIGN CHOICE 14400 (the value 0 selects), log entry 16 -/
  holdLimit : Nat
  /-- Parent port identity | 10 bytes | R240 Table 10-12, 10_time.md | DESIGN CHOICE zero, log entry 16 -/
  parent : Bytes
  /-- The last Announce and Sync on the clock port, by sender | list | R240, 10_time.md | none -/
  heard : List PtpHeard
  /-- TOD of the last master change | 64 bits | R254 Table 10-6, 10_time.md | none -/
  masterTod : Option W64
  /-- Last offset from master and mean path delay, units of 2^-16 ns | 64 bits signed each | Table 10-12, 10_time.md | DESIGN CHOICE 0, log entry 16 -/
  offset : Int
  pathDelay : Int
  /-- Clock port, 0xFF none | 8 bits | R248, 10_time.md | DESIGN CHOICE 0xFF, log entry 16 -/
  clockPort : Nat
  /-- Profile, domain and flags of the ordinary clock | 3 x 8 bits | R248 Table 10-11, 10_time.md | DESIGN CHOICE 0, log entry 16 -/
  profile : Nat
  domain : Nat
  clockFlags : Nat
  /-- PTP settings by port, GP0 included | 65 | R241, R245, 10_time.md | see PtpPort -/
  ports : Tab PtpPort
  /-- The timestamp FIFO | 4,096 records | R243, 10_time.md | empty -/
  fifo : List TsRec
  /-- Event 0x6008 was raised in this overflow episode | 1 bit | R243, 10_time.md | false -/
  overflow : Bool
  /-- Records drained to firmware with an interrupt for a Follow_Up, last one | record | R250, 10_time.md | none -/
  drained : Option TsRec
  /-- TOD_STEP_CNT, TS_FIFO_LOST_CNT, SERVO_MASTER_CHANGE_CNT | 64 bits each | R255, 10_time.md | 0 (R386) -/
  stepCnt : W64
  fifoLost : W64
  masterCnt : W64
  deriving DecidableEq, Repr

/-- The TSU after reset (R234, R238). -/
def Tsu.reset : Tsu :=
  { ns := 0, frac := 0, count := 0, incFrac := 0x40000000, incNs := 1, inc := 0x140000000, adj := 0, slew := 0,
    stepped := false, ppsEdge := false, ref10m := false, refGood := 0, ppsOk := false, timeSet := false, armed := none,
    latched := 0, latchedFrac := 0, ppsOut := false, ppsHigh := false, ppsWidth := 0, ppsOffset := 0,
    ppsOutLast := 0, ppsFrom := 0, ppsDue := none, ppsFalling := false, ppsDelay := 0, ppsInLast := none, ppsInFrac := 0, external := false, source := 0, servo := 0,
    inLock := 0, fresh := true, since := 0, limitFlag := false, stepLimit := 1000, lockThr := 100, holdLimit := 14400,
    parent := zeroId, heard := [], masterTod := none, offset := 0, pathDelay := 0, clockPort := 0xFF, profile := 0, domain := 0, clockFlags := 0,
    ports := [], fifo := [], overflow := false, drained := none, stepCnt := 0, fifoLost := 0, masterCnt := 0 }
where
  zeroId : Bytes := [0, 0, 0, 0, 0, 0, 0, 0, 0, 0]

end Sys2Proof.Machine
end

