-- ==== Sys2Proof/Machine/TmState.lean ====
section
/-! DEFINITION. State of the traffic managers, the policers and the gates (08_scheduling_shaping.md,
09_policing_gates.md). Each field's docstring reads: what it is | width | rule and file | value at reset. -/
namespace Sys2Proof.Machine

/-- An egress queue (R188, R194). -/
structure Queue where
  /-- Traffic class, none for the reset value queue ID mod 8 | 3 bits | R188, 08_scheduling_shaping.md | (q - base) mod 8 (R188) -/
  tc : Option Nat
  /-- Weight | 8 bits | R188, 08_scheduling_shaping.md | 16 -/
  weight : Nat
  /-- Queue limit | cells | R188, 08_scheduling_shaping.md | 98304 -/
  limit : Nat
  /-- The queued frames, head first | list | R190, 08_scheduling_shaping.md | empty -/
  frames : List Nat
  /-- The head frame is being served | 1 bit | R194, 08_scheduling_shaping.md | false (EMPTY) -/
  serving : Bool
  /-- Start tag S | 32 bits | R194, 08_scheduling_shaping.md | DESIGN CHOICE 0, log entry 15 -/
  start : W32
  /-- F_last while it is held | 32 bits | R194, 08_scheduling_shaping.md | none held -/
  fLast : Option W32
  /-- Cells held | count | R192, 08_scheduling_shaping.md | 0 -/
  cells : Nat
  /-- High-water mark | cells | R209 Table 8-6, 08_scheduling_shaping.md | 0 (R386) -/
  highWater : Nat
  /-- TM_Q_FRAMES_CNT, TM_Q_OCTETS_CNT, TM_Q_DROP_CNT | 64 bits each | R209 Table 8-6, 08_scheduling_shaping.md | 0 (R386) -/
  sent : W64
  octets : W64
  drops : W64
  deriving DecidableEq, Repr

/-- A queue after reset. -/
def Queue.reset : Queue :=
  { tc := none, weight := 16, limit := 98304, frames := [], serving := false, start := 0, fLast := none, cells := 0,
    highWater := 0, sent := 0, octets := 0, drops := 0 }

/-- A shaper (R195). Credit in 2^-24 byte. -/
structure Shaper where
  rate : Nat
  burst : Nat
  adjust : Int
  excl : Bool
  /-- Policy RESET_ZERO (else RESET_FULL). -/
  zero : Bool
  credit : Int
  deriving DecidableEq, Repr

/-- A shaper after reset (R195). -/
def Shaper.reset : Shaper :=
  { rate := 0, burst := 16384, adjust := 20, excl := false, zero := false, credit := 16384 * 16777216 }

/-- A reserved departure slot (R203), in 2^-32 ns of TOD. -/
structure ExpSlot where
  start : Int
  fin : Int
  frame : Nat
  deriving DecidableEq, Repr

/-- Traffic-manager settings and state of one port index of one side. -/
structure TmPort where
  /-- Queue base and count, none for the reset range (64 k, 64) | 11 + 12 bits | R188, 08_scheduling_shaping.md | base 64 k, count 64 -/
  range : Option (Nat × Nat)
  /-- HEADROOM | KiB | R198 Table 8-10, 08_scheduling_shaping.md | line 160, host 0 -/
  headroom : Nat
  /-- XON_GAP | KiB | R198 Table 8-10, 08_scheduling_shaping.md | line 64, host 0 -/
  xonGap : Nat
  /-- CLASS_XOFF | KiB | R200 Table 8-10, 08_scheduling_shaping.md | line 512, host 0 -/
  classXoff : Nat
  /-- EXPRESS_LEAD | ns | R203 Table 8-10, 08_scheduling_shaping.md | line 160, host 0 -/
  lead : Nat
  /-- EXPRESS_MAX | bytes | R203 Table 8-10, 08_scheduling_shaping.md | line 256, host 0 -/
  expMax : Nat
  /-- PFC map, 8 entries | 8 bytes | R200, R202 Table 8-10, 08_scheduling_shaping.md | entry t = 1 << t -/
  pfc : List Nat
  /-- Virtual time V by class | 8 x 32 bits | R194, 08_scheduling_shaping.md | DESIGN CHOICE 0, log entry 15 -/
  v : Tab W32
  /-- Port XOFF | 1 bit | R198, 08_scheduling_shaping.md | false (XON) -/
  xoff : Bool
  /-- TOD at the entry into XOFF | 64 bits | R210, 08_scheduling_shaping.md | DESIGN CHOICE 0, log entry 15 -/
  xoffSince : W64
  /-- TM_XOFF_STUCK was raised | 1 bit | R210, 08_scheduling_shaping.md | false -/
  stuck : Bool
  /-- Class XOFF mask | 8 bits | R200, 08_scheduling_shaping.md | 0 -/
  clsXoff : Nat
  /-- Classes that received flow control halts, each from its haltFrom on | 8 bits | R202, 08_scheduling_shaping.md | 0 -/
  halted : Nat
  /-- TOD up to which the halted time is counted | 64 bits | R202, 08_scheduling_shaping.md | DESIGN CHOICE 0, log entry 15 -/
  haltSince : W64
  /-- Halt beginnings and ends by class | 2 x 8 x 64 bits of TOD ns | R202, 08_scheduling_shaping.md | none -/
  haltFrom : Tab W64
  haltEnd : Tab W64
  /-- A pause or PFC frame is due on this HOST port | 1 bit | R199, R201, 08_scheduling_shaping.md | false -/
  pauseDue : Bool
  /-- The PFC priorities, or all eight for PAUSE, last sent as paused | 8 bits | R199, R200, 08_scheduling_shaping.md | 0 -/
  pauseSent : Nat
  /-- Express slots held | up to 16 | R203, 08_scheduling_shaping.md | none -/
  slots : List ExpSlot
  /-- End of the last reserved slot | ns and fraction | R203, 08_scheduling_shaping.md | none -/
  slotEnd : Option Int
  /-- The frame in transmission | frame | R193, 08_scheduling_shaping.md | none -/
  sending : Option Nat
  /-- The preempted frame that resumes after the express frame in transmission | frame | R205, 08_scheduling_shaping.md | none -/
  resume : Option Nat
  /-- High-water mark | cells | R209 Table 8-7, 08_scheduling_shaping.md | 0 (R386) -/
  highWater : Nat
  /-- TM_SC_STICK_CNT, TM_EXPRESS_SENT_CNT, TM_EXPRESS_MISS_CNT, TM_EXPRESS_REFUSED_CNT | 64 bits each | R209 Table 8-7, 08_scheduling_shaping.md | 0 (R386) -/
  stick : W64
  expSent : W64
  expMiss : W64
  expRefused : W64
  /-- TM_XOFF_CNT, TM_RX_PAUSED_NS_CNT | 64 bits each | R209 Table 8-7, 08_scheduling_shaping.md | 0 (R386) -/
  xoffCnt : W64
  pausedNs : W64
  deriving DecidableEq, Repr

/-- A port's TM state after reset, by side (0 host, 1 line). -/
def TmPort.reset (side : Nat) : TmPort :=
  let l (n : Nat) := if side = 0 then 0 else n
  { range := none, headroom := l 160, xonGap := l 64, classXoff := l 512, lead := l 160, expMax := l 256,
    pfc := [1, 2, 4, 8, 16, 32, 64, 128], v := [], xoff := false, xoffSince := 0, stuck := false, clsXoff := 0,
    halted := 0, haltSince := 0, haltFrom := [], haltEnd := [], pauseDue := false, pauseSent := 0, slots := [], slotEnd := none,
    sending := none, resume := none, highWater := 0, stick := 0, expSent := 0, expMiss := 0, expRefused := 0, xoffCnt := 0,
    pausedNs := 0 }

/-- One side's traffic manager. -/
structure Tm where
  /-- The queues | 2,048 | R188, 08_scheduling_shaping.md | see Queue -/
  queues : Tab Queue
  /-- Per-port settings and state | 32 | R188, 08_scheduling_shaping.md | see TmPort -/
  ports : Tab TmPort
  /-- Queue shapers | 2,048 | R195, 08_scheduling_shaping.md | disabled, B 16384, A 20, RESET_FULL, credit B -/
  qShapers : Tab Shaper
  /-- Class shapers | 256 | R195, 08_scheduling_shaping.md | as queue shapers -/
  cShapers : Tab Shaper
  /-- Port shapers | 32 | R195, 08_scheduling_shaping.md | as queue shapers -/
  pShapers : Tab Shaper
  /-- Bindings of TX SCs to queues (line egress) | by SCH | R190, 08_scheduling_shaping.md | none -/
  binds : Tab (Option Nat)
  /-- TM_SHARED_HIGH was raised and TM_SHARED_LOW not yet | 1 bit | R210, 08_scheduling_shaping.md | false -/
  sharedHigh : Bool
  deriving DecidableEq, Repr

/-- A traffic manager after reset. -/
def Tm.reset : Tm :=
  { queues := [], ports := [], qShapers := [], cShapers := [], pShapers := [], binds := [], sharedHigh := false }

/-- A policer (R214). Tokens in 2^-24 byte. -/
structure Policer where
  /-- Mode: 0 DISABLED, 1 SRTCM, 2 TRTCM. -/
  mode : Nat
  cir : Nat
  pir : Nat
  cbs : Nat
  /-- EBS or PBS. -/
  ebs : Nat
  adjust : Int
  aware : Bool
  c : Int
  /-- E or P tokens. -/
  e : Int
  /-- Number of POL_SET commits on the policer: a debit decided under an earlier number is discarded (R220). -/
  epoch : Nat
  green : W64
  greenOct : W64
  yellow : W64
  yellowOct : W64
  red : W64
  redOct : W64
  deriving DecidableEq, Repr

/-- A policer after reset (R214). -/
def Policer.reset : Policer :=
  { mode := 0, cir := 0, pir := 0, cbs := 16384, ebs := 16384, adjust := 0, aware := false, c := 16384 * 16777216,
    e := 16384 * 16777216, epoch := 0, green := 0, greenOct := 0, yellow := 0, yellowOct := 0, red := 0, redOct := 0 }

/-- A gate list (R222). -/
structure GateList where
  base : W64
  cycle : Nat
  ext : Nat
  guardNs : Nat
  /-- Entries: interval and gate states. -/
  entries : List (Nat × Nat)
  deriving DecidableEq, Repr

/-- A port's gate control (R221, R227). -/
structure Gate where
  /-- State of Table 9-4: 0 OFF, 1 OFF_PENDING, 2 RUNNING, 3 RUNNING_PENDING | 2 bits | R227, 09_policing_gates.md | OFF -/
  st : Nat
  /-- Operating list | up to 512 entries | R222, 09_policing_gates.md | none -/
  oper : Option GateList
  /-- Pending list | up to 512 entries | R222, 09_policing_gates.md | none -/
  pend : Option GateList
  /-- T_s of the operating list | 64 bits | R223, 09_policing_gates.md | DESIGN CHOICE 0, log entry 15 -/
  ts : W64
  /-- T_c, pending or of the operating list | 64 bits | R226 Table 9-8, 09_policing_gates.md | DESIGN CHOICE 0, log entry 15 -/
  tc : W64
  /-- Current entry of the operating list | 10 bits | R223 Table 9-8, 09_policing_gates.md | DESIGN CHOICE 0, log entry 15 -/
  cur : Nat
  /-- Start of the cycle in progress, and of the current entry | 64 bits each | R223, 09_policing_gates.md | DESIGN CHOICE 0, log entry 15 -/
  cycleTod : W64
  entryTod : W64
  /-- Gate states now | 8 bits | R221, 09_policing_gates.md | 0xFF (all open) -/
  gates : Nat
  /-- GATE_CHANGE_CNT, GATE_LATE_START_CNT, GATE_OVERRUN_CNT, GATE_REALIGN_CNT | 64 bits each | R231 Table 9-8, 09_policing_gates.md | 0 (R386) -/
  changes : W64
  late : W64
  overrun : W64
  realign : W64
  /-- GATE_DROP_CNT by class | 8 x 64 bits | R225, R231 Table 9-8, 09_policing_gates.md | 0 (R386) -/
  drops : Tab W64
  deriving DecidableEq, Repr

/-- A port's gates after reset (R221). -/
def Gate.reset : Gate :=
  { st := 0, oper := none, pend := none, ts := 0, tc := 0, cur := 0, cycleTod := 0, entryTod := 0, gates := 255,
    changes := 0, late := 0, overrun := 0, realign := 0, drops := [] }

end Sys2Proof.Machine
end

