-- ==== Sys2Proof/Machine/State.lean ====
section
/-! DEFINITION. The state of the block: every register, buffer, counter, mode and pin the spec gives it, unit by unit
(the units' own files say of each field what names it, its width and its value at reset), and the queue of waiting
commands; the reasons a step can stop; the machine at reset. -/
namespace Sys2Proof.Machine

/-- The reasons a command can fault. No command of this block does: every outcome the spec describes is an effect on
the state (a status, a counter, a flag, an event). -/
inductive Fault where
  /-- Raised by no command. Safe: a machine that never stops here hides nothing. -/
  | unused
  deriving DecidableEq, Repr

/-- The reasons a command can be refused. -/
inductive Refusal where
  /-- Raised by an arm of exec for a command that has no meaning in the model yet, with its mnemonic. Safe: the
  machine stops where the hardware goes on. -/
  | notModelled (mnemonic : String)
  deriving DecidableEq, Repr

/-- The block. -/
structure State where
  /-- The model's own: the commands that wait, first in, first out (empty at reset). -/
  pending : List Instr
  /-- Device-wide knobs (01_architecture.md). -/
  profile : Profile
  /-- Host interface (12_host_interface.md). -/
  hif : Hif
  /-- Event recorder (16_event_recorder.md). -/
  evr : Evr
  /-- Ports 0 to 64 (02_ports_frame_path.md). -/
  ports : Tab Port
  /-- Classifiers, host side and line side (03_classifier.md). -/
  cls : Two Cls
  /-- Channels, associations, pairings (04_channels_rekey.md, 06_transcryption.md). -/
  chan : Chan
  /-- Slices and engines (05_cipher_slices.md). -/
  slices : Slices
  /-- Key manager (07_key_manager.md). -/
  km : Km
  /-- Traffic managers, host egress and line egress (08_scheduling_shaping.md). -/
  tm : Two Tm
  /-- Policers, 8,192 per side (09_policing_gates.md). -/
  pol : Two (Tab Policer)
  /-- Gates of the ports (09_policing_gates.md). -/
  gates : Tab Gate
  /-- Time-sync unit and servo (10_time.md). -/
  tsu : Tsu
  /-- Pack member (11_pack.md). -/
  pack : Pack
  /-- Frames in flight and the control path (02_ports_frame_path.md). -/
  flow : Flow
  /-- Firewall, MPU, debug (13_protection.md). -/
  prot : Prot
  /-- Boot, life cycle, identity (14_boot_lifecycle.md). -/
  boot : Boot
  /-- Security monitors (15_tamper.md). -/
  tamper : Tamper
  /-- Counters and health (17_counters_health.md). -/
  cnt : Cnt
  /-- Traffic meter (18_iastan_meter.md). -/
  mtr : Mtr
  /-- The model's own: outputs drawn from the DRBG so far; the argument of Config.drbg (log entry 23). -/
  drbg : Nat
  /-- The model's own: free values drawn so far; the argument of Config.free (log entry 23). -/
  free : Nat
  deriving DecidableEq, Repr

/-- The device held in reset after power-up (log entry 1): every register at the value the spec states for reset, and
where it states none at the value the assumption log names. -/
def State.reset : State :=
  { pending := [], profile := .reset, hif := .reset, evr := .reset, ports := [], cls := ⟨.reset, .reset⟩,
    chan := .reset, slices := .reset, km := .reset, tm := ⟨.reset, .reset⟩, pol := ⟨[], []⟩, gates := [],
    tsu := .reset, pack := .reset, flow := .reset, prot := .reset, boot := .reset, tamper := .reset, cnt := .reset,
    mtr := .reset, drbg := 0, free := 0 }

end Sys2Proof.Machine
end

