-- ==== Sys2Proof/Machine/Ops.lean ====
section
/-! DEFINITION. The operations every chapter shares: draws from the DRBG and of free values, events, interrupts,
notifications, mailboxes, the completion of an FCP command (12_host_interface.md, 16_event_recorder.md). DEDUCED:
log entry 69. DESIGN CHOICE: log entry 67. -/
namespace Sys2Proof.Machine

/-! ### The status codes of Table 0-6 (R14) -/

abbrev stOk : Nat := 0x0000
abbrev stDeferred : Nat := 0x0001
abbrev stBusy : Nat := 0x0100
abbrev stNoRoom : Nat := 0x0101
abbrev stNotFound : Nat := 0x0102
abbrev stExists : Nat := 0x0103
abbrev stInvalid : Nat := 0x0104
abbrev stWrongState : Nat := 0x0105
abbrev stDenied : Nat := 0x0106
abbrev stStale : Nat := 0x0107
abbrev stLocked : Nat := 0x0108
abbrev stPartial : Nat := 0x0109
abbrev stUnsupported : Nat := 0x010A
abbrev stTimeout : Nat := 0x010B
abbrev stIntegrity : Nat := 0x010C
abbrev stLate : Nat := 0x010D

/-! ### The device as a whole -/

/-- The device is out of reset (R425). -/
def live (s : State) : Bool := !s.boot.por && !s.boot.sysRst

/-- The CP runs an agent's code: out of reset, handed over by the boot ROM, halted neither by a fault (R321) nor by the
DAP (R323). -/
def cpRuns (s : State) : Bool := live s && s.boot.handed && s.boot.agent != 3 && !s.prot.dapHalted

/-- MB0 to MB7 are served (R318). -/
def serving (s : State) : Bool := cpRuns s && (s.boot.agent == 1 || s.boot.agent == 2)

/-- The Felham firmware serves (AGENT FIRMWARE). -/
def fwRuns (s : State) : Bool := cpRuns s && s.boot.agent == 2

/-- The life-cycle states in which the commands of the datapath's chapters return WRONG_STATE: RECOVERY, RETIRED,
and FIELD with ZEROIZED (R23 and the chapters' own words). -/
def lcBad (s : State) : Bool := s.boot.lc == 3 || s.boot.lc == 4 || s.boot.zeroized

/-- TOD in ns. -/
def todNs (s : State) : W64 := s.tsu.ns

/-! ### Draws -/

/-- The next output of the DRBG, a free value (log entry 23). -/
def drawDrbg (s : State) : BitVec 256 × State := (Sys2Proof.Config.drbg s.drbg, { s with drbg := s.drbg + 1 })

/-- The next output of the DRBG as `n` bytes, `n` at most 32. -/
def drawBytes (n : Nat) (s : State) : Bytes × State := (le n (drawDrbg s).1.toNat, (drawDrbg s).2)

/-- The next `n` outputs of the DRBG, as 32n bytes. -/
def drawMany (n : Nat) (s : State) : Bytes × State :=
  ((List.range n).flatMap (fun i => le 32 (Sys2Proof.Config.drbg (s.drbg + i)).toNat), { s with drbg := s.drbg + n })

/-- The mask under which a key is split into shares, a free value (log entry 120). -/
def drawSplit (s : State) : Bytes × State := (le 256 (Sys2Proof.Config.split s.free).toNat, { s with free := s.free + 1 })

/-- A value the spec leaves open, by the log entry that names it. -/
def drawFree (entry : Nat) (s : State) : BitVec 64 × State :=
  (Sys2Proof.Config.free entry s.free, { s with free := s.free + 1 })

/-! ### Occurrences of performance events (R387, Table 17-3) -/

/-- The place of event `e` of block `k` at port `p`. -/
def occKey (k e p : Nat) : Nat := (16 * k + e) * 128 + p

/-- Event `e` of block `k` has occurred `n` times at port `p`; 0 for an event of no port. -/
def occur (k e p n : Nat) (s : State) : State :=
  { s with cnt := { s.cnt with occ := tmod 0 s.cnt.occ (occKey k e p) (· + BitVec.ofNat 64 n) } }

/-- A BAR0 access of the host is counted by HIF's events 0x01 and 0x02 (R387, Table 17-3; log entry 59). -/
def barSeen (write : Bool) (s : State) : State := occur 1 (if write then 2 else 1) 0 1 s

/-- What a host write of BAR0 does, the access counted. -/
def hostWrite (f : State → State) (s : State) : State := if live s then f (barSeen true s) else f s

/-! ### Events (R372, R376, R440) -/

/-- An event that cannot enter the recorder is counted (R376). -/
def evLost (s : State) : State :=
  { s with evr := { s.evr with inputLostCnt := s.evr.inputLostCnt + 1, lostSince := s.evr.lostSince + 1 } }

/-- The event as its source stamps it. -/
def evAt (code : Nat) (ps : Bytes) (s : State) : Ev :=
  { code := code, params := ps, tod := s.tsu.ns, notSet := !s.tsu.timeSet }

/-- A hardware event crosses through the 64-entry FIFO (R376). -/
def evH (code : Nat) (ps : Bytes) (s : State) : State :=
  if s.evr.hwFifo.length < 64 then { s with evr := { s.evr with hwFifo := s.evr.hwFifo ++ [evAt code ps s] } }
  else evLost s

/-- A firmware event waits in the recorder's 256-entry queue (R376). -/
def evF (code : Nat) (ps : Bytes) (s : State) : State :=
  if s.evr.fwQueue.length < 256 then { s with evr := { s.evr with fwQueue := s.evr.fwQueue ++ [evAt code ps s] } }
  else evLost s

/-! ### Interrupts (R304) -/

/-- A 32-bit word of the MSI-X table: a vector control word is masked until it is written (log entry 126). -/
def msixWord (h : Hif) (i : Nat) : W32 := tget (if i % 4 == 3 then 1 else 0) h.msixTable i
/-- Write a word of the MSI-X table: of vector control only bit 0 is there, the reserved bits read 0 (R11, R304). -/
def msixPut (h : Hif) (i : Nat) (v : W32) : Hif :=
  { h with msixTable := tset (if i % 4 == 3 then 1 else 0) h.msixTable i (if i % 4 == 3 then v &&& 1 else v) }

/-- The function or the vector is masked (R304, log entry 126). -/
def msixMasked (h : Hif) (v : Nat) : Bool := h.msixFuncMask || (msixWord h (4 * v + 3)).getLsbD 0

/-- Send the message of a vector: none with MSI-X disabled; while the function or the vector is masked its pending bit is
set instead (R304, log entry 126). -/
def msixSend (v : Nat) (h : Hif) : Hif :=
  if !h.msixEnable then h
  else if msixMasked h v then { h with msixPending := h.msixPending ||| (1#64 <<< v) }
  else { h with msix := tmod 0 h.msix v (· + 1) }

/-- A pending vector that is no longer masked sends its message (R304, log entry 126). -/
def msixFlush (h : Hif) : Hif :=
  if !h.msixEnable then h
  else (List.range 64).foldl (fun h v =>
    if h.msixPending.getLsbD v && !msixMasked h v then
      { h with msixPending := h.msixPending &&& ~~~(1#64 <<< v), msix := tmod 0 h.msix v (· + 1) }
    else h) h

/-- A message is sent unless the source's mask bit is 1. -/
def irqSend (v : Nat) (h : Hif) : Hif := if h.irqMask.getLsbD v then h else msixSend v h

/-- An event of MSI-X vector `v`: its status bit is set, and a message is sent unless its mask bit is 1. Vector 11 is
never signalled on an -N part (R2). A host interface held in reset signals nothing (R284). -/
def irq (v : Nat) (s : State) : State :=
  if !live s || (v == 11 && !s.boot.meterFuse) then s
  else { s with hif := irqSend v { s.hif with irqStatus := s.hif.irqStatus ||| (1#14 <<< v) } }

/-! ### The notification queue (R301 to R303) -/

/-- Entries of the ring: 2^SIZE_LOG2, other values than 6 to 16 acting as 6 (Table 12-3). -/
def nqLen (h : Hif) : Nat := if 6 ≤ h.nqSize.toNat ∧ h.nqSize.toNat ≤ 16 then 2 ^ h.nqSize.toNat else 64

/-- The ring is enabled and not full (R301). -/
def nqRoom (h : Hif) : Bool := h.nqEnable && (h.nqTail.toNat + 1) % nqLen h != h.nqHead.toNat

/-- Signal vector 8 and count afresh (R301). -/
def nqSignal (s : State) : State := irq 8 { s with hif := { s.hif with nqUnsig := 0 } }

/-- Write an entry at TAIL with the current PHASE and the low TOD, advance TAIL, toggle PHASE when it wraps, and
signal vector 8 once COAL_COUNT entries are unsignalled (R301, R302). -/
def nqWrite (typ : Nat) (body : Bytes) (s : State) : State :=
  let h := s.hif
  let i := h.nqTail.toNat
  let e : Notice := { typ := typ, body := body, phase := h.nqPhase, tod := lo32 s.tsu.ns }
  let t := (i + 1) % nqLen h
  let s := { s with hif := { h with
    nqRing := (h.nqRing.filter (fun x => x.1 != i)) ++ [(i, e)]
    nqTail := BitVec.ofNat 16 t
    nqPhase := if t == 0 then !h.nqPhase else h.nqPhase
    nqUnsig := h.nqUnsig + 1 } }
  if (if h.coalCount == 0 then 1 else h.coalCount.toNat) ≤ s.hif.nqUnsig then nqSignal s else s

/-- `n` notifications are lost: counted, NQ_LOST set, event 0xB004 at the first of an episode (R303). -/
def nqLose (n : Nat) (s : State) : State :=
  let t := { s with hif := { s.hif with
    nqLostCnt := s.hif.nqLostCnt + BitVec.ofNat 64 n
    irqStatus := s.hif.irqStatus ||| 0x1000#14
    nqEpisode := match s.hif.nqEpisode with
      | none => some (n, s.tsu.ns)
      | some (k, t) => some (k + n, t) } }
  if s.hif.nqEpisode.isNone then evF 0xB004 [] t else t

/-- A notification waits in the backlog of 1,024, or is lost (R303). -/
def nqWaits (n : Notice) (s : State) : State :=
  if s.hif.backlog.length < 1024 then { s with hif := { s.hif with backlog := s.hif.backlog ++ [n] } } else nqLose 1 s

/-- Post a notification: in the ring when there is room and nothing waits before it, else in the backlog of 1,024, else
lost (R303). -/
def notify (typ : Nat) (body : Bytes) (s : State) : State :=
  if nqRoom s.hif && s.hif.backlog.isEmpty && s.hif.nqAfter.isEmpty && s.hif.nqEpisode.isNone then nqWrite typ body s
  else nqWaits { typ := typ, body := body, phase := false, tod := 0 } s

/-- The body of a COMPLETION entry (Table 12-9). -/
def completionBody (opcode status tag mb session detail : Nat) : Bytes :=
  le 2 opcode ++ le 2 status ++ le 2 tag ++ [BitVec.ofNat 8 mb, 0] ++ le 4 session ++ le 4 detail

/-- A COMPLETION entry. -/
def completion (opcode status tag mb session detail : Nat) (s : State) : State :=
  notify 1 (completionBody opcode status tag mb session detail) s

/-- The COMPLETION of deferred work. Where a reset of the host interface has closed its session, it joins the backlog only
once the queue is enabled again (R310). -/
def deferCompletion (d : Deferred) (status detail : Nat) (s : State) : State :=
  let body := completionBody d.opcode status d.tag d.mb d.session detail
  if d.closed && !s.hif.nqEnable then
    { s with hif := { s.hif with nqHeld := s.hif.nqHeld ++ [{ typ := 1, body := body, phase := false, tod := 0 }] } }
  else notify 1 body s

/-! ### Deferred work (R293) -/

/-- Open deferred work for a command, with no piece of work yet; its number is `s.hif.nextDeferred`. -/
def deferOpen (c : Cmd) (s : State) : State :=
  let d : Deferred := { id := s.hif.nextDeferred, opcode := c.opcode, tag := c.tag, mb := c.mb, session := c.session,
                        status := stOk, detail := 0, left := 0, used := false, runs := false, closed := c.discard }
  { s with hif := { s.hif with deferred := s.hif.deferred ++ [d], nextDeferred := s.hif.nextDeferred + 1 } }

/-- One more piece of work. -/
def deferAdd (id : Nat) (s : State) : State :=
  { s with hif := { s.hif with
      deferred := s.hif.deferred.map (fun d => if d.id == id then { d with left := d.left + 1, used := true } else d) } }

/-- The work waits for the end of the command's batch. -/
def deferHold (id : Nat) (s : State) : State :=
  { s with hif := { s.hif with deferred := s.hif.deferred.map (fun d => if d.id == id then { d with runs := true } else d) } }

/-- A piece of work ends with a status and a detail; when none is left, and the command's batch has ended, exactly one COMPLETION is
posted with the final status (R108, R293). -/
def deferEnd (id status detail : Nat) (s : State) : State :=
  match s.hif.deferred.find? (fun d => d.id == id) with
  | none => s
  | some d =>
    let st := if status == stOk then d.status else status
    if d.left ≤ 1 && !d.runs then
      deferCompletion d st (d.detail + detail)
        { s with hif := { s.hif with deferred := s.hif.deferred.filter (fun x => x.id != id) } }
    else
      { s with hif := { s.hif with deferred := s.hif.deferred.map (fun x =>
          if x.id == id then { x with left := x.left - 1, status := st, detail := x.detail + detail } else x) } }

/-- The command's batch has ended: work with no piece goes, its command answers OK; work whose pieces have all ended is completed. -/
def deferClose (id : Nat) (s : State) : State :=
  let drop (s : State) : State := { s with hif := { s.hif with deferred := s.hif.deferred.filter (fun x => x.id != id) } }
  match s.hif.deferred.find? (fun d => d.id == id) with
  | none => s
  | some d =>
    if d.left == 0 then (if d.used then deferCompletion d d.status d.detail else (·)) (drop s)
    else { s with hif := { s.hif with deferred := s.hif.deferred.map (fun x => if x.id == id then { x with runs := false } else x) } }

/-- Several pieces of work end. -/
def deferEnds (ids : List Nat) (s : State) : State := ids.foldl (fun t i => deferEnd i stOk 0 t) s

/-! ### Mailboxes and the completion of a command (R288 to R293) -/

/-- A mailbox: 0 to 7, or 8 for MB_MTR. -/
def getMb (s : State) (mb : Nat) : Mailbox := if mb == 8 then s.mtr.mb else tget .reset s.hif.mbs mb

/-- Replace a mailbox. -/
def setMb (mb : Nat) (m : Mailbox) (s : State) : State :=
  if mb == 8 then { s with mtr := { s.mtr with mb := m } }
  else { s with hif := { s.hif with mbs := tset .reset s.hif.mbs mb m } }

/-- The vector of a mailbox (Table 12-10). -/
def mbVector (mb : Nat) : Nat := if mb == 8 then 11 else mb

/-- Entry into DONE: COMPLETIONS counts it, and the mailbox's vector is signalled if IRQ_EN is 1 (R288, R289). -/
def mbDone (mb : Nat) (s : State) : State :=
  let m := getMb s mb
  let s := setMb mb { m with st := .done, completions := m.completions + 1, expired := false } s
  if m.irqEn then irq (mbVector mb) s else s

/-- The 16-byte response header (12_host_interface.md, FCP envelope). -/
def respHeader (opcode status tag len detail : Nat) (s : State) : Bytes :=
  le 2 opcode ++ le 2 status ++ le 2 tag ++ le 2 len ++ le 4 detail ++ le 4 s.tsu.ns.toNat

/-- Write a response into the response area (R291: what it does not cover is kept). -/
def mbResponse (mb : Nat) (bytes : Bytes) (s : State) : State :=
  let m := getMb s mb
  setMb mb { m with resp := bufWrite m.resp 0 bytes } s

/-- A mailbox ends in TIMEOUT: HIF writes a response header, event 0xB005 carries the state it was in (Table 12-5). -/
def mbTimeout (mb detail : Nat) (s : State) : State :=
  let m := getMb s mb
  let op := leNat (bufRead m.req 0 2)
  let s := mbResponse mb (respHeader op stTimeout m.tag.toNat 0 detail s) s
  mbDone mb (evH 0xB005 (le 1 mb ++ le 2 m.tag.toNat ++ le 1 m.st.code) s)

/-- What a command answers. -/
structure Reply where
  status : Nat
  detail : Nat
  payload : Bytes
  deriving DecidableEq, Repr

/-- A command ends, or yields while it waits (R295). -/
inductive Res where
  | done (r : Reply) (s : State)
  | wait (w : Wait) (s : State)

/-- OK with a payload. -/
def okWith (payload : Bytes) (s : State) : Res := .done ⟨stOk, 0, payload⟩ s
/-- OK with an empty payload. -/
def ok (s : State) : Res := .done ⟨stOk, 0, []⟩ s
/-- A status that reports no change, with an empty payload. -/
def fail (status : Nat) (s : State) : Res := .done ⟨status, 0, []⟩ s

/-- The command is no longer executing. -/
def cmdDrop (c : Cmd) (s : State) : State := { s with hif := { s.hif with cmds := s.hif.cmds.erase c } }

/-- Complete a command: its response is written, its mailbox enters DONE, and flag NOTIFY posts a COMPLETION unless
deferred work will (R289, R293). A command whose response is to be discarded writes nothing (R310); MB_MTR ignores
NOTIFY (R409). -/
def finish (c : Cmd) (r : Reply) (s : State) : State :=
  let s := cmdDrop c s
  if c.discard then s
  else
    let s := mbResponse c.mb (respHeader c.opcode r.status c.tag r.payload.length r.detail s ++ r.payload) s
    let s := mbDone c.mb s
    if nbit c.flags 1 && c.mb != 8 && r.status != stDeferred then
      completion c.opcode r.status c.tag c.mb c.session r.detail s
    else s

/-- The command waits (R295). -/
def cmdWait (c : Cmd) (w : Wait) (s : State) : State :=
  { s with hif := { s.hif with cmds := s.hif.cmds.map (fun x => if x = c then { c with wait := w } else x) } }

/-- The command a mailbox's agent has taken under an opcode and not begun. -/
def cmdOf (opcode mb : Nat) (s : State) : Option Cmd :=
  s.hif.cmds.find? (fun c => c.mb == mb && c.opcode == opcode && c.wait == Wait.none)

/-- Settle a command: complete it, or let it wait. -/
def settle (c : Cmd) : Res → State
  | .done r t => finish c r t
  | .wait w t => cmdWait c w t

/-- Run a taken command's body. Without such a command, or with no agent running, nothing happens. -/
def fcp (opcode mb : Nat) (body : Cmd → State → Res) (s : State) : State :=
  if !serving s then s
  else match cmdOf opcode mb s with
    | none => s
    | some c => settle c (body c s)

/-- Run a command on MB_MTR: the meter runs by itself (R402). -/
def fcpMeter (opcode mb : Nat) (body : Cmd → State → Res) (s : State) : State :=
  if !(s.mtr.powered && mb == 8) then s
  else match cmdOf opcode 8 s with
    | none => s
    | some c => settle c (body c s)

/-- Resume the commands that wait for something: each that meets the test ends with the result. -/
def wake (p : Wait → Bool) (res : Cmd → State → Res) (s : State) : State :=
  (s.hif.cmds.filter (fun c => p c.wait)).foldl (fun t c => settle c (res c t)) s

/-- A DMA write to host memory (R300). -/
def dmaPut (addr : Nat) (data : Bytes) (s : State) : State :=
  { s with hif := { s.hif with dmaOut := s.hif.dmaOut ++ [⟨addr, data⟩] } }

/-! ### Side tables -/

/-- Change one side of a pair. -/
def onSide {α : Type} (t : Two α) (side : Nat) (f : α → α) : Two α := t.upd side f

/-- The port's record. -/
def port (s : State) (p : Nat) : Port := tget .reset s.ports p
/-- Change a port's record. -/
def setPort (p : Nat) (f : Port → Port) (s : State) : State := { s with ports := tmod .reset s.ports p f }
/-- Change a port's statistics. -/
def cntPort (p : Nat) (f : PortCnt → PortCnt) (s : State) : State :=
  setPort p (fun x => { x with cnt := f x.cnt }) s

end Sys2Proof.Machine
end

