-- ==== Sys2Proof/Machine/FlowOps.lean ====
section
/-! DEFINITION. Operations over ports, traffic-manager storage and frames in flight that several chapters use: port
conditions (R38 to R42), buffer accounting (R188 to R192, R198), the end of a frame (R50 to R53). DEDUCED: log entry
72. -/
namespace Sys2Proof.Machine

/-! ### Ports -/

/-- Lanes of a lane mode (Table 2-1). -/
def modeLanes (m : Nat) : Nat := match m with
  | 1 | 2 | 3 => 1 | 4 | 5 | 6 => 4 | 7 => 8 | 8 | 9 => 2 | _ => 0

/-- Speed of a lane mode in Gbit/s (Table 2-1). -/
def modeSpeed (m : Nat) : Nat := match m with
  | 1 => 25 | 2 => 50 | 3 => 100 | 4 => 100 | 5 => 200 | 6 => 400 | 7 => 800 | 8 => 200 | 9 => 50 | _ => 0

/-- The port's rate in Gbit/s, at least 1. -/
def portRate (s : State) (p : Nat) : Nat := Nat.max 1 (modeSpeed (port s p).cfg.lane)

/-- The port that a port names as its peer, when that one names it back (R16, R56). -/
def pairOf (s : State) (p : Nat) : Option Nat :=
  let c := (port s p).cfg
  let q := c.peer
  if p < 64 && q < 64 && c.role != 0 && (port s q).cfg.role != 0 && (port s q).cfg.peer == p then some q else none

/-- The port is paired; GP0 is configured (Table 2-3). -/
def pairedUp (s : State) (p : Nat) : Bool :=
  if p == 64 then (port s p).cfg.role == 4 else (pairOf s p).isSome

/-- The class an alarm has; under a mismatch of group 1 it reads the alarm's highest allowed class (R365, Tables 15-1
and 15-5). -/
def alarmTop (a : Nat) : Nat :=
  [3, 5, 3, 3, 3, 3, 2, 4, 5, 4, 3, 5, 5, 4, 5, 5, 5, 5, 5, 4, 5, 4, 5, 4].getD a 0

/-- The lowest class an alarm is allowed (Table 15-1). -/
def alarmLow (a : Nat) : Nat :=
  [1, 2, 1, 1, 1, 1, 1, 2, 2, 1, 2, 1, 2, 3, 1, 1, 1, 1, 1, 2, 3, 2, 3, 1].getD a 0

/-- An alarm's class in force (R358, R365). -/
def alarmClass (s : State) (a : Nat) : Nat :=
  if s.tamper.safe.contains (1, a) then alarmTop a else (s.tamper.cfg.alarms.getD a (0, false)).1

/-- A latched alarm of class BLOCK_TRAFFIC or higher, or ENTROPY_FAIL until R126 (R42, R359). -/
def blockCause (s : State) : Bool :=
  s.slices.entropyFail ||
    (List.range 24).any (fun a => s.tamper.latched.getLsbD a && decide (3 ≤ tget 0 s.tamper.taken a))

/-- The port is BLOCKED (R42). -/
def blocked (s : State) (p : Nat) : Bool :=
  ((port s p).st == .up || (port s p).st == .rfault) && blockCause s

/-- Frames can leave the port: UP, not BLOCKED, not forcing Remote Fault (R38, R41, R42). -/
def canSend (s : State) (p : Nat) : Bool := (port s p).st == .up && !blocked s p && !(port s p).forcing

/-- Count a frame in the port's TX_DOWN_DROP_CNT (R41). -/
def downDrop (p : Nat) (s : State) : State := cntPort p (fun c => { c with txDown := c.txDown + 1 }) s

/-! ### Traffic-manager storage -/

/-- The traffic manager a port's frames leave by: 0 host-egress, 1 line-egress (R187). -/
def tmSide (p : Nat) : Nat := if p < 32 then 0 else 1

/-- A side's traffic manager. -/
def tmOf (s : State) (side : Nat) : Tm := s.tm.get side
/-- Change a side's traffic manager. -/
def setTm (side : Nat) (f : Tm → Tm) (s : State) : State := { s with tm := s.tm.upd side f }
/-- A queue. -/
def queueOf (s : State) (side q : Nat) : Queue := tget .reset (tmOf s side).queues q
/-- Change a queue. -/
def setQueue (side q : Nat) (f : Queue → Queue) (s : State) : State :=
  setTm side (fun t => { t with queues := tmod .reset t.queues q f }) s
/-- A port's traffic-manager record. -/
def tmPort (s : State) (p : Nat) : TmPort := tget (TmPort.reset (tmSide p)) (tmOf s (tmSide p)).ports (p % 32)
/-- Change a port's traffic-manager record. -/
def setTmPort (p : Nat) (f : TmPort → TmPort) (s : State) : State :=
  setTm (tmSide p) (fun t => { t with ports := tmod (TmPort.reset (tmSide p)) t.ports (p % 32) f }) s

/-! ### Halts by received flow control (R202) -/

/-- The classes of a port that are halted now: a halt begins 8 CCLK after its frame. -/
def haltMask (s : State) (x : TmPort) : Nat :=
  mask ((List.range 8).map (fun t => nbit x.halted t && reached s.tsu.ns (tget 0 x.haltFrom t)))

/-- Put an interval among intervals in the order of their beginnings. -/
def spanIn (x : Nat × Nat) : List (Nat × Nat) → List (Nat × Nat)
  | [] => [x]
  | y :: t => if x.1 ≤ y.1 then x :: y :: t else y :: spanIn x t

/-- The length of the union of intervals, in the order of their beginnings, from `lo` on. -/
def unionLen : Nat → List (Nat × Nat) → Nat
  | _, [] => 0
  | lo, (a, b) :: t => (b - Nat.max lo a) + unionLen (Nat.max lo b) t

/-- The counted halted time of a port: the nanoseconds up to now in which any class was halted. -/
def pausedNow (s : State) (x : TmPort) : W64 :=
  let since := x.haltSince.toNat
  let on := (List.range 8).filter (nbit x.halted)
  let spans := on.map (fun t => ((tget 0 x.haltFrom t).toNat, Nat.min s.tsu.ns.toNat (tget 0 x.haltEnd t).toNat))
  x.pausedNs + BitVec.ofNat 64 (unionLen since (spans.foldr spanIn []))

/-- A class's halt ends. -/
def haltOff (t : Nat) (x : TmPort) : TmPort :=
  { x with halted := x.halted &&& (255 - 2 ^ t), haltFrom := tset 0 x.haltFrom t 0, haltEnd := tset 0 x.haltEnd t 0 }

/-- The queue range of a port index: base and count (R188). -/
def rangeOf (t : Tm) (side k : Nat) : Nat × Nat :=
  match (tget (TmPort.reset side) t.ports k).range with
  | none => (64 * k, 64)
  | some r => r

/-- The queue lies in the range of a port index. -/
def inRange (r : Nat × Nat) (q : Nat) : Bool := decide (r.1 ≤ q) && decide (q < r.1 + r.2)

/-- The port index whose range holds a queue. -/
def queueOwner (t : Tm) (side q : Nat) : Option Nat :=
  (List.range 32).find? (fun k => inRange (rangeOf t side k) q)

/-- A queue's traffic class; after reset q mod 8, the ranges' bases being multiples of 64 (R188). -/
def queueTc (q : Nat) (r : Queue) : Nat := r.tc.getD (q % 8)

/-- Cells held by the queues of a range. -/
def rangeCells (t : Tm) (r : Nat × Nat) : Nat :=
  (t.queues.map (fun e => if inRange r e.1 then e.2.cells else 0)).sum

/-- Reserve of a port index in cells, by the buffer split (Table 8-1). -/
def tmReserve (s : State) : Nat := match s.profile.split with
  | 0 => 384 | 1 => 1024 | _ => 256
/-- The shared pool in cells (Table 8-1). -/
def tmPool (s : State) : Nat := match s.profile.split with
  | 0 => 86016 | 1 => 65536 | _ => 90112
/-- Eight times the dynamic factor (Table 8-1). -/
def tmAlpha8 (s : State) : Nat := match s.profile.split with
  | 0 => 1 | 1 => 8 | _ => 32

/-- Cells a port index holds in the shared pool: what its reserve does not cover (R192). -/
def portShared (s : State) (side k : Nat) : Nat :=
  rangeCells (tmOf s side) (rangeOf (tmOf s side) side k) - tmReserve s

/-- Free cells of a side's shared pool. -/
def sharedFree (s : State) (side : Nat) : Nat :=
  tmPool s - ((List.range 32).map (fun k => portShared s side k)).sum

/-- The events of the shared pool's free cells (R210). -/
def sharedEvents (side : Nat) (s : State) : State :=
  let free := sharedFree s side
  let t := tmOf s side
  if !t.sharedHigh && decide (8 * free < tmPool s) then
    evH 0x5001 (le 1 side) (setTm side (fun t => { t with sharedHigh := true }) s)
  else if t.sharedHigh && decide (tmPool s ≤ 4 * free) then
    evH 0x5002 (le 1 side) (setTm side (fun t => { t with sharedHigh := false }) s)
  else s

/-! ### Frames -/

/-- A frame in flight. -/
def frameOf (s : State) (id : Nat) : Option Frame := tget none s.flow.frames id
/-- Write or remove a frame. -/
def setFrame (id : Nat) (f : Option Frame) (s : State) : State :=
  { s with flow := { s.flow with frames := tset none s.flow.frames id f } }
/-- Change a frame, if it is there. -/
def modFrame (id : Nat) (g : Frame → Frame) (s : State) : State :=
  match frameOf s id with
  | none => s
  | some f => setFrame id (some (g f)) s
/-- Frames meeting a test, in order of their numbers. -/
def framesWith (s : State) (p : Frame → Bool) : List Nat :=
  s.flow.frames.filterMap (fun e => match e.2 with
    | some f => if p f then some e.1 else none
    | none => none)

/-- A KENNEL slot. -/
def slotOf (s : State) (i : Nat) : Slot := tget .reset s.km.slots i
/-- Change a KENNEL slot. -/
def setSlot (i : Nat) (f : Slot → Slot) (s : State) : State :=
  { s with km := { s.km with slots := tmod .reset s.km.slots i f } }

/-- Give up one reference of a slot, when it still has the generation of the binding (R168). -/
def slotRelease (b : Option (Nat × BitVec 8)) (s : State) : State :=
  match b with
  | none => s
  | some (i, g) => if (slotOf s i).gen == g then setSlot i (fun x => { x with ref := x.ref - 1 }) s else s

/-- Change a unit. -/
def setUnit (u : Nat) (f : SUnit → SUnit) (s : State) : State :=
  { s with slices := { s.slices with units := tmod .reset s.slices.units u f } }
/-- A unit. -/
def unitOf (s : State) (u : Nat) : SUnit := tget .reset s.slices.units u

/-- Take a frame out of a group's FIFOs and of its egress ports' orders. -/
def groupDrop (id : Nat) (g : Group) : Group :=
  { g with
    pairQ := g.pairQ.erase id
    singleQ := g.singleQ.erase id
    order := (g.order.map (fun e => (e.1, e.2.erase id))).filter (fun e => !e.2.isEmpty) }

/-- A unit's mask generator is seeded with 256 bits from the DRBG (R124). -/
def unitReseed (u : Nat) (s : State) : State :=
  let d := drawDrbg s
  let s := setUnit u (fun x => { x with
    maskKey := d.1, maskPos := 0, maskSet := none, reseedDue := false, repeated := false, seeded := true }) d.2
  if u < 16 then occur 5 8 0 1 s else s

/-- A unit is at a frame or head boundary: a reseed that is due is made (R124, Table 5-7). -/
def unitBoundary (u : Nat) (s : State) : State := if (unitOf s u).reseedDue then unitReseed u s else s

/-- Mark the slices that held a frame free: the longest-free order puts them last (R117). -/
def unitsFree (id : Nat) (s : State) : State :=
  let us := (List.range 16).filter (fun u => (unitOf s u).frame == some id)
  us.foldl (fun t u =>
    let t := unitBoundary u (setUnit u (fun x => { x with frame := none }) t)
    if u < 8 then
      { t with slices := { t.slices with enc := { t.slices.enc with freeOrder := t.slices.enc.freeOrder.erase u ++ [u] } } }
    else
      { t with slices := { t.slices with dec := { t.slices.dec with freeOrder := t.slices.dec.freeOrder.erase u ++ [u] } } })
    s

/-- The words of a frame in its slice: 32 bytes each, with the ICV (R138). -/
def frameWords (f : Frame) : Nat := (secureLen f + (if f.data.isSome || f.shared.isSome then 16 else 0) + 31) / 32

/-- Count the slots of a frame whose words leave its slice, in words of 32 bytes with the ICV: RETIRED when the slice delivered it
intact, else WASTED; the members of a pair take words in turn, the even one first. A word counts once (R138). -/
def slotWords (f : Frame) (intact : Bool) (s : State) : State :=
  match f.unit with
  | none => s
  | some u =>
    if f.out then s else
    let n := frameWords f
    let add (k : Nat) (x : SUnit) : SUnit :=
      { x with slotCnt := tmod 0 x.slotCnt (if intact then 0 else 1) (· + BitVec.ofNat 64 k) }
    if f.pair then setUnit (u + 1) (add (n / 2)) (setUnit u (add ((n + 1) / 2)) s) else setUnit u (add n) s

/-- Give back the hold-buffer cells of a frame, at each member of a pair (R132). -/
def holdFree (f : Frame) (s : State) : State :=
  match f.unit with
  | none => s
  | some u =>
    if f.holdCells == 0 then s
    else
      let s := setUnit u (fun x => { x with cells := x.cells - f.holdCells }) s
      if f.pair then setUnit (u + 1) (fun x => { x with cells := x.cells - f.holdCells }) s else s

/-- A frame that its slice has delivered intact leaves it, and its hold buffer, unless the slice is held back; a transcrypted one
keeps the name of its slice until it is at the crossbar (R118, R132, R138, Table 6-2). -/
def sliceLeave (id : Nat) (s : State) : State :=
  match frameOf s id with
  | none => s
  | some f =>
    if f.stall || f.out then s
    else setFrame id (some { f with
      unit := if f.kind == .xcDec then f.unit else none, holdCells := 0, release := none, out := true })
      (slotWords f true (holdFree f s))

/-- In how many 2^-32 ns a frame in release frees a cell at each member: 8 CCLK, or 4 where the words leave in both shares (R132, R147;
DEDUCED: log entry 138). -/
def cellTime (f : Frame) : Nat := if f.kind == .xcDec then 10737418240 else 21474836480

/-- The cells of a frame in release that its words have left by now are given back (R132). -/
def holdSettleOne (s : State) (id : Nat) : State :=
  match frameOf s id with
  | none => s
  | some f => match f.release with
    | none => s
    | some r =>
      let gone := (s.tsu.count - r) / cellTime f
      if f.holdCells ≤ gone then sliceLeave id s
      else
        setFrame id (some { f with holdCells := f.holdCells - gone, release := some (r + gone * cellTime f) })
          (holdFree { f with holdCells := gone } s)

/-- A frame's words lie in a slice or in its hold buffer. -/
def inUnit (f : Frame) : Bool := f.unit.isSome && !f.out

/-- Every frame in release from a hold buffer. -/
def holdSettle (s : State) : State := (framesWith s (fun f => f.release.isSome)).foldl holdSettleOne s

/-- The group a frame's current half uses. -/
def kindGroup (k : Kind) : Nat := match k with
  | .dec | .xcDec => 1
  | _ => 0
/-- A group: 0 encrypt, 1 decrypt. -/
def groupOf (s : State) (g : Nat) : Group := if g == 0 then s.slices.enc else s.slices.dec
/-- Change a group. -/
def setGroup (g : Nat) (f : Group → Group) (s : State) : State :=
  if g == 0 then { s with slices := { s.slices with enc := f s.slices.enc } }
  else { s with slices := { s.slices with dec := f s.slices.dec } }

/-- A verified frame's release from the hold buffer begins (R132). -/
def releaseBegin (id : Nat) (s : State) : State :=
  modFrame id (fun f => if f.verified && f.holdCells != 0 && f.release.isNone then { f with release := some s.tsu.count } else f) s

/-! ### The completion buffer (R118) -/

/-- Bytes a frame is known to hold. -/
def knownLen (f : Frame) : Nat := (f.data.getD f.hdr).length

/-- Bytes a frame takes in a completion buffer: a transcrypted one lies there as two shares (R118, R147). -/
def orderLen (f : Frame) : Nat := if f.kind == .xcDec then 2 * secureLen f else knownLen f + macsecLen f

/-- Bytes in a group's completion buffer of 256 KiB. -/
def orderBytes (s : State) (g : Nat) : Nat :=
  ((framesWith s (fun f => f.stage == .order && kindGroup f.kind == g)).map
    (fun id => ((frameOf s id).map orderLen).getD 0)).sum

/-- A slice that was held back goes on with its frame: a whole one that it has done its work on leaves it. -/
def unstall (id : Nat) (s : State) : State :=
  match frameOf s id with
  | none => s
  | some f =>
    if !f.stall then s
    else
      let s := setFrame id (some { f with stall := false }) s
      let s := if f.cipher.isSome || (f.verified && f.holdCells == 0) then sliceLeave id s else s
      if f.data.isSome || f.shared.isSome then unitsFree id s else s

/-- A frame that waits in its slice for room in the completion buffer enters it, if there is room now. -/
def stallEnter (g id : Nat) (s : State) : State :=
  match frameOf s id with
  | none => s
  | some f =>
    let more := if f.stage == .order then 0 else orderLen f
    if orderBytes s g + more ≤ 262144 then
      releaseBegin id (modFrame id (fun f => { f with stage := .order }) (unstall id s))
    else s

/-- The frames of a group whose slices the completion buffer holds back and has room for now. -/
def stallDrain (g : Nat) (s : State) : State :=
  (framesWith s (fun f => f.stall && kindGroup f.kind == g)).foldl (fun t id => stallEnter g id t) s

/-! ### The end of a frame -/

/-- What of a stomped frame has left: what its slice had made of it when it ended, else what the ingress MAC took, padded
to 64 bytes with its FCS (R50). -/
def stompBytes (f : Frame) : Bytes :=
  let d := match f.kind with
    | .enc | .xcEnc => f.cipher.getD []
    | .dec | .xcDec => ptpApply f (f.plain.getD [])
    | _ => ptpApply f (f.data.getD f.hdr)
  d ++ zb (60 - d.length)

/-- The blocks of a head bound to a frame that does not use it are discarded and counted (R127, R129). -/
def headDiscard (f : Frame) (s : State) : State :=
  let n := if f.hit then 0 else (f.head.map (·.blocks.length)).getD 0
  { s with slices := { s.slices with discardBlk := s.slices.discardBlk + BitVec.ofNat 64 n } }

/-- The frames of a TX SC in the line-egress TM. -/
def scFrames (s : State) (c : Nat) : List Nat :=
  framesWith s (fun f => f.txSch == some c && f.tmCells != 0 && decide (32 ≤ f.egress))

/-- The TX SC's binding lapses when none of its frames is left in the line-egress TM (R190). -/
def bindLapse (sch : Option Nat) (s : State) : State :=
  match sch with
  | none => s
  | some c =>
    if (scFrames s c).isEmpty then
      setTm 1 (fun t => { t with binds := tset none t.binds c none }) s
    else s

/-- Take a frame out of its queue and return its cells. -/
def tmRemove (id : Nat) (s : State) : State :=
  match frameOf s id with
  | none => s
  | some f =>
    match f.queue with
    | none => s
    | some q =>
      let side := tmSide f.egress
      let s := setQueue side q (fun x =>
        { x with frames := x.frames.erase id, cells := x.cells - f.tmCells,
                 serving := if f.stage == .sending then false else x.serving }) s
      let s := setTmPort f.egress (fun x => { x with
        sending := if x.sending == some id then x.resume else x.sending
        resume := if x.sending == some id || x.resume == some id then none else x.resume }) s
      let s := setFrame id (some { f with tmCells := 0, queue := none }) s
      sharedEvents side (bindLapse f.txSch s)

/-- Take a frame out of the wait buffer. -/
def kwbRemove (id : Nat) (s : State) : State :=
  { s with flow := { s.flow with kwb := ⟨s.flow.kwb.host.erase id, s.flow.kwb.line.erase id⟩ } }

/-- What is left of an ended frame: nothing once its last byte has arrived, else the reception that goes on. -/
def remains (f : Frame) : Option Frame :=
  if f.data.isNone && f.ingress.isSome then
    some { f with stage := .gone, left := false, txSlot := none, rxSlot := none, queue := none, tmCells := 0,
                  kwbCells := 0, holdCells := 0, unit := none, slot := none, depart := none,
                  head := none, shared := none, stall := false, release := none, out := false, masks := none }
  else none

/-- Remove a frame from every place it holds: wait buffer, distributor, slice, reorder stage, queue, slots. -/
def remove (id : Nat) (s : State) : State :=
  match frameOf s id with
  | none => s
  | some f =>
    let s := tmRemove id s
    let s := kwbRemove id s
    let s := headDiscard f (holdFree f (unitsFree id s))
    let s := { s with slices := { s.slices with enc := groupDrop id s.slices.enc, dec := groupDrop id s.slices.dec } }
    let s := slotRelease f.rxSlot (slotRelease f.txSlot s)
    setFrame id (remains f) s

/-- A frame is discarded: it is removed, and the room it leaves in a completion buffer lets the frames held back go on (R118). -/
def discard (id : Nat) (s : State) : State :=
  match frameOf s id with
  | none => s
  | some f => (if f.stage == .order then stallDrain (kindGroup f.kind) else (·)) (remove id s)

/-- The way out of a frame has closed: its slice, if it is in one, still works on it to its end; else it is discarded
(R41, R53, Table 5-7). -/
def cutFrame (id : Nat) (s : State) : State :=
  match frameOf s id with
  | none => s
  | some f =>
    if f.unit.isSome && !f.verified && f.stomp.isNone then
      let s := tmRemove id s
      modFrame id (fun f => { f with stage := .cut, left := false, slot := none, depart := none }) s
    else discard id (if f.verified then sliceLeave id s else s)

/-- Count a stomp once at the egress port: 0 ICV, 1 abort, 2 receive error (R52). -/
def cntStomp (p cause : Nat) (s : State) : State :=
  cntPort p (fun c =>
    match cause with
    | 0 => { c with stompIcv := c.stompIcv + 1 }
    | 1 => { c with stompAbort := c.stompAbort + 1 }
    | _ => { c with stompRxerr := c.stompRxerr + 1 }) s

/-- The cells of a frame whose length in the TM is settled are cut to those it uses, at its last word (R192). -/
def tmCut (id n : Nat) (s : State) : State :=
  match frameOf s id with
  | none => s
  | some f => match f.queue with
    | none => s
    | some q =>
      let c := Nat.min f.tmCells (cellsOf n)
      if c == f.tmCells then s
      else
        let side := tmSide f.egress
        sharedEvents side (setFrame id (some { f with tmCells := c })
          (setQueue side q (fun x => { x with cells := x.cells - (f.tmCells - c) }) s))

/-- End a frame under R50: dropped whole if its first byte has not left the egress MAC, else ended with a stomped FCS: an abort
is counted at once, an ICV failure or a receive error when the stomped frame departs, since a link that is lost before wins
(R52, Table 2-9). Its slot references are given up, and the cells its end does not need (R192). -/
def endFrame (id cause : Nat) (s : State) : State :=
  match frameOf s id with
  | none => s
  | some f =>
    if f.left then
      if f.stomp.isSome then s
      else
        let s := slotRelease f.rxSlot (slotRelease f.txSlot (holdFree f (unitsFree id s)))
        let s := { s with slices := { s.slices with enc := groupDrop id s.slices.enc, dec := groupDrop id s.slices.dec } }
        let s := setFrame id (some { f with stomp := some cause, txSlot := none, rxSlot := none, holdCells := 0, unit := none
                                            stall := false, release := none }) s
        let s := tmCut id ((stompBytes f).length + 4) s
        if cause == 1 then cntStomp f.egress 1 s else s
    else discard id s

/-- Discard the frames queued for a port, each counted in TX_DOWN_DROP_CNT; its queues hold no F_last (R41,
Table 8-2). -/
def flushPort (p : Nat) (s : State) : State :=
  let ids := framesWith s (fun f => f.egress == p && f.stage == .queued && !f.left)
  let s := ids.foldl (fun t i => downDrop p (cutFrame i t)) s
  if p < 64 then
    let side := tmSide p
    setTm side (fun t =>
      let r := rangeOf t side (p % 32)
      { t with queues := t.queues.foldl (fun acc e =>
          if inRange r e.1 then tmod .reset acc e.1 (fun x => { x with fLast := none }) else acc) t.queues }) s
  else s

/-- A frame that loses its link while it is transmitted is counted there too, unless an abort has ended it (R41, Table 2-9). -/
def cutSending (p : Nat) (s : State) : State :=
  let ids := framesWith s (fun f => f.egress == p && f.left)
  ids.foldl (fun t i =>
    let t := match frameOf t i with
      | some f => if f.stomp == some 1 then t else downDrop p t
      | none => t
    cutFrame i t) s

/-- A transcrypted frame on the shared path: from its D slice to its E slice (R146). -/
def onSharedPath (f : Frame) : Bool :=
  (f.kind == .xcDec && (f.stage == .slice || f.stage == .order)) ||
    (f.kind == .xcEnc && (f.stage == .kwb || f.stage == .dist))

/-- The transcrypted frames on the shared path of an egress port that leaves UP are dropped (Table 6-2). -/
def cutShared (p : Nat) (s : State) : State :=
  (framesWith s (fun f => f.egress == p && onSharedPath f)).foldl (fun t i => downDrop p (cutFrame i t)) s

/-- The port forces Remote Fault under LINK_FOLLOW: its transmitter runs and its peer is not UP (R38). -/
def wantsForce (s : State) (p : Nat) : Bool :=
  let x := port s p
  x.cfg.linkFollow && x.cfg.role != 0 && x.cfg.role != 4 && (x.st == .linkWait || x.st == .up || x.st == .rfault) &&
    (port s x.cfg.peer).st != .up

/-- Start or stop forcing Remote Fault on a port, with its event; what is queued when it starts is discarded. -/
def followPort (s : State) (p : Nat) : State :=
  let w := wantsForce s p
  if w == (port s p).forcing then s
  else
    let s := setPort p (fun x => { x with forcing := w }) s
    if w then evH 0x1007 (le 1 p) (flushPort p s) else evH 0x1008 (le 1 p) s

/-- Every port's LINK_FOLLOW condition, after a change of state or configuration. -/
def follow (s : State) : State := (List.range 64).foldl followPort s

/-- Enter a port state: the time is kept; a port that enters UP or RFAULT under a cause of R42 is BLOCKED from then, and
what is queued for it is discarded. -/
def enterPort (p : Nat) (st : PortSt) (s : State) : State :=
  let s := setPort p (fun x => { x with st := st, lastChange := s.tsu.ns }) s
  if blocked s p then flushPort p s else s

/-- The ports that become BLOCKED discard what is queued for them (R42, R125); a frame in transmission completes (log entry
100). -/
def flushBlocked (s : State) : State :=
  if blockCause s then
    (List.range 65).foldl (fun t p => if blocked t p then flushPort p t else t) s
  else s

end Sys2Proof.Machine
end

