-- ==== Sys2Proof/Machine/SliceOps.lean ====
section
/-! DEFINITION. Operations over slices, groups and the hot set that several chapters use (05_cipher_slices.md).
DEDUCED: log entry 77. -/
namespace Sys2Proof.Machine

/-- The slices of a group (R135). -/
def groupUnits (g : Nat) : List Nat := (List.range 8).map (fun i => 8 * g + i)
/-- The unit serves. -/
def inService (s : State) (u : Nat) : Bool := (unitOf s u).st == .inService
/-- The pairs of a group in pair service, by their even members: both members IN_SERVICE (R116, R135). -/
def groupPairs (s : State) (g : Nat) : List Nat :=
  [0, 2, 4, 6].map (8 * g + ·) |>.filter (fun u => inService s u && inService s (u + 1))

/-- Count an aborted frame: at a slice, or at a group's distributor. -/
def cntAbort (unit : Option Nat) (g : Nat) (s : State) : State :=
  match unit with
  | some u => setUnit u (fun x => { x with aborts := x.aborts + 1 }) s
  | none => setGroup g (fun x => { x with aborts := x.aborts + 1 }) s

/-! ### Masks and shares (R122 to R124, R130) -/

/-- A slot's key shares reach a unit, which begins with no block computed. -/
def unitLoad (x : Slot) (u : SUnit) : SUnit :=
  { u with roundKeys := x.roundKeys, hash := x.hash, aes := .none, keystream := .none }

/-- A unit's shares, its mask set and its hold cells are cleared (R125, R135, R136). -/
def unitClear (u : SUnit) : SUnit :=
  { u with roundKeys := .none, hash := .none, aes := .none, keystream := .none, maskSet := none, cells := 0 }

/-- Where a unit's mask generator stands. -/
def SUnit.maskAt (u : SUnit) : MaskAt := ⟨u.maskKey, u.maskPos⟩

/-- A mask generator gives 64-bit words, under the continuous test (R124). -/
def maskDraw (words : Nat) (u : SUnit) : SUnit :=
  { u with maskSet := some u.maskAt, maskPos := u.maskPos + words, repeated := u.repeated || maskRepeats u.maskKey u.maskPos words }

/-- The mask set a unit takes where a frame or a head begins: one set in FRAME (Table 5-2). -/
def maskBegin (u : SUnit) : SUnit := if u.maskFull then u else maskDraw 72 u

/-- The masks of the CCLK in which a unit generates a number of keystream blocks, 2 in each: 9,216 bits a CCLK in FULL
(Table 5-2). -/
def maskUse (blocks : Nat) (u : SUnit) : SUnit := if u.maskFull then maskDraw (144 * ((blocks + 1) / 2)) u else u

/-- The mask set that a frame's slice works on it with: its own, else the one in force in the slice (R123). -/
def frameSet (s : State) (f : Frame) : MaskAt :=
  let u := unitOf s (f.unit.getD 0)
  (f.masks.or u.maskSet).getD u.maskAt

/-- `n` bytes of the masks of a frame (log entry 120). -/
def frameMask (s : State) (f : Frame) (n : Nat) : Bytes := maskBytes (frameSet s f).key (frameSet s f).pos n

/-- The keystream blocks that a frame's pre-roll head brings (R130). -/
def headOf (f : Frame) : List Shares := if f.hit then (f.head.map (·.blocks)).getD [] else []

/-- The members of a frame's slice or pair have generated the keystream of its `n` encrypted bytes, the tag mask with it, but for
what its head brings (R122, R123, R130): in FULL the masks are fresh. The block registers hold the last block as shares. The
frame, with its masks. -/
def unitsRun (id : Nat) (f : Frame) (x : Slot) (iv : Bytes) (n : Nat) (s : State) : Frame × State :=
  match f.unit with
  | none => (f, s)
  | some u =>
    let last := (n + 15) / 16
    let k := 1 + last - (headOf f).length
    let s := setUnit u (maskUse (if f.pair then (k + 1) / 2 else k)) s
    let s := if f.pair then setUnit (u + 1) (maskUse (k / 2)) s else s
    let f := if k != 0 && (unitOf s u).maskFull then { f with masks := (unitOf s u).maskSet } else f
    let b := if k == 0 then ((headOf f).getLast?).getD Shares.none
      else Shares.split (frameMask s f 16) (aesRk (rksOf x.roundKeys) (gcmBlock iv (last + 1)))
    let put (y : SUnit) : SUnit := { y with aes := b, keystream := b }
    let s := setUnit u put s
    (f, setFrame id (some f) (if f.pair then setUnit (u + 1) put s else s))

/-! ### What a slice makes of a frame (R45 to R47, R49, R122, R146) -/

/-- The clear part of secure data under an SA: its offset, or all of it (R47). -/
def clearPart (a : Sa) (n : Nat) : Nat := if a.integrityOnly then n else Nat.min a.offset n

/-- The frame in clear that an E slice encrypts: what it writes for PTP, and the mark of a yellow host frame (R219, R249). -/
def txPlain (f : Frame) : Bytes :=
  let d := ptpApply f (f.data.getD f.hdr)
  if f.yellow then markYellow d else d

/-- What an E slice takes: DA and SA, and the secure data as two parts, the second zero for a frame in clear. -/
def txParts (f : Frame) : Shared := match f.kind with
  | .xcEnc => f.shared.getD ⟨[], [], []⟩
  | _ => ⟨(txPlain f).take 12, (txPlain f).drop 12, zb (txPlain f).length⟩

/-- The encrypted frame from DA on, and its ICV: SecTAG inserted, data encrypted under the frame's head and the keystream mask `t`
(R45 to R47, R122, R130, R146). SL needs the whole frame. -/
def encrypt (c : Sc) (a : Sa) (x : Slot) (t : Bytes) (f : Frame) : Bytes × Bytes :=
  let p := txParts f
  let n := clearPart a p.a.length
  let sl := if (f.data.isSome || f.shared.isSome) && decide (p.a.length < 48) then p.a.length else 0
  let tag := be 2 0x88E5 ++ le 1 f.tci ++ le 1 sl ++ be 4 (f.pn % 4294967296) ++
    (match f.tagSci with
     | some i => be 8 i
     | none => [])
  let out := p.mac ++ tag ++ xorBytes (p.a.take n) (p.b.take n)
  let r := sealShares x.roundKeys x.hash (headOf f) (frameIv c.suite c.sci a.ssci f.pn x.salt) out t (p.a.drop n) (p.b.drop n)
  (out ++ r.1, r.2)

/-- What a D slice makes of a whole frame: DA and SA, the secure data as two shares, with the mask `m` over what arrived in clear
and over the keystream, and whether the ICV verifies (R49, R146, Table 4-1). -/
def decrypt (c : Sc) (a : Sa) (x : Slot) (m : Bytes) (f : Frame) : Shared × Bool :=
  let d := f.data.getD []
  let tl := rxOver d - 16
  let body := d.drop (12 + tl)
  let sec := body.take (body.length - 16)
  let n := clearPart a sec.length
  let r := openShares x.roundKeys x.hash (frameIv c.suite c.sci a.ssci f.rxPn x.salt) (d.take (12 + tl) ++ sec.take n)
    (m.drop n) (sec.drop n) (pad 16 (body.drop (body.length - 16)))
  (⟨d.take 12, xorBytes (sec.take n) (pad n m) ++ r.1.a, pad n m ++ r.1.b⟩, r.2)

/-- The frame of two shares. -/
def Shared.plain (x : Shared) : Bytes := x.mac ++ xorBytes x.a x.b

/-- The plaintext of what has arrived of a frame that its D slice passes on as it comes (R133). -/
def decryptSoFar (c : Sc) (a : Sa) (x : Slot) (f : Frame) : Bytes :=
  let d := f.data.getD f.hdr
  let sec := sub d (12 + (rxOver d - 16)) (secureLen f)
  let n := clearPart a sec.length
  d.take 12 ++ sec.take n ++ xorBytes (sec.drop n)
    (gcmStream (rksOf x.roundKeys) (frameIv c.suite c.sci a.ssci f.rxPn x.salt) (sec.length - n))

/-! ### The end of a frame in a slice (R134, R136, R138, R139) -/

/-- Secure-data octets that a member of a pair processes: words of 32 bytes in turn, the even member first (R116). -/
def pairShare (n : Nat) (odd : Bool) : Nat :=
  let full := n / 32
  let last := n % 32
  if odd then 32 * (full / 2) + (if full % 2 == 1 then last else 0)
  else 32 * ((full + 1) / 2) + (if full % 2 == 0 then last else 0)

/-- Count the octets of a frame at its slice, or at each member of its pair (R139). -/
def sliceOctets (f : Frame) (n : Nat) (s : State) : State :=
  match f.unit with
  | none => s
  | some u =>
    let add (k : Nat) (x : SUnit) : SUnit := { x with octets := x.octets + BitVec.ofNat 64 k }
    if f.pair then setUnit (u + 1) (add (pairShare n true)) (setUnit u (add (pairShare n false)) s)
    else setUnit u (add n) s

/-- The SC, the SA and the slot that a frame's current half runs under. -/
def halfKeys (s : State) (f : Frame) : Option (Sc × Sa × Slot) :=
  let h := if kindGroup f.kind == 0 then (f.txSch, f.txSah, f.txSlot) else (f.rxSch, f.rxSah, f.rxSlot)
  match h.1.bind (fun k => tget none s.chan.scs k), h.2.1.bind (fun k => tget none s.chan.sas k), h.2.2 with
  | some c, some a, some (i, _) => some (c, a, slotOf s i)
  | _, _, _ => none

/-- A slice does not deliver its frame: its words are WASTED, the octets it has processed count, unless they do already, and what
may have left the device is kept for a stomp, a yellow frame's marked (R50, R138, R139, R219; log entry 124). -/
def sliceSpoil (id : Nat) (counted : Bool) (s : State) : State :=
  match frameOf s id with
  | none => s
  | some f => match f.unit with
    | none => s
    | some _ =>
      let g := match halfKeys s f with
        | none => f
        | some (c, a, x) =>
          if kindGroup f.kind == 0 then
            let r := encrypt c a x (frameMask s f (secureLen f)) f
            { f with cipher := some (r.1 ++ if f.data.isSome || f.shared.isSome then r.2 else []) }
          else if f.verified || f.heel then f
          else
            let d := decryptSoFar c a x f
            { f with plain := some (if f.yellow then markYellow d else d) }
      setFrame id (some { g with out := true }) (slotWords f false (if counted then s else sliceOctets f (secureLen f) s))

/-- End a frame in the slices under R50, counted in SLC_ABORT_CNT; one whose way out has closed is counted already (R53, R125,
R134, R136). Where frames are held back for room in the completion buffer, stallDrain follows. -/
def abortFrame (id : Nat) (unit : Option Nat) (s : State) : State :=
  match frameOf s id with
  | none => s
  | some f =>
    let s := sliceSpoil id (f.data.isSome || f.shared.isSome) s
    if f.stage == .cut then remove id s
    else (if f.left then endFrame id 1 else remove id) (cntAbort unit (kindGroup f.kind) s)

/-- As abortFrame, by MUZZLE or an entropy failure: no other counter records the frame (R53). -/
def abortMarked (id : Nat) (s : State) : State :=
  let unit := (frameOf s id).bind (·.unit)
  abortFrame id unit (modFrame id (fun f => { f with aborted := true }) s)

/-! ### Choosing a slice (R116, R117, R132, R147) -/

/-- Free hold cells a slice needs to admit a frame (R132, R147). -/
def holdNeed (s : State) (f : Frame) : Nat :=
  let m := (f.ingress.map (fun p => (port s p).cfg.maxFrame)).getD 0
  let m := if f.kind == .xcDec then 2 * m else m
  if !f.heel || kindGroup f.kind == 0 then 0 else if f.pair then (m + 511) / 512 else cellsOf m

/-- A slice can take a frame: in service, seeded, free, with the hold space (R117, R124). -/
def sliceFree (s : State) (f : Frame) (u : Nat) : Bool :=
  inService s u && (unitOf s u).seeded && (unitOf s u).frame.isNone && decide (holdNeed s f + (unitOf s u).cells ≤ 256)

/-- The reserved pair for a pair frame that waits: the first in which a member became free (R117). -/
def pairReserve (g : Nat) (s : State) : State :=
  let x := groupOf s g
  let ps := groupPairs s g
  let keep := x.reserved.any (ps.contains ·)
  if x.pairQ.isEmpty then (if x.reserved.isSome then setGroup g (fun x => { x with reserved := none }) s else s)
  else if keep then s
  else
    let r := (x.freeOrder.find? (fun u => (unitOf s u).frame.isNone && ps.contains (u / 2 * 2))).map (fun u => u / 2 * 2)
    setGroup g (fun x => { x with reserved := r }) s

/-- The slice for a single frame: longest free, ungated before gated, not in the reserved pair (R117). -/
def singleFor (s : State) (g : Nat) (f : Frame) : Option Nat :=
  let x := groupOf s g
  let ok := x.freeOrder.filter (fun u => sliceFree s f u && x.reserved != some (u / 2 * 2))
  match ok.find? (fun u => !(unitOf s u).gated) with
  | some u => some u
  | none => ok.head?

/-- The pair for a pair frame: the one that has been fully available longest (R117). -/
def pairFor (s : State) (g : Nat) (f : Frame) : Option Nat :=
  let ok := (groupPairs s g).filter (fun u => sliceFree s f u && sliceFree s f (u + 1))
  let order := (groupOf s g).freeOrder
  (ok.map (fun u => (Nat.max (order.idxOf u) (order.idxOf (u + 1)), u))).foldl (fun (b : Option (Nat × Nat)) e =>
    match b with
    | none => some e
    | some c => if e.1 < c.1 then some e else some c) none |>.map (·.2)

/-- Where the head of a FIFO would go now. -/
def frameFor (s : State) (g : Nat) (f : Frame) : Option Nat := if f.pair then pairFor s g f else singleFor s g f

/-! ### The distributor's buffer (R117, R147) -/

/-- Bytes a frame takes in a distributor buffer: a transcrypted one lies there as two shares. -/
def distLen (f : Frame) : Nat := if f.kind == .xcEnc then 2 * secureLen f else knownLen f

/-- The frames of a FIFO that wait: all but a head that a slice is free for. -/
def distWaits (s : State) (g : Nat) : List Nat → List Nat
  | [] => []
  | id :: t => if ((frameOf s id).bind (frameFor s g)).isSome then t else id :: t

/-- Bytes waiting in a group's distributor buffer. -/
def distBytes (s : State) (g : Nat) : Nat :=
  ((distWaits s g (groupOf s g).pairQ ++ distWaits s g (groupOf s g).singleQ).map
    (fun id => ((frameOf s id).map distLen).getD 0)).sum

/-- A frame leaves the KENNEL stage for its group's distributor (R117): one that finds a slice goes to it, any other waits in the
buffer or is discarded. What has become free by now is: the cells of frames in release, and a pair for a waiting pair frame. While
the units are stopped it is counted as though its port were not UP (R125). -/
def distEnter (id : Nat) (s : State) : State :=
  match frameOf s id with
  | none => s
  | some f =>
    let g := kindGroup f.kind
    let s := pairReserve g (holdSettle s)
    let first := if f.pair then (groupOf s g).pairQ.isEmpty else (groupOf s g).singleQ.isEmpty
    let goes := first && (frameFor s g f).isSome
    if s.slices.entropyFail then downDrop f.egress (discard id s)
    else if (f.pair && (groupPairs s g).isEmpty) || (!goes && decide (131072 < distBytes s g + distLen f)) then
      discard id (cntAbort none g s)
    else
      setGroup g (fun x => if f.pair then { x with pairQ := x.pairQ ++ [id] } else { x with singleQ := x.singleQ ++ [id] })
        (setFrame id (some { f with stage := .dist }) s)

/-- A waiting frame that has grown past the buffer is discarded (R117). -/
def distGrown (id : Nat) (g : Nat) (s : State) : State :=
  let waits := (distWaits s g (groupOf s g).pairQ ++ distWaits s g (groupOf s g).singleQ).contains id
  if waits && decide (131072 < distBytes s g) then discard id (cntAbort none g s) else s

/-- Pair frames of a group that has no pair in service are discarded (R117). -/
def pairsCheck (g : Nat) (s : State) : State :=
  if (groupPairs s g).isEmpty then (groupOf s g).pairQ.foldl (fun t id => discard id (cntAbort none g t)) s else s

/-! ### The hot set (R127) -/

/-- The hot entry of a SAH. -/
def hotIndex (s : State) (sah : Nat) : Option Nat :=
  (s.slices.hot.find? (fun e => match e.2 with
    | some h => h.sah == sah
    | none => false)).map (·.1)

/-- A hot entry. -/
def hotOf (s : State) (i : Nat) : Option Hot := tget none s.slices.hot i
/-- Write a hot entry. -/
def setHot (i : Nat) (h : Option Hot) (s : State) : State :=
  { s with slices := { s.slices with hot := tset none s.slices.hot i h } }

/-- The slot a SAH's map entry names: LOADING or RESIDENT (R167). -/
def slotBy (s : State) (sah : Nat) : Option Nat :=
  (s.km.slots.find? (fun e => e.2.sah == sah && (e.2.st == .loading || e.2.st == .resident))).map (·.1)

/-- The heads that wait in the KWB with frames of a SAH, which have not come to their hit check, are zeroised and counted (R127,
R129; DESIGN CHOICE: log entry 131). -/
def headsLapse (sah : Nat) (s : State) : State :=
  (framesWith s (fun f => f.stage == .kwb && f.txSah == some sah && f.head.isSome)).foldl (fun t id =>
    match frameOf t id with
    | some f => setFrame id (some { f with head := none }) (headDiscard f t)
    | none => t) s

/-- Count discarded head blocks. -/
def discardHeads (h : Hot) (s : State) : State :=
  let n := h.h1.blocks.length + h.h2.blocks.length
  { s with slices := { s.slices with discardBlk := s.slices.discardBlk + BitVec.ofNat 64 n } }

/-- Vacate an entry: its heads are zeroised and counted, those of frames in the KWB with them, and its slot reference is given up
(R127, R168). -/
def hotVacate (i : Nat) (s : State) : State :=
  match hotOf s i with
  | none => s
  | some h =>
    let s := headsLapse h.sah (setHot i none (discardHeads h s))
    match slotBy s h.sah with
    | none => s
    | some k => setSlot k (fun x => { x with ref := x.ref - 1 }) s

/-- Vacate the entry of a SAH, if it has one. -/
def hotLeave (sah : Nat) (s : State) : State :=
  match hotIndex s sah with
  | none => s
  | some i => hotVacate i s

/-- Vacate every entry. -/
def hotClear (s : State) : State := (s.slices.hot.map (·.1)).foldl (fun t i => hotVacate i t) s

end Sys2Proof.Machine
end

