-- ==== Sys2Proof/Machine/PackOps.lean ====
section
/-! DEFINITION. Pack operations that other chapters use: sending a message, the directory, claims, leaving
(11_pack.md). -/
namespace Sys2Proof.Machine

/-- Change the pack member. -/
def setPack (f : Pack → Pack) (s : State) : State := { s with pack := f s.pack }

/-- Change the TSU. -/
def setTsu (f : Tsu → Tsu) (s : State) : State := { s with tsu := f s.tsu }

/-- Enter a servo state. -/
def servoTo (st : Nat) (s : State) : State :=
  setTsu (fun t => { t with servo := st, since := t.ns, limitFlag := false }) s

/-- The source is lost in ACQUIRING or LOCKED: HOLDOVER, event 0x6003 (Table 10-2). A master change in the same evaluation wins
(Table 10-6). -/
def servoLost (cause : Nat) (s : State) : State :=
  if s.tsu.external || !(s.tsu.servo == 1 || s.tsu.servo == 2) || s.tsu.masterTod == some s.tsu.ns then s
  else evF 0x6003 (le 1 s.tsu.source ++ le 1 cause) (servoTo 3 s)

/-- Leaving ACTIVE ends the PACK source (R269, R440). -/
def packTimeLost (s : State) : State :=
  let s := setPack (fun p => { p with syncRx := none, delayTx := none, syncDelta := none, packDelay := none }) s
  if s.tsu.source == 3 then servoLost 3 s else s

/-- The commands that wait for the pack: claims, votes, copies. -/
def packWaits (w : Wait) : Bool := match w with
  | .claim _ _ _ | .vote _ | .deputy _ => true
  | _ => false

/-- The answer to a command that waits for a pack its member is no longer in: a claim of SC_CREATE has failed (R271). -/
def packCut (c : Cmd) (s : State) : Res := fail (if c.opcode == 0x0300 then stInvalid else stWrongState) s

/-- Out of the pack: what is volatile is gone, the statistics stay, and nothing waits for the pack any more (R262,
R279). -/
def packGone (s : State) : State :=
  let s := if s.pack.st == .active then packTimeLost s else s
  let s := setPack (fun p =>
    { Pack.reset with
      exchange := p.exchange, sent := p.sent, txCnt := p.txCnt, rxCnt := p.rxCnt, authFail := p.authFail,
      replayDrop := p.replayDrop, foreign := p.foreign, claimCnt := p.claimCnt, denyCnt := p.denyCnt,
      commitCnt := p.commitCnt, abortCnt := p.abortCnt, lateCnt := p.lateCnt, lostCnt := p.lostCnt }) s
  wake packWaits packCut s

/-! ### Message bodies: network order, in a layout of the model's own (R7, Table 11-2; log entry 40) -/

/-- A directory entry on the wire. -/
def dirWire (e : DirEntry) : Bytes :=
  le 1 e.typ ++ [0] ++ be 2 e.owner ++ be 4 e.ssci ++ be 8 e.sci ++ be 2 e.sch ++ be 4 e.sah
/-- A TOD and its fraction. -/
def timeWire (t : W64 × W32) : Bytes := be 8 t.1.toNat ++ be 4 t.2.toNat
/-- HELLO: the roles, the directory version, the configured and the heard members. -/
def helloBody (claims eligible : Bool) (version view heard : Nat) : Bytes :=
  le 1 (mask [claims, eligible]) ++ be 4 version ++ be 64 view ++ be 64 heard
/-- KEY_ROTATE: the key number, a cause, and the sealed key where the cause is 0; else the member is out, 1 expelled, 2 rotated
out, 3 departed. -/
def rotateBody (number cause : Nat) (wrapped : Bytes) : Bytes := be 4 number ++ le 1 cause ++ wrapped
/-- EPOCH_PREP. -/
def prepBody (p : EpochParams) : Bytes :=
  be 4 p.number ++ be 8 p.ts.toNat ++ be 8 p.tp.toNat ++ be 8 p.overlap ++ be 64 p.members
/-- An item of STATE_COPY and of its acknowledgement. -/
def copyBytes : CopyItem → Bytes
  | .vote n m ready => [0] ++ be 4 n ++ be 2 m ++ bit8 ready
  | .grant e => [1] ++ dirWire e
  | .decision n commit => [2] ++ be 4 n ++ bit8 commit

/-! ### Frames (R260, R261, R265) -/

/-- The header of Table 11-1. -/
def packHead (version typ len packId source dest seq key : Nat) : Bytes :=
  le 1 version ++ le 1 typ ++ le 2 len ++ le 8 packId ++ le 2 source ++ le 2 dest ++ le 8 seq ++ le 4 key ++ zb 4

/-- The IV of a pack message (R261). -/
def packIv (source seq : Nat) : Bytes := be 2 source ++ zb 2 ++ be 8 seq

/-- JOIN messages are not under the pack key. -/
def packJoinType (typ : Nat) : Bool := typ == 2 || typ == 3 || typ == 4

/-- A pack frame, without FCS: DA, SA, EtherType, header, body encrypted under the pack key, ICV (R260, R261). -/
def packFrame (typ packId source dest seq keyNumber : Nat) (key body : Bytes) : Bytes :=
  let head := packHead 1 typ body.length packId source dest seq keyNumber
  let x := if packJoinType typ then (body, zb 16) else gcmSeal key (packIv source seq) head body
  be 6 (if dest == 0xFFFF then 0x031B44475700 else 0x021B44470000 + dest) ++ be 6 (0x021B44470000 + source) ++ be 2 0x88B5 ++
    head ++ x.1 ++ x.2

/-- Frames of a message that is carried in fragments of 1,416 bytes (R265). -/
def fragCount (body : Bytes) : Nat := Nat.max 1 ((body.length + 1415) / 1416)

/-- The bodies of the frames of a message: JOIN_REQ and JOIN_ACCEPT go in fragments (R265). -/
def packBodies (typ exchange : Nat) (body : Bytes) : List Bytes :=
  if typ == 2 || typ == 3 then
    let n := fragCount body
    (pieces 1416 n body).zipIdx.map (fun x => le 4 exchange ++ le 1 x.2 ++ le 1 n ++ le 2 body.length ++ x.1)
  else [body]

/-- Count a pack frame at GP0's MAC, by the length of its body (R54, R260; log entry 38). -/
def gpFrame (tx : Bool) (len : Nat) (s : State) : State :=
  let n := BitVec.ofNat 64 (66 + len)
  cntPort 64 (fun c => if tx then { c with txFrames := c.txFrames + 1, txOctets := c.txOctets + n }
    else { c with rxFrames := c.rxFrames + 1, rxOctets := c.rxOctets + n }) s

/-- The pack key of a number, as far as this member holds it: the current one, or one replaced. -/
def packKey (s : State) (number : Nat) : Option Bytes :=
  if number == s.pack.keyNumber then s.pack.key else (s.pack.olds.find? (·.number == number)).map (·.key)

/-- Own next sequence under a key (R261). -/
def packSeq (s : State) (number : Nat) : Nat :=
  if number == s.pack.sendNow then s.pack.txSeq else tget 1 s.pack.oldSeq number

/-- Take `n` sequences under a key. -/
def packSeqTake (number n : Nat) (s : State) : State :=
  setPack (fun p => if number == p.sendNow then { p with txSeq := p.txSeq + n }
    else { p with oldSeq := tset 1 p.oldSeq number (tget 1 p.oldSeq number + n) }) s

/-- Send a pack message to one member, or to all with 0xFFFF, under a key, in frames with the sender's next sequences (R260, R261,
R265). A member whose sequence would pass 2^64 - 1 leaves the pack. While GP0 sends no frames, the message is dropped there (R42). -/
def packSendUnder (number : Nat) (key : Bytes) (typ dest : Nat) (body : Bytes) (s : State) : State :=
  let p := s.pack
  let bodies := packBodies typ p.exchange body
  let named := if packJoinType typ then 0 else number
  let seq := packSeq s number
  if p.st == .none then s
  else if 2 ^ 64 ≤ seq + bodies.length - 1 then evF 0x7005 [0] (packGone s)
  else
    let s := packSeqTake number bodies.length s
    if !canSend s 64 then bodies.foldl (fun t _ => downDrop 64 t) s
    else
      let fs := bodies.zipIdx.map (fun x => packFrame typ p.packId p.me dest (seq + x.2) named key x.1)
      bodies.foldl (fun t b => gpFrame true b.length t)
        (setPack (fun q => { q with sent := some ⟨typ, dest, seq, named, body, fs⟩, txCnt := q.txCnt + 1 }) s)

/-- Send a pack message under the key sent under now. -/
def packSend (typ dest : Nat) (body : Bytes) (s : State) : State :=
  packSendUnder s.pack.sendNow ((packKey s s.pack.sendNow).getD []) typ dest body s

/-- What is known of a member. -/
def peerOf (s : State) (m : Nat) : Peer := tget .reset s.pack.peers m
/-- Change what is known of a member. -/
def setPeer (m : Nat) (f : Peer → Peer) (s : State) : State :=
  setPack (fun p => { p with peers := tmod .reset p.peers m f }) s

/-- A lead acts only while it is ACTIVE (R267). -/
def leads (s : State) : Bool := s.pack.st == .active && s.pack.lead == some s.pack.me

/-- This member is the lead. -/
def isLead (s : State) : Bool :=
  (s.pack.st == .active || s.pack.st == .isolated) && s.pack.lead == some s.pack.me

/-- The deputy: the lowest-numbered eligible heard member other than the lead (R267). -/
def deputy (s : State) : Option Nat :=
  (List.range 512).find? (fun m => s.pack.lead != some m &&
    (if m == s.pack.me then s.pack.eligible else (peerOf s m).configured && (peerOf s m).heard && (peerOf s m).eligible))

/-- The entry of Table 11-4. -/
def dirBytes (e : DirEntry) : Bytes :=
  le 1 e.typ ++ [0] ++ le 2 e.owner ++ le 4 e.ssci ++ be 8 e.sci ++ le 2 e.sch ++ [0, 0] ++ le 4 e.sah

/-- Two entries reserve the same value: an SCI, or an SSCI for any SCI (R271). -/
def dirSame (a b : DirEntry) : Bool :=
  a.typ == b.typ && (if a.typ == 1 then a.sci == b.sci else a.ssci == b.ssci)

/-- The member owns the value already. -/
def dirOwned (s : State) (e : DirEntry) : Bool := s.pack.dir.any (fun x => dirSame x e && x.owner == e.owner)

/-- The limit of an entry type (R270). -/
def dirLimit (typ : Nat) : Nat := if typ == 1 then 65536 else 131072

/-- A grant on its way to the deputy. -/
def copyGrant : CopyItem → Option DirEntry
  | .grant e => some e
  | _ => none

/-- The directory is full for a type, grants on their way to the deputy included (R270, R277). -/
def dirFull (s : State) (typ : Nat) : Bool :=
  decide (dirLimit typ ≤ ((s.pack.dir ++ s.pack.copies.filterMap copyGrant).filter (fun x => x.typ == typ)).length)

/-- Another member owns the value, or has a grant of it on its way to the deputy (R271, R278). -/
def dirTaken (s : State) (e : DirEntry) : Bool :=
  s.pack.dir.any (fun x => dirSame x e && x.owner != e.owner) ||
    (s.pack.copies.filterMap copyGrant).any (fun x => dirSame x e && x.owner != e.owner)

/-- The lead grants a claim (R271). -/
def dirGrants (s : State) (e : DirEntry) : Bool := !dirTaken s e && (dirOwned s e || !dirFull s e.typ)

/-- Add an entry to the replica, once. -/
def dirAdd (e : DirEntry) (v : Nat) (s : State) : State :=
  setPack (fun p => { p with
    dir := p.dir.filter (fun x => !(dirSame x e && x.owner == e.owner)) ++ [e], dirVersion := v
    releasing := p.releasing.filter (fun x => !(dirSame x e && x.owner == e.owner)) }) s

/-- Remove an entry from the replica. -/
def dirRemove (e : DirEntry) (v : Nat) (s : State) : State :=
  setPack (fun p => { p with
    dir := p.dir.filter (fun x => !(dirSame x e && x.owner == e.owner)), dirVersion := v
    releasing := p.releasing.filter (fun x => !(dirSame x e && x.owner == e.owner)) }) s

/-- The lead releases an entry: its replica changes and every member is told (R270, R272). -/
def leadRelease (e : DirEntry) (s : State) : State :=
  let v := s.pack.dirVersion + 1
  packSend 0x23 0xFFFF (dirWire e ++ [0] ++ be 4 v) (dirRemove e v s)

/-- A member releases a value it owns (R272). While no lead acts, because there is none or this member is a lead that is
ISOLATED, the release is owed (R267). -/
def packRelease (e : DirEntry) (s : State) : State :=
  if !dirOwned s e then s
  else if leads s then leadRelease e s
  else match s.pack.lead with
    | some l =>
      if l == s.pack.me then setPack (fun p => { p with owed := p.owed ++ [e] }) s
      else packSend 0x24 l (dirWire e) (setPack (fun p => { p with releasing := p.releasing ++ [e] }) s)
    | none => setPack (fun p => { p with owed := p.owed ++ [e] }) s

/-- The releases owed are made, as far as a lead takes them. -/
def releasesDue (s : State) : State :=
  s.pack.owed.foldl (fun t e => packRelease e t) (setPack (fun p => { p with owed := [] }) s)

/-- The lead makes a grant effective: the entry enters the directory, and every member is told (R270). -/
def leadGrant (e : DirEntry) (s : State) : State :=
  let v := s.pack.dirVersion + 1
  packSend 0x23 0xFFFF (dirWire e ++ [1] ++ be 4 v) (dirAdd e v s)

/-- Claim a value at the lead (R271): some verdict when it is known at once, none when the answer is to come. The
lead copies a grant to its deputy first (R268). A value whose release is on its way is claimed afresh. -/
def packClaim (e : DirEntry) (mb : Nat) (s : State) : Option Bool × State :=
  if dirOwned s e && !s.pack.releasing.any (fun x => dirSame x e) then (some true, setPack (fun p => { p with owed := p.owed.filter (fun x => !dirSame x e) }) s)
  else if isLead s then
    let s := setPack (fun p => { p with claimCnt := p.claimCnt + 1 }) s
    if dirGrants s e then
      match deputy s with
      | none => (some true, leadGrant e s)
      | some d =>
        (none, packSend 0x34 d (copyBytes (.grant e))
          (setPack (fun p => { p with copies := p.copies ++ [.grant e], claims := p.claims ++ [⟨e, mb⟩] }) s))
    else
      let full := !dirTaken s e
      let s := setPack (fun p => { p with denyCnt := p.denyCnt + 1 }) s
      (some false, if full then evF 0x700A (le 1 e.typ) s else s)
  else match s.pack.lead with
    | some l =>
      (none, packSend 0x20 l (dirWire e)
        (setPack (fun p => { p with claimCnt := p.claimCnt + 1, claims := p.claims ++ [⟨e, mb⟩] }) s))
    | none => (some false, s)

end Sys2Proof.Machine
end

