-- ==== Sys2Proof/Machine/KeyOps.lean ====
section
/-! DEFINITION. Operations of the key manager that several chapters use (07_key_manager.md): key records, lineages,
blobs, slots and their victims, the fetch and its checks, the wait buffers, the freeing of an SA (R92). DEDUCED: log
entry 78. -/
namespace Sys2Proof.Machine

/-! ### Records -/

/-- The key record of a SAH. -/
def keyOf (s : State) (sah : Nat) : KeyRec := tget .reset s.km.keys sah
/-- Change the key record of a SAH. -/
def setKey (sah : Nat) (f : KeyRec → KeyRec) (s : State) : State :=
  { s with km := { s.km with keys := tmod .reset s.km.keys sah f } }

/-! ### The blob store and the generation table in LPDDR5X (R163, R164; log entry 116) -/

/-- The key manager's regions. -/
def kmBase : Nat := 0x1000000000 + Sys2Proof.Config.kmRegion
/-- The line of a SAH's blob: the region's base + SAH × 128. -/
def blobAddr (sah : Nat) : Nat := kmBase + 128 * sah
/-- A line of the generation table, behind the blob store's 16 MiB. -/
def lineAddr (l : Nat) : Nat := kmBase + 16777216 + 64 * l
/-- The blob as memory holds it. -/
def blobAt (s : State) (sah : Nat) : Bytes := bufRead s.prot.mem (blobAddr sah) 96
/-- A generation-table line as memory holds it. -/
def lineAt (s : State) (l : Nat) : Bytes := bufRead s.prot.mem (lineAddr l) 64
/-- The CMAC of a line's bytes under the table-line key, its first 64 bits. -/
def lineMac (s : State) (b : Bytes) : BitVec 64 := BitVec.ofNat 64 (beNat ((cmac s.km.lineKey.value b).take 8))
/-- The bytes of a line fail the tag kept on chip. -/
def lineFails (s : State) (l : Nat) (b : Bytes) : Bool :=
  lineMac s b != (tget none s.km.lineTags l).getD (lineMac s (zb 64))
/-- The generations of a line as the key manager keeps them. -/
def lineGens (s : State) (l : Nat) : Bytes := (List.range 32).flatMap (fun i => le 2 (keyOf s (32 * l + i)).gen.toNat)

/-- Write a blob into its line, bytes 96 to 127 zero. -/
def putBlob (sah : Nat) (blob : Bytes) (s : State) : State :=
  { s with prot := { s.prot with mem := bufWrite s.prot.mem (blobAddr sah) (pad 128 (blob.take 96)) } }

/-- A SAH's generation is written to its line, which gets the tag of the generations the key manager keeps. -/
def putGen (sah : Nat) (s : State) : State :=
  { s with
    prot := { s.prot with
      mem := bufWrite s.prot.mem (lineAddr (sah / 32) + 2 * (sah % 32)) (le 2 (keyOf s sah).gen.toNat) }
    km := { s.km with lineTags := tset none s.km.lineTags (sah / 32) (some (lineMac s (lineGens s (sah / 32)))) } }

/-- An SA record, kept after the SA is FREE again. -/
def saOf (s : State) (sah : Nat) : Option Sa := tget none s.chan.sas sah
/-- Change an SA record. -/
def setSa (sah : Nat) (f : Sa → Sa) (s : State) : State :=
  match saOf s sah with
  | none => s
  | some a => { s with chan := { s.chan with sas := tset none s.chan.sas sah (some (f a)) } }
/-- An SC record. -/
def scOf (s : State) (sch : Nat) : Option Sc := tget none s.chan.scs sch
/-- Write or remove an SC record. -/
def putSc (sch : Nat) (c : Option Sc) (s : State) : State :=
  { s with chan := { s.chan with scs := tset none s.chan.scs sch c } }
/-- The SA's state, FREE where none was installed. -/
def saSt (s : State) (sah : Nat) : SaSt := match saOf s sah with
  | some a => a.st
  | none => .free
/-- A lineage. -/
def lineageOf (s : State) (id : Nat) : Option Lineage := tget none s.km.lineages id
/-- The key sources are refused under R166 or R178. -/
def sourcesRefused (s : State) : Bool := (s.boot.bbram.counter != 0 && !s.km.restored) || s.km.sealed
/-- Change the counters of a side. -/
def cntKm (side : Nat) (f : KmCnt → KmCnt) (s : State) : State :=
  { s with km := { s.km with cnt := s.km.cnt.upd side f } }

/-! ### Lineage keys and blobs -/

/-- The context of a lineage key: ID, 3 bytes big-endian, and generation (R157). -/
def lineageContext (id gen : Nat) : Bytes := be 3 id ++ le 1 gen
/-- The KEK of a lineage generation under FBK, or under MK for a forward blob (Table 7-1). -/
def blobKek (root : Bytes) (id gen : Nat) : Bytes := kdf root "BLOB" (lineageContext id gen) 32

/-- A key of Table 7-1 in the two shares it is held as (log entry 120). -/
def keyShares (v : Bytes) (s : State) : Shares × State := (Shares.split (drawSplit s).1 v, (drawSplit s).2)

/-- UDS. No register holds it. -/
def udsOf (s : State) : Bytes := (s.km.uds.map Shares.value).getD []

/-- FBK, as far as it is there. No register holds it. -/
def fbkOf (s : State) : Bytes := (s.km.fbk.map Shares.value).getD []

/-- The running image's MK, as far as it is there. No register holds it. -/
def mkRunOf (s : State) : Bytes := (s.km.mkRun.map Shares.value).getD []

/-- The entry of the KEK cache for a pair (R441). -/
def kekCached (id gen : Nat) (s : State) : Option (Nat × Nat × Shares) :=
  s.km.kekCache.find? (fun e => e.1 == id && e.2.1 == gen)

/-- The KEK of a lineage generation under FBK: the cached one, else derived (Table 7-1, R441). -/
def kekOf (s : State) (id gen : Nat) : Bytes := match kekCached id gen s with
  | some e => e.2.2.value
  | none => blobKek (fbkOf s) id gen

/-- A use of a lineage's KEK by a wrap: it becomes the most recently used; one not cached is derived, split and takes the place of
the least recently used (R441). -/
def kekUse (id gen : Nat) (s : State) : State :=
  let r := match kekCached id gen s with
    | some e => (e.2.2, s)
    | none => keyShares (blobKek (fbkOf s) id gen) s
  let rest := s.km.kekCache.filter (fun e => e.1 != id || e.2.1 != gen)
  { r.2 with km := { r.2.km with kekCache := ((id, gen, r.1) :: rest).take 256 } }

/-- A use of a lineage's KEK by a fetch: it becomes the most recently used; a pair not cached is counted and replaces the least
recently used (R441). -/
def kekTouch (side id gen : Nat) (s : State) : State :=
  let hit := (kekCached id gen s).isSome
  let s := kekUse id gen s
  if hit then s else cntKm side (fun c => { c with kekMiss := c.kekMiss + 1 }) s

/-- What a blob holds. -/
structure Mat where
  suite : Nat
  key : Bytes
  salt : Bytes
  usage : Nat
  origin : Nat
  lineage : Nat
  deriving DecidableEq, Repr

/-- The 48 bytes of material (Table 7-3, offset 32). -/
def matBytes (m : Mat) : Bytes := pad 32 m.key ++ pad 12 m.salt ++ zb 4

/-- A blob, under the KEK that `kek` gives its lineage generation (R161, R162). -/
def blobMake (kek : Nat → Nat → Bytes) (sah gen lgen : Nat) (migration : Bool) (m : Mat) : Bytes :=
  let head := le 4 0x4B420001 ++ le 4 (sah + 16777216 * b2n migration) ++ le 4 gen ++ le 4 (m.lineage + 16777216 * lgen) ++
    le 1 m.suite ++ le 1 (b2n (isXpn m.suite)) ++ le 1 m.origin ++ le 1 m.usage ++ zb 12
  let r := sivSeal (kek m.lineage lgen) (sub head 4 8 ++ zb 4) head (matBytes m)
  head ++ r.1 ++ r.2

/-- The material's zero fields are zero, and its salt agrees with the suite (Table 7-3). -/
def matOk (suite : Nat) (plain : Bytes) : Bool :=
  zeros plain (suiteKey suite) (32 - suiteKey suite) && zeros plain 44 4 && (isXpn suite || zeros plain 32 12)

/-- The material of a suite out of the unsealed 48 bytes. -/
def matOf (suite usage origin lineage : Nat) (plain : Bytes) : Mat :=
  { suite := suite, key := sub plain 0 (suiteKey suite), salt := if isXpn suite then sub plain 32 12 else [],
    usage := usage, origin := origin, lineage := lineage }

/-- The checks of Table 7-7 on a blob and its generation-table line, in order: the number of the first that fails, or the
material. `want` is the SA's suite and direction; `forward` takes check 6 as satisfied (R178). -/
def blobCheck (kek : Nat → Nat → Bytes) (sah : Nat) (want : Option (Option Nat × Bool)) (forward ecc : Bool) (line blob : Bytes)
    (s : State) : Except Nat Mat :=
  let w1 := u32 blob 4
  let lin := u32 blob 12 % 16777216
  let lgen := u32 blob 12 / 16777216
  let suite := u8 blob 16
  let usage := u8 blob 19
  let lineOk := match lineageOf s lin with
    | some l => !l.spent && l.gen.toNat == lgen
    | none => false
  if ecc then .error 1
  else if lineFails s (sah / 32) line then .error 2
  else if u32 blob 0 != 0x4B420001 || w1 % 131072 != sah then .error 3
  else if u16 blob 8 != u16 line (2 * (sah % 32)) then .error 4
  else if !lineOk then .error 5
  else if nbit w1 24 && !forward then .error 6
  else match sivOpen (kek lin lgen) (sub blob 4 8 ++ zb 4) (blob.take 32) (sub blob 32 48) (sub blob 80 16) with
    | none => .error 7
    | some plain =>
      let fits := match want with
        | none => true
        | some (cs, rx) => (cs.isNone || cs == some suite) && nbit usage (b2n rx)
      if w1 / 131072 % 128 != 0 || w1 / 33554432 != 0 || u16 blob 10 != 0 || !zeros blob 20 12 || 3 < usage || 4 < u8 blob 18
        || suite == 0 || 4 < suite || u8 blob 17 != b2n (isXpn suite) || !matOk suite plain || !fits then .error 8
      else .ok (matOf suite usage (u8 blob 18) lin plain)

/-- The status of a failed check (Table 7-7). -/
def checkStatus (n : Nat) : Nat := if n == 4 || n == 5 then stStale else stIntegrity

/-! ### The freeing of an SA -/

/-- An SA of an XPN GROUP channel uses an SSCI. -/
def usesSsci (s : State) (a : Sa) (ssci : Nat) : Bool :=
  a.st != .free && a.ssci == ssci && (match scOf s a.sch with
    | some c => c.group && isXpn c.suite
    | none => false)

/-- The directory entry an SA that becomes FREE releases: its SSCI, when no other SA uses it (R270, R272). -/
def ssciEntry (s : State) (sah : Nat) : Option DirEntry :=
  match saOf s sah with
  | none => none
  | some a =>
    if usesSsci s a a.ssci && !s.chan.sas.any (fun e => e.1 != sah && (e.2.any (fun b => usesSsci s b a.ssci))) then
      some { typ := 2, owner := s.pack.me, ssci := a.ssci, sci := ((scOf s a.sch).map (·.sci)).getD 0, sch := a.sch,
             sah := sah }
    else none

/-- A retired SAH: its generation advances, not past 0xFFFF, and it is ABSENT (R92, R163). -/
def keyAdvance (sah : Nat) (s : State) : State :=
  putGen sah (setKey sah (fun k => { st := .absent, gen := if k.gen == 0xFFFF then k.gen else k.gen + 1 }) s)

/-- An SA becomes FREE: its SAH's generation advances, a GROUP SSCI is released, event 0x3005 is raised for a drain or a
timed retirement, and the deferred entries that wait for it complete (R92, R108, R109, R272). -/
def saFree (sah : Nat) (ev : Bool) (s : State) : State :=
  match saOf s sah with
  | none => s
  | some a =>
    let e := ssciEntry s sah
    let s := keyAdvance sah (setSa sah (fun a => { a with st := .free, change := s.tsu.ns, waiters := [] }) s)
    let s := match e with
      | some d => packRelease d s
      | none => s
    let s := if ev then evH 0x3005 (le 4 sah ++ le 2 a.tag) s else s
    deferEnds a.waiters s

/-- A frame waits in a wait buffer for the key of a SAH. -/
def kwbWaits (s : State) (sah : Nat) : Bool :=
  (s.flow.kwb.host.any fun id => ((frameOf s id).bind (·.txSah)) == some sah) ||
    (s.flow.kwb.line.any fun id => ((frameOf s id).bind (·.rxSah)) == some sah)

/-- A slot of the SAH is referenced, or a frame waits for the slot it will load (Table 7-4). -/
def slotHeld (s : State) (sah : Nat) : Bool :=
  s.km.slots.any (fun e => e.2.sah == sah && e.2.st != .free && e.2.ref != 0) || kwbWaits s sah

/-- A DRAINING SA whose slots are no longer referenced becomes FREE (Table 4-4). -/
def saDrained (sah : Nat) (s : State) : State :=
  if saSt s sah == .draining && !slotHeld s sah then saFree sah true s else s

/-! ### Slots -/

/-- A slot becomes FREE: its shares are cleared, and what waits for it completes (Table 7-5). -/
def slotFree (i : Nat) (s : State) : State :=
  let x := slotOf s i
  saDrained x.sah (deferEnds x.waiters (setSlot i (fun x => { Slot.reset with gen := x.gen }) s))

/-- A retirement, an eviction or a condemnation commits on a slot (Table 7-5). Its hot entry is vacated. -/
def slotStop (i : Nat) (s : State) : State :=
  match (slotOf s i).st with
  | .loading => setSlot i (fun x => { x with stop := true }) s
  | .resident =>
    let s := hotLeave (slotOf s i).sah s
    if (slotOf s i).ref == 0 then slotFree i s
    else setSlot i (fun x => { x with st := .draining, drain := s.tsu.ns }) s
  | _ => s

/-- The slots of a SAH. -/
def slotsOf (s : State) (sah : Nat) : List Nat := tkeys (fun _ x => x.sah == sah && x.st != .free) s.km.slots

/-- The first slot from `i` on, among `n`, that is FREE. -/
def slotSeek (s : State) : Nat → Nat → Option Nat
  | 0, _ => none
  | n + 1, i => if (slotOf s i).st == .free then some i else slotSeek s n (i + 1)

/-- The clock sweep (R170): use bits of eligible slots are cleared as it passes; the first eligible slot found with its
bit clear is the victim. -/
def slotSweep : Nat → State → Option Nat × State
  | 0, s => (none, s)
  | n + 1, s =>
    let i := s.km.sweep
    let x := slotOf s i
    let t := occur 6 5 0 1 { s with km := { s.km with sweep := (i + 1) % 16384 } }
    if x.st == .resident && !x.pinned && x.ref == 0 then
      if x.use then slotSweep n (setSlot i (fun x => { x with use := false }) t) else (some i, t)
    else slotSweep n t

/-- A slot for a fetch: the lowest FREE one (log entry 111), or a victim, which KENNEL_EVICT_CNT counts (R170). -/
def slotTake (s : State) : Option Nat × State :=
  match slotSeek s 16384 0 with
  | some i => (some i, s)
  | none => match slotSweep 32768 s with
    | (none, _) => (none, s)
    | (some i, t) => (some i, slotFree i { t with km := { t.km with evictCnt := t.km.evictCnt + 1 } })

/-- A slot is chosen for a fetch: its generation advances and the map names it; the stop of a draining SA is recorded
on it (Table 7-5). -/
def slotLoad (i sah : Nat) (datapath : Bool) (s : State) : State :=
  let stop := saSt s sah == .draining
  let s := setSlot i (fun x =>
    { Slot.reset with gen := x.gen + 1, st := .loading, sah := sah, datapath := datapath, stop := stop }) s
  { s with km := { s.km with noVictim := false } }

/-- The shares of a key are split and written: the slot is RESIDENT, or DRAINING if a stop was recorded (Tables 7-5 and
7-6). -/
def slotFill (i : Nat) (m : Mat) (s : State) : State :=
  let r := drawSplit s
  setSlot i (fun x => { x with
    st := if x.stop then .draining else .resident, drain := s.tsu.ns, suite := m.suite, salt := m.salt
    lineage := m.lineage, roundKeys := Shares.split r.1 (roundKeys m.key).flatten
    hash := Shares.split (r.1.drop 240) (be 16 (hashKey m.key).toNat) }) r.2

/-- The key a slot holds: the beginning of its round keys. No register holds it. -/
def slotKey (x : Slot) : Bytes := x.roundKeys.value.take (suiteKey x.suite)

/-- The pinned slots (R170). -/
def pinnedCount (s : State) : Nat := (tkeys (fun _ x => x.pinned) s.km.slots).length

/-- Count a failed fetch on a side. -/
def cntFetch (side check : Nat) (s : State) : State :=
  cntKm side (fun c => if checkStatus check == stStale then { c with stale := c.stale + 1 }
    else { c with integrity := c.integrity + 1 }) s

/-! ### Pre-roll: admission and the hit check (R127 to R129) -/

/-- The head limit H of a speed (Table 5-3). -/
def headLimit (speed : Nat) : Nat := match speed with
  | 50 => 1 | 100 => 4 | 200 => 10 | 400 => 20 | 800 => 42 | _ => 0

/-- The decision length S of a speed (Table 5-3): 0 where no frame has ended at the hit check. -/
def decisionLen (speed : Nat) : Nat := match speed with
  | 100 => 70 | 200 => 140 | 400 => 281 | 800 => 562 | _ => 0

/-- d: the data blocks of an SA's head (R128). With fewer than 8 frames it is taken from those there are, 0 from none (DESIGN CHOICE:
log entry 140). -/
def headBlocks (a : Sa) (speed : Nat) : Nat :=
  if a.integrityOnly then 0
  else if a.lens.any (·.isNone) then headLimit speed
  else Nat.min (headLimit speed) ((a.lens.map (·.getD 0)).foldl Nat.max 0)

/-- The head an SA wants for a PN: 1 + d blocks, at most 48 (R128). -/
def headTarget (a : Sa) (speed : Nat) : Nat := Nat.min 48 (1 + headBlocks a speed)

/-- The speed of an SA's port. -/
def saSpeed (s : State) (a : Sa) : Nat := ((scOf s a.sch).map (fun c => portRate s c.port)).getD 1

/-- A resident CURRENT SA that missed NOT_HOT is admitted to the lowest free entry, or to the first entry with activity
0 from the rotating pointer on (R127); the entry takes a slot reference (R168). -/
def hotAdmit (sah : Nat) (s : State) : State :=
  match saOf s sah, slotBy s sah with
  | some a, some k =>
    if a.st != .current || (slotOf s k).st != .resident || !s.profile.preroll || s.slices.entropyFail ||
      (hotIndex s sah).isSome then s
    else
      let put (i : Nat) (s : State) : State :=
        setSlot k (fun x => { x with ref := x.ref + 1 }) (setHot i (some ⟨sah, 0, .empty, .empty⟩)
          { s with slices := { s.slices with admitCnt := s.slices.admitCnt + 1 } })
      let free := tfree 0 s.slices.hot
      if free < 1024 then put free s
      else match ((List.range 1024).map (fun j => (s.slices.pointer + j) % 1024)).find? (fun i =>
          (hotOf s i).any (·.act == 0)) with
        | some i => put i { hotVacate i s with slices := { (hotVacate i s).slices with pointer := (i + 1) % 1024 } }
        | none => { s with slices := { s.slices with denyCnt := s.slices.denyCnt + 1 } }
  | _, _ => s

/-- At PN allocation the head of that PN is bound to the frame, and the entry's activity rises (R127, R137): the head
bound, none when the SA is not hot. -/
def hotTake (sah : Nat) (s : State) : Option Head × State :=
  match hotIndex s sah with
  | none => (none, s)
  | some i => match hotOf s i with
    | none => (none, s)
    | some h => (some h.h1, setHot i (some { h with act := Nat.min 7 (h.act + 1), h1 := h.h2, h2 := .empty }) s)

/-- What the hit check finds (R129). -/
inductive HitRes where
  /-- Pre-roll is OFF: nothing is counted. -/
  | off
  | hit
  | notHot
  | notReady
  | short
  deriving DecidableEq, Repr

/-- The hit check: whether the SA has a hot entry, the head bound to the frame, whether the frame has ended, and the data
blocks it needs (R129). A frame bound to a head passes for one of a hot SA (Table 5-7). -/
def hitTest (s : State) (a : Sa) (hot : Bool) (head : Option Head) (ended : Bool) (blocks : Nat) : HitRes :=
  let d := headBlocks a (saSpeed s a)
  if !s.profile.preroll then .off
  else match head with
  | none => if hot then .notReady else .notHot
  | some h =>
    if h.blocks.length < headTarget a (saSpeed s a) then .notReady
    else if a.integrityOnly || d == headLimit (saSpeed s a) || (ended && decide (blocks ≤ d)) then .hit
    else .short

/-- Data blocks of secure data of a length under an SA. -/
def dataBlocks (a : Sa) (secure : Nat) : Nat := if a.integrityOnly then 0 else (secure - a.offset + 15) / 16

/-- The secure-data length of a frame known to have ended at the hit check, none for one still arriving (R128):
transcrypted and injected frames are whole. -/
def endedLen (s : State) (f : Frame) : Option Nat :=
  match f.kind, f.ingress with
  | .xcEnc, _ => f.shared.map (fun d => d.a.length)
  | _, none => f.data.map (fun d => d.length - 12)
  | _, some p => match f.early with
    | some n => if n ≤ decisionLen (portRate s p) then some (n - 16) else none
    | none => none

/-- Count a miss under its cause, and discard the head that was bound (R129). -/
def hitMiss (r : HitRes) (f : Frame) (s : State) : State :=
  let c (x : Slices) : Slices := match r with
    | .notHot => { x with missNotHot := x.missNotHot + 1 }
    | .notReady => { x with missNotReady := x.missNotReady + 1 }
    | .short => { x with missShort := x.missShort + 1 }
    | _ => x
  headDiscard f { s with slices := c s.slices }

/-- The hit check of a frame that leaves the KENNEL stage for the encrypt distributor (R129). -/
def hitCheck (id : Nat) (s : State) : State :=
  match frameOf s id with
  | none => s
  | some f => match f.txSah with
    | none => s
    | some sah => match saOf s sah with
      | none => s
      | some a =>
        let n := endedLen s f
        let blocks := dataBlocks a (n.getD 0)
        let r := hitTest s a (hotIndex s sah).isSome f.head n.isSome blocks
        let s := setSa sah (fun x => { x with lens := (n.map (dataBlocks a) :: x.lens).take 8 }) s
        let s := setFrame id (some { f with hit := r == .hit, missed := r != .hit && r != .off,
                                             head := if r == .hit then f.head else none }) s
        match r with
        | .hit => s
        | .off => headDiscard f s
        | .notHot => hotAdmit sah (hitMiss r f s)
        | _ => hitMiss r f s

/-! ### The wait buffers -/

/-- A waiting frame's SAH on a side: TX on the host side, RX on the line side. -/
def kwbSah (side : Nat) (f : Frame) : Option Nat := if side == 0 then f.txSah else f.rxSah
/-- Its slot on that side. -/
def kwbSlot (side : Nat) (f : Frame) : Option (Nat × BitVec 8) := if side == 0 then f.txSlot else f.rxSlot
/-- The SC port of a frame on a side: its line port, 0 to 31 (R86). -/
def kwbPort (side : Nat) (f : Frame) : Nat := if side == 0 then f.egress % 32 else (f.ingress.getD f.egress) % 32
/-- The waiting frames of a side. -/
def kwbList (s : State) (side : Nat) : List Nat := s.flow.kwb.get side
/-- Cells in use among the waiting frames of a side that meet a test. -/
def kwbCellsOf (s : State) (side : Nat) (p : Frame → Bool) : Nat :=
  ((kwbList s side).map (fun id => match frameOf s id with
    | some f => if p f then f.kwbCells else 0
    | none => 0)).sum
/-- Cells in use on a side. -/
def kwbUse (s : State) (side : Nat) : Nat := kwbCellsOf s side (fun _ => true)

/-- KWB_LOW once a KWB has fallen to 2,048 cells after KWB_HIGH (R184). -/
def kwbLow (side : Nat) (s : State) : State :=
  if s.km.kwbHigh.get side && decide (kwbUse s side ≤ 2048) then
    evH 0x4005 (le 1 side) { s with km := { s.km with kwbHigh := s.km.kwbHigh.set side false } }
  else s

/-- Count a frame in KEY_UNAVAIL_DROP_CNT of its SC port on a side. -/
def cntUnavail (side port : Nat) (s : State) : State :=
  { s with km := { s.km with unavail := s.km.unavail.upd side (fun t => tmod 0 t port (· + 1)) } }

/-- Drop a frame whose key is not available (R163, R179, Table 7-5). -/
def dropUnavail (side id : Nat) (s : State) : State :=
  match frameOf s id with
  | none => s
  | some f =>
    let s := kwbLow side (discard id (cntUnavail side (kwbPort side f) s))
    match kwbSah side f with
    | some sah => saDrained sah s
    | none => s

/-- A frame leaves the wait buffer with its slot: the reference becomes its binding (R168, R174). -/
def kwbLeave (side id : Nat) (f : Frame) (s : State) : State :=
  let s := match kwbSlot side f with
    | some (i, _) => setSlot i (fun x => { x with use := true }) s
    | none => s
  let s := kwbRemove id (setFrame id (some { f with kwbCells := 0 }) s)
  distEnter id (if side == 0 then hitCheck id s else s)

/-- A frame must wait behind an earlier one: the same SA, or the same ingress port, where that kept PORT_STRICT order when
the frame was classified (R53, R120). -/
def kwbBehind (side : Nat) (held : List Frame) (f : Frame) : Bool :=
  held.any (fun h => kwbSah side h == kwbSah side f || (f.strict && f.ingress.isSome && h.ingress == f.ingress))

/-- Walk the waiting frames in arrival order and release those whose slot holds its key and that nothing holds back
(R174). -/
def kwbPass (side : Nat) : List Nat → List Frame → State → State
  | [], _, s => s
  | id :: t, held, s =>
    match frameOf s id with
    | none => kwbPass side t held s
    | some f =>
      let ready := match kwbSlot side f with
        | some (i, g) => (slotOf s i).gen == g && ((slotOf s i).st == .resident || (slotOf s i).st == .draining)
        | none => false
      if ready && !kwbBehind side held f then kwbPass side t held (kwbLeave side id f s)
      else kwbPass side t (held ++ [f]) s

/-- Release what can leave a side's wait buffer. -/
def kwbDrain (side : Nat) (s : State) : State := kwbLow side (kwbPass side (kwbList s side) [] s)

/-- A waiting frame has been discarded: what waited behind it alone leaves, KWB_LOW and the end of its SA's drain follow (R120,
R174, R184). -/
def kwbLost (f : Frame) (s : State) : State :=
  let side := kindGroup f.kind
  kwbDrain side (match kwbSah side f with
    | some sah => saDrained sah s
    | none => s)

end Sys2Proof.Machine
end

