-- ==== Sys2Proof/Machine/Muzzle.lean ====
section
/-! DEFINITION. MUZZLE (R136, R179) and the stop of the units on an entropy failure (R125): shared by the alarms, the
life-cycle transitions and the debug grants. DEDUCED: log entry 76. -/
namespace Sys2Proof.Machine

/-- Frames in flight that use key material: bound to a slot, at a distributor, in a slice or its hold buffer, or between the two
XOR stages, and not in a wait buffer (R136, Table 6-2). -/
def keyed (f : Frame) : Bool :=
  f.stage != .kwb && f.stage != .gone && (f.txSlot.isSome || f.rxSlot.isSome || f.unit.isSome || f.stage == .dist ||
    (f.kind == .xcDec && f.stage == .order))

/-- Each frame in flight under a key is ended, counted at the unit that holds it, else at its distributor. -/
def abortKeyed (s : State) : State := (framesWith s keyed).foldl (fun t id => abortMarked id t) s

/-- Every unit's shares and hold cells are cleared. -/
def unitsClear (s : State) : State := (List.range 24).foldl (fun t u => setUnit u unitClear t) s

/-- The commands that MUZZLE leaves with nothing to wait for: fetches, claims, votes. -/
def muzzleWakes (w : Wait) : Bool := match w with
  | .fetch _ | .entry _ _ | .claim _ _ _ | .vote _ | .deputy _ => true
  | _ => false

/-- MUZZLE is asserted (R136, R179; Tables 7-5, 11-3): every key is cleared, frames are ended or dropped, drains
complete, the member leaves its pack; the clearing is in progress until MUZZLE_DONE. -/
def muzzle (s : State) : State :=
  if s.km.muzzled then s
  else
    let s := unitsClear (abortKeyed (holdSettle s))
    let s := (kwbList s 0).foldl (fun t id => dropUnavail 0 id t) s
    let s := (kwbList s 1).foldl (fun t id => dropUnavail 1 id t) s
    let s := hotClear s
    let s := (tkeys (fun _ x => x.st != .free) s.km.slots).foldl (fun t i => slotFree i t) s
    let s := { s with
      km := { s.km with uds := none, fbk := none, mkRun := none, mkNext := none, muzzled := true, clearing := true,
                        kekCache := [], misses := ⟨[], []⟩, stg := .reset, asym := [], sym := [], ctxs := [] }
      boot := { s.boot with ids := [] } }
    let s := match s.pack.joinDeferred with
      | some d => deferEnd d stWrongState 0 s
      | none => s
    wake muzzleWakes (fun _ t => fail stWrongState t) (packGone s)

/-- A unit stops and remembers its state, RESET taken as IN_SERVICE (R125, Table 5-6). -/
def unitStop (x : SUnit) : SUnit :=
  if x.st == .stopped then x
  else { unitClear x with prior := if x.st == .reset then .inService else x.st, st := .stopped }

/-- The heads bound to frames that still wait for their hit check are discarded (R125). -/
def headsClear (s : State) : State :=
  (framesWith s (fun f => f.head.isSome)).foldl (fun t id => match frameOf t id with
    | some f => setFrame id (some { f with head := none }) (headDiscard f t)
    | none => t) s

/-- The actions of R125: every unit stops, frames in slices are ended, heads are zeroised, ports become BLOCKED. The frames that wait in
the distributors are counted as those that reach a stopped one (DESIGN CHOICE: log entry 141). -/
def entropyStop (s : State) : State :=
  if s.slices.entropyFail then s
  else
    let s := holdSettle s
    let s := (framesWith s inUnit).foldl (fun t id => abortMarked id t) s
    let s := (framesWith s (fun f => f.stage == .dist)).foldl (fun t id =>
      match frameOf t id with
      | some f => downDrop f.egress (discard id t)
      | none => t) s
    let s := headsClear (hotClear s)
    let s := (List.range 24).foldl (fun t u => setUnit u unitStop t) s
    evH 0x0204 [0xFF] (flushBlocked { s with slices := { s.slices with entropyFail := true } })

/-- The CP halts: HIF_FW_STATE.AGENT becomes HALTED, the datapath goes on; a mailbox whose watchdog expired while its
command was EXECUTING ends in TIMEOUT now (R290, R321, R354). -/
def cpHalt (s : State) : State :=
  let s := { s with boot := { s.boot with agent := 3 } }
  (List.range 8).foldl (fun t mb =>
    let m := getMb t mb
    if m.st == .executing && m.expired then
      mbTimeout mb 0xFFFFFFFF { t with hif := { t.hif with cmds := t.hif.cmds.filter (fun c => c.mb != mb || c.discard) } }
    else t) s

end Sys2Proof.Machine
end

