-- ==== Sys2Proof/Machine/Alarms.lean ====
section
/-! DEFINITION. The detection of an alarm and its response, and the evidence log (15_tamper.md, R353 to R367).
DEDUCED: log entry 90. -/
namespace Sys2Proof.Machine

/-- Bytes 0 to 23 of an evidence record (Table 15-6). -/
def evdHead (r : EvdRec) : Bytes :=
  le 4 r.seq ++ le64 r.time ++ le 2 r.code ++ le 1 r.cls ++ le 1 r.flags ++ le64 r.param

/-- The record's time: TOD, or the RTC on battery (Table 15-6). -/
def evdTime (s : State) : W64 := if s.tamper.onBattery then BitVec.ofNat 64 s.tamper.rtc else s.tsu.ns

/-- The RTC runs on with time: by how much between two readings is not the commands' to say, and rows between which no time passes read
the same (R361; log entries 57, 145). -/
def rtcRun (s : State) : State :=
  if !s.tamper.rtcDue then s
  else
    let r := drawFree 57 s
    { r.2 with tamper := { r.2.tamper with rtc := (r.2.tamper.rtc + r.1.toNat) % 2 ^ 48, rtcDue := false } }

/-- Write an evidence record. A full log drops it and counts it, with event 0x9046 once for the episode; after sequence
0xFFFFFFFF none is written (R366, R367). -/
def evdWrite (code cls : Nat) (param : W64) (s : State) : State :=
  let s := if s.tamper.onBattery then rtcRun s else s
  let e := s.tamper.evd
  let bat := s.tamper.onBattery
  if e.stopped then s
  else if 126 ≤ e.recs.length then
    let s1 := { s with tamper := { s.tamper with evd := { e with
      dropped := satInc32 e.dropped
      firstDrop := if e.dropped == 0 then some (evdTime s, bat) else e.firstDrop
      fullRaised := e.fullRaised || !bat } } }
    if e.fullRaised || bat then s1 else evH 0x9046 [] s1
  else
    let r : EvdRec :=
      { seq := e.next, time := evdTime s, code := code, cls := cls,
        flags := b2n bat + 2 * b2n (!s.tsu.timeSet), param := param, chain := [] }
    let chain := (sha384 (e.head ++ evdHead r)).take 8
    { s with tamper := { s.tamper with evd := { e with
        recs := e.recs ++ [{ r with chain := chain }]
        next := if e.next == 0xFFFFFFFF then e.next else e.next + 1
        stopped := e.next == 0xFFFFFFFF
        head := chain } } }

/-- The default level of a life-cycle state and the highest a grant can give (Table 13-6). -/
def levelDefault (lc : Nat) : Nat := match lc with
  | 0 => 2 | 1 => 1 | 4 => 2 | _ => 0
/-- The highest level by unlock. -/
def levelHighest (lc : Nat) : Nat := if lc == 1 then 1 else 2

/-- The level in force becomes another: event 0xB106 by its cause (0 unlock, 1 lower, 2 transition), an evidence record
for a grant that raises it (R325, R326, R366). A level held at its safe value stays NONE (R365). -/
def levelSet (new cause : Nat) (s : State) : State :=
  let old := s.prot.level
  if s.tamper.safe.any (fun x => x.1 == 4) || new == old then s
  else
    let ps := le 1 old ++ le 1 new ++ le 1 cause
    let s := { s with prot := { s.prot with
      level := new, highest := if cause == 0 then Nat.max s.prot.highest new else s.prot.highest } }
    let s := evH 0xB106 ps s
    if old < new && cause == 0 then evdWrite 0xB106 0 (BitVec.ofNat 64 (leNat (ps.take 2))) s else s

/-- The tamper lock is released by a transition (R363), unless it is held at its safe value (R365). -/
def lockRelease (s : State) : State :=
  if s.tamper.safe.any (fun x => x.1 == 2) then s else { s with tamper := { s.tamper with lock := false } }

/-- The BBRAM share is erased; the recorded values stay (R340, R360). -/
def eraseShare (s : State) : State := { s with boot := { s.boot with bbram := { s.boot.bbram with share := none } } }

/-- The retired fuse is blown by an alarm of class RETIRE: the share is erased, event 0x8001 and its evidence record,
a core reset 10 ms later; a transition that waits is given up (Tables 15-3 and 15-9). -/
def retireNow (s : State) : State :=
  let old := s.boot.lc
  let s := eraseShare s
  let s := { s with boot := { s.boot with
    lc := 4, transition := none, coreReset := some (s.tsu.ns + 10000000), bbram := { s.boot.bbram with counter := 0 } } }
  let ps : Bytes := [BitVec.ofNat 8 old, 4]
  let s := evdWrite 0x8001 0 (BitVec.ofNat 64 (leNat ps)) (evH 0x8001 ps s)
  let s := levelSet (levelDefault 4) 2 (lockRelease s)
  wake (fun w => match w with
    | .muzzle _ => true
    | _ => false) (fun _ t => fail stWrongState t) s

/-- The actions of an alarm's class while main power is present (Table 15-3, R359). -/
def alarmAct (a cls : Nat) (param : W64) (s : State) : State :=
  let n := (tget 0 s.tamper.cnt a).toNat
  let s := irq 10 (evH (0x9000 + a) (le 1 cls ++ le64 param ++ le 4 n) (evdWrite (0x9000 + a) cls param s))
  let retires := cls == 5 && (s.boot.lc == 2 || s.boot.lc == 3)
  let erase := (s.tamper.cfg.alarms.getD a (0, false)).2 || cls == 5
  let s := if 4 ≤ cls then muzzle s else s
  let s := if 4 ≤ cls && erase then eraseShare s else s
  if retires then retireNow s else s

/-- An alarm is detected (R358): it is latched and counted, SUM_SEVERITY rises, and its class acts. On battery only the
record, the latch, the count and the erasure of the share happen, and SUM_SEVERITY shows the class at the next power-up
(R360; the example of 15_tamper.md); in reset the record, the latch, the count and the erasure that the configuration
selects. LOCKSTEP halts the CP and ENTROPY_FAIL stops the units (R354). The frames that MUZZLE or the stop of the units ends are
ended before the BLOCKED ports discard theirs (Table 2-9). -/
def alarmDetect (a : Nat) (param : W64) (s : State) : State :=
  let cls := alarmClass s a
  let s := { s with tamper := { s.tamper with
    latched := s.tamper.latched ||| (1#32 <<< a)
    taken := tset 0 s.tamper.taken a (if s.tamper.latched.getLsbD a then Nat.max (tget 0 s.tamper.taken a) cls else cls)
    cnt := tmod 0 s.tamper.cnt a (fun c => if c == 0xFFFFFFFF then c else c + 1)
    severity := Nat.max s.tamper.severity cls } }
  if s.tamper.onBattery || !live s then
    let s := evdWrite (0x9000 + a) cls param s
    let selected := cls == 5 || (s.tamper.cfg.alarms.getD a (0, false)).2
    if 4 ≤ cls && (s.tamper.onBattery || selected) then eraseShare s else s
  else
    let s := alarmAct a cls param s
    let s := if a == 13 then entropyStop s else s
    let s := if 3 ≤ cls then flushBlocked s else s
    if a == 21 then cpHalt s else s

/-- An alarm's condition holds from now on, and it is detected (R353, R358). -/
def alarmRaise (a : Nat) (param : W64) (s : State) : State :=
  alarmDetect a param { s with tamper := { s.tamper with active := s.tamper.active ||| (1#32 <<< a) } }

/-- Record and event 0x9045 with the RTC count, at the firmware's first step since boot (R367). -/
def timeAnchor (s : State) : State :=
  if cpRuns s && !s.boot.recovery && !s.tamper.anchored then
    let s := rtcRun s
    evdWrite 0x9045 0 (BitVec.ofNat 64 s.tamper.rtc)
      (evF 0x9045 (le 8 s.tamper.rtc) { s with tamper := { s.tamper with anchored := true } })
  else s

end Sys2Proof.Machine
end

