-- ==== Sys2Proof/Machine/Fetch.lean ====
section
/-! DEFINITION. The KENNEL's own commands: fetches, drains, MUZZLE, staging registers, wraps (07_key_manager.md, R163
to R179). DEDUCED: log entries 78, 79. -/
namespace Sys2Proof.Machine

/-! ### Fetches -/

/-- The waiting frames of a SAH on a side take a slot as their reference (Table 7-4). -/
def assignSlot (side sah i : Nat) (s : State) : State :=
  (kwbList s side).foldl (fun t id =>
    match frameOf t id with
    | none => t
    | some f =>
      if kwbSah side f == some sah && (kwbSlot side f).isNone then
        let b := some (i, (slotOf t i).gen)
        setSlot i (fun x => { x with ref := x.ref + 1 })
          (setFrame id (some (if side == 0 then { f with txSlot := b } else { f with rxSlot := b })) t)
      else t) s

/-- Change a side's miss table. -/
def setMisses (side : Nat) (f : List Miss → List Miss) (s : State) : State :=
  { s with km := { s.km with misses := s.km.misses.upd side f } }

/-- Remove the miss-table entries that name a slot. -/
def missDone (i : Nat) (s : State) : State :=
  setMisses 0 (List.filter (fun m => m.slot != some i)) (setMisses 1 (List.filter (fun m => m.slot != some i)) s)

/-- The miss-table entries of a SAH end. -/
def missOver (sah : Nat) (s : State) : State :=
  setMisses 0 (List.filter (fun m => m.sah != sah)) (setMisses 1 (List.filter (fun m => m.sah != sah)) s)

/-- A slot that a command filled serves the frames that wait for its SAH's key: they take it as their reference, the SAH
has no miss any more, and what can leave the wait buffers leaves (R171, R174). -/
def slotServes (i sah : Nat) (s : State) : State :=
  kwbDrain 1 (kwbDrain 0 (missOver sah (assignSlot 1 sah i (assignSlot 0 sah i s))))

/-- Pin a RESIDENT slot for KEY_PIN_SET: at most 12,288 slots are pinned (R170). -/
def pinSlot (i : Nat) (s : State) : Res :=
  if (slotOf s i).st != .resident then fail stWrongState s
  else if (slotOf s i).pinned then ok s
  else if 12288 ≤ pinnedCount s then fail stNoRoom s
  else ok (setSlot i (fun x => { x with pinned := true }) s)

/-- No slot is eligible as a victim: event 0x400A, once per episode (R170). -/
def noVictim (side : Nat) (s : State) : State :=
  if s.km.noVictim then s else evH 0x400A (le 1 side) { s with km := { s.km with noVictim := true } }

/-- A command that waits in the miss table for a slot goes on: it pins the slot that holds its key, or waits for the
fetch (R170, R186). -/
def entryWake (side sah i : Nat) (s : State) : State :=
  wake (· == Wait.entry side sah)
    (fun _ t => if (slotOf t i).st == .loading then .wait (.fetch i) t else pinSlot i t) s

/-- FETCH_ISSUE: the oldest entry of a side's miss table without a fetch takes a fetch tag and a slot. A SAH with a
fetch on the other side joins it; without a slot the entry waits, with event 0x400A once per episode (R170, R171). -/
def fetchIssue (side : Nat) (s : State) : State :=
  let ms := s.km.misses.get side
  if !live s || s.km.muzzled || 1 < side || 64 ≤ (ms.filter (·.slot.isSome)).length then s
  else match ms.find? (·.slot.isNone) with
    | none => s
    | some m =>
      let put (i : Nat) (t : State) : State :=
        assignSlot side m.sah i
          (setMisses side (fun l => l.map (fun x => if x.sah == m.sah then { x with slot := some i } else x)) t)
      match slotBy s m.sah with
      | some i =>
        if (slotOf s i).st == .resident then entryWake side m.sah i (kwbDrain side (missDone i (put i s)))
        else entryWake side m.sah i (put i s)
      | none => match slotTake s with
        | (none, t) => noVictim side t
        | (some i, t) => entryWake side m.sah i
          (put i (slotLoad i m.sah (kwbWaits s m.sah) (cntKm side (fun c => { c with fetch := c.fetch + 1 }) t)))

/-- A generation-table line fails its tag: event 0x4002 and alarm MEM_INTEGRITY (R164). -/
def lineAlarm (sah : Nat) (s : State) : State :=
  let r := drawFree 25 (evH 0x4002 (le 2 (sah / 32)) s)
  alarmRaise 19 r.1 r.2

/-- A fetch made within a command: the blob and the line as memory holds them, checked and unwrapped (R115, R186); `ecc`
says that memory returns an uncorrectable error. The KEK cache takes the lineage's KEK; the counters of the side are
kept. While the key manager is MUZZLED the fetch goes on under the cleared keys (log entry 108). -/
def cmdFetch (side sah : Nat) (want : Option (Option Nat × Bool)) (ecc : Bool) (s : State) : Except Nat Mat × State :=
  let blob := blobAt s sah
  let s := cntKm side (fun c => { c with fetch := c.fetch + 1 }) s
  match blobCheck (kekOf s) sah want false ecc (lineAt s (sah / 32)) blob s with
  | .error n =>
    let s := if 7 ≤ n then kekTouch side (u32 blob 12 % 16777216) (u32 blob 12 / 16777216) s else s
    let s := cntFetch side n s
    (.error (checkStatus n), if n == 2 then lineAlarm sah s else s)
  | .ok m => (.ok m, kekTouch side m.lineage (u32 blob 12 / 16777216) s)

/-- What check 8 compares with: the SA's suite and direction, when the SA is not FREE (Table 7-7). -/
def fetchWant (s : State) (sah : Nat) : Option (Option Nat × Bool) :=
  match saOf s sah with
  | some a => if a.st == .free then none else some ((scOf s a.sch).map (·.suite), a.rx)
  | none => none

/-- A command that waits for a fetch pins the slot, or reports what became of it (R186). -/
def fetchWake (i : Nat) (res : Cmd → State → Res) (s : State) : State := wake (· == Wait.fetch i) res s

/-- The frames of a side that have a slot as their reference are dropped. -/
def dropWaiting (side i : Nat) (s : State) : State :=
  ((kwbList s side).filter (fun id => match frameOf s id with
    | some f => (kwbSlot side f).map (·.1) == some i
    | none => false)).foldl (fun t id => dropUnavail side id t) s

/-- A fetch fails at a check (R172, Table 7-5). -/
def fetchFail (side sah i check : Nat) (s : State) : State :=
  let st := checkStatus check
  let dp := (slotOf s i).datapath
  let s := cntFetch side check s
  let s := if dp then evH 0x4001 (le 4 sah ++ le 2 st) (setKey sah (fun k => { k with st := .blocked }) s) else s
  let s := slotFree i (missDone i (dropWaiting 1 i (dropWaiting 0 i s)))
  let s := kwbDrain 1 (kwbDrain 0 s)
  let s := fetchWake i (fun _ t => fail st t) s
  if check == 2 then lineAlarm sah s else s

/-- The fetch high-water mark: the times of Table 7-6 and what memory queueing adds, at most 1,344 CCLK (R171); how much
it adds is a free value (log entry 26). -/
def fetchMark (side : Nat) (kekMiss : Bool) (s : State) : State :=
  let r := drawFree 26 s
  let n := (if kekMiss then 576 else 416) + r.1.toNat % 1345
  { r.2 with km := { r.2.km with fetchHighWater := r.2.km.fetchHighWater.upd side (Nat.max n) } }

/-- The fetch of a command, which went from `s` to `t`, found the KEK not cached. -/
def kekMissed (side : Nat) (s t : State) : Bool := (s.km.cnt.get side).kekMiss != (t.km.cnt.get side).kekMiss

/-- FETCH_COMPLETE: the checks of Table 7-7 on what memory returned; the slot becomes RESIDENT and its waiting frames
leave, or the fetch fails (R169, R172, R174). -/
def fetchComplete (side sah : Nat) (mem : FetchMemory) (s : State) : State :=
  match (s.km.misses.get side).find? (fun m => m.sah == sah) with
  | none => s
  | some m => match m.slot with
    | none => s
    | some i =>
      if !live s || s.km.muzzled || 1 < side || (slotOf s i).st != .loading then s
      else
        let blob := pad 96 (mem.blob.getD (blobAt s sah))
        let line := pad 64 (mem.line.getD (lineAt s (sah / 32)))
        let lin := u32 blob 12 % 16777216
        let lgen := u32 blob 12 / 16777216
        let cached := (kekCached lin lgen s).isSome
        match blobCheck (kekOf s) sah (fetchWant s sah) false mem.ecc line blob s with
        | .error n => fetchFail side sah i n (if 7 ≤ n then kekTouch side lin lgen s else s)
        | .ok mat =>
          let s := fetchMark side (!cached) (slotFill i mat (kekTouch side lin lgen s))
          fetchWake i (fun _ t => pinSlot i t) (kwbDrain 1 (kwbDrain 0 (missDone i s)))

/-- SLOT_DRAINED: the reference count of a DRAINING slot has reached 0 (Table 7-5, R91, R92). -/
def slotDrained (i : Nat) (s : State) : State :=
  if live s && (slotOf s i).st == .draining && (slotOf s i).ref == 0 then slotFree i s else s

/-- DRAIN_TIMEOUT: 20 µs after its entry into DRAINING, what still references the slot is ended (Table 7-5). -/
def drainTimeout (i : Nat) (s : State) : State :=
  let x := slotOf s i
  if live s && x.st == .draining && x.ref != 0 && reached s.tsu.ns (x.drain + 20000) then
    let s := dropWaiting 1 i (dropWaiting 0 i s)
    let ids := framesWith s (fun f => f.txSlot == some (i, x.gen) || f.rxSlot == some (i, x.gen))
    let s := ids.foldl (fun t id => abortFrame id ((frameOf t id).bind (·.unit)) t) s
    kwbDrain 1 (kwbDrain 0
      (slotFree i (evH 0x4006 (le 2 i ++ le 4 x.sah) { s with km := { s.km with forcedCnt := s.km.forcedCnt + 1 } })))
  else s

/-! ### MUZZLE -/

/-- MUZZLE_DONE: the clearing is complete (R179). -/
def muzzleDone (s : State) : State :=
  if live s && s.km.clearing then evH 0x4007 [] { s with km := { s.km with clearing := false } } else s

/-! ### Staging registers and wraps (R175, R176) -/

/-- Change the staging registers. -/
def setStg (f : Staging → Staging) (s : State) : State := { s with km := { s.km with stg := f s.km.stg } }

/-- The key and salt registers are zeroised (R176). -/
def stgZero (g : Staging) : Staging := { g with key := [], salt := [], loaded := false, source := 0 }

/-- KM_STG_KEY_WRITE: a CP write of a key (0 to 7) or salt (8 to 10) register, accepted only in RAW and PROVISION
(R175, Table 7-9). -/
def stgKeyWrite (i : Nat) (v : W32) (s : State) : State :=
  if !cpRuns s || 10 < i then s
  else if 1 < s.boot.lc then setStg (fun g => { g with denied := true }) s
  else setStg (fun g =>
    { g with
      key := if i < 8 then tset 0 g.key i v else g.key, salt := if i < 8 then g.salt else tset 0 g.salt (i - 8) v,
      loaded := true, source := 1, written := s.tsu.ns }) s

/-- The status of a key source under R176, stOk for none that applies. -/
def wrapStatus (sah lineage : Nat) (replace : Bool) (s : State) : Nat :=
  let k := keyOf s sah
  let gone := match lineageOf s lineage with
    | some l => l.spent
    | none => true
  if s.km.muzzled || sourcesRefused s || saSt s sah != .free then stWrongState
  else if gone then stNotFound
  else if k.st != .absent && !replace then stExists
  else if k.gen == 0xFFFF || (k.st != .absent && k.gen == 0xFFFE) then stNoRoom
  else stOk

/-- A WRAP: the blob at the SAH's current generation, advanced by 1 when REPLACE finds one, under the lineage's current
generation; the SAH becomes PRESENT (R163, R175, R176). -/
def wrapBlob (sah : Nat) (m : Mat) (s : State) : State :=
  let lgen := match lineageOf s m.lineage with
    | some l => l.gen.toNat
    | none => 0
  let k := keyOf s sah
  let gen := if k.st == .absent then k.gen else k.gen + 1
  let blob := blobMake (kekOf s) sah gen.toNat lgen false m
  putGen sah (putBlob sah blob (setKey sah (fun _ => { st := .present, gen := gen }) (kekUse m.lineage lgen s)))

/-- A byte string as little-endian register words, `n` of them. -/
def stgWords (n : Nat) (b : Bytes) : Tab W32 :=
  (List.range n).foldl (fun t i => tset 0 t i (BitVec.ofNat 32 (u32 b (4 * i)))) []

/-- Material enters the key and salt registers from a source of Table 7-9. -/
def stgLoad (source : Nat) (key salt : Bytes) (s : State) : State :=
  setStg (fun g => { g with key := stgWords 8 key, salt := stgWords 3 salt, source := source, loaded := true,
                            written := s.tsu.ns }) s

/-- What the key manager itself loads before a WRAP: a SAK that MKA distributes under a CAK of the store, or the result of
an agreement (R175; log entry 119). Firmware never sees either. A SAK
that does not unwrap and a slot with no key of the purpose load nothing (DESIGN CHOICE: log entry 143). -/
def stgSource (src : StgSource) (s : State) : State := match src with
  | .staged => s
  | .mka slot wrapped =>
    match (tget none s.km.sym slot).bind (fun k =>
        if k.purpose == 1 then Sys2Proof.Config.mkaUnwrap k.key wrapped else none) with
    | some m => stgLoad 4 (pad 32 m.1) (pad 12 m.2) s
    | none => s
  | .pke slot =>
    match tget none s.km.sym slot with
    | some k => stgLoad 5 (pad 32 k.key) [] s
    | none => s

/-- KM_WRAP: a wrap begins (Table 7-9), on what a source of the key manager's own loads first; on what is staged already where
that source loads nothing (DESIGN CHOICE: log entry 143). -/
def kmWrap (replace : Bool) (src : StgSource) (s : State) : State :=
  if cpRuns s && !s.km.stg.busy then
    setStg (fun g => { g with busy := true, replace := replace }) (stgSource src s)
  else s

/-- The code of KM_STG_STATUS.CODE for a status (Table 7-9). -/
def wrapCode (st : Nat) : Nat :=
  if st == stOk then 0 else if st == stExists then 1 else if st == stWrongState then 2
  else if st == stNotFound then 3 else 4

/-- The words of a staged key or salt as bytes. -/
def stgBytes (t : Tab W32) (n : Nat) : Bytes := (List.range n).flatMap (fun i => le 4 (tget 0 t i).toNat)

/-- The origin a source gives a blob (Tables 7-3 and 7-9). -/
def wrapOrigin (source : Nat) : Nat := match source with
  | 2 => 1 | 3 => 2 | 4 => 3 | 5 => 4 | _ => 0

/-- The material the staging registers hold, whatever their SOURCE, SUITE, USAGE and SALT_VALID say: no code of R176 refuses it
(DESIGN CHOICE: log entry 142). -/
def stgMat (g : Staging) : Mat :=
  { suite := g.suite.toNat, key := (stgBytes g.key 8).take (suiteKey g.suite.toNat),
    salt := if isXpn g.suite.toNat then stgBytes g.salt 3 else [], usage := g.usage.toNat,
    origin := wrapOrigin g.source, lineage := g.lineage.toNat }

/-- WRAP_COMPLETED: the blob is written, or the code says why not; the key and salt registers are zeroised (R176). -/
def wrapCompleted (s : State) : State :=
  let g := s.km.stg
  if !live s || !g.busy then s
  else
    let sah := g.target.toNat
    let st := wrapStatus sah g.lineage.toNat g.replace s
    let s := if st == stOk then wrapBlob sah (stgMat g) s else s
    setStg (fun g => { stgZero g with
      busy := false, doneBit := true, code := wrapCode st,
      gen := if st == stOk then (keyOf s sah).gen else g.gen }) s

/-- KM_CLEAR: the staging registers are zeroised; the status bits stay (Table 7-9). -/
def kmClear (s : State) : State :=
  if cpRuns s then
    setStg (fun g => { stgZero g with suite := 0, saltValid := false, usage := 0, target := 0, lineage := 0 }) s
  else s

/-- STAGING_TIMEOUT: 1 ms after the last write of material with no WRAP after it (R176). -/
def stagingTimeout (s : State) : State :=
  if live s && s.km.stg.loaded && !s.km.stg.busy && reached s.tsu.ns (s.km.stg.written + 1000000) then
    setStg stgZero s
  else s

/-! ### The meanings -/

def execFetchIssue (side : Nat) (s : State) : Host.Outcome State Fault Refusal := .next (fetchIssue side s)
def execFetchComplete (side sah : Nat) (mem : FetchMemory) (s : State) : Host.Outcome State Fault Refusal :=
  .next (fetchComplete side sah mem s)
def execSlotDrained (slot : Nat) (s : State) : Host.Outcome State Fault Refusal := .next (slotDrained slot s)
def execDrainTimeout (slot : Nat) (s : State) : Host.Outcome State Fault Refusal := .next (drainTimeout slot s)
def execMuzzle (s : State) : Host.Outcome State Fault Refusal := .next (if live s then muzzle s else s)
def execMuzzleDone (s : State) : Host.Outcome State Fault Refusal := .next (muzzleDone s)
def execKmStgKeyWrite (index : Nat) (value : W32) (s : State) : Host.Outcome State Fault Refusal :=
  .next (stgKeyWrite index value s)
def execKmWrap (replace : Bool) (source : StgSource) (s : State) : Host.Outcome State Fault Refusal := .next (kmWrap replace source s)
def execWrapCompleted (s : State) : Host.Outcome State Fault Refusal := .next (wrapCompleted s)
def execKmClear (s : State) : Host.Outcome State Fault Refusal := .next (kmClear s)
def execStagingTimeout (s : State) : Host.Outcome State Fault Refusal := .next (stagingTimeout s)

end Sys2Proof.Machine
end

