-- ==== Sys2Proof/Machine/ChanOps.lean ====
section
/-! DEFINITION. Operations over channels and associations (04_channels_rekey.md): lookups, switches, PN allocation, the
replay check, statistics, retirement. DEDUCED: log entries 75, 76. -/
namespace Sys2Proof.Machine

/-! ### Lookups -/

/-- The first SA meeting a test, with its SAH. -/
def saFind (s : State) (p : Sa → Bool) : Option (Nat × Sa) :=
  s.chan.sas.findSome? (fun e => match e.2 with
    | some a => if p a then some (e.1, a) else none
    | none => none)

/-- The SA of a channel on an AN, not FREE (R85). -/
def saAt (s : State) (sch an : Nat) : Option (Nat × Sa) := saFind s (fun a => a.sch == sch && a.an == an && a.st != .free)
/-- A TX channel's CURRENT or EXHAUSTED SA. -/
def saCur (s : State) (sch : Nat) : Option (Nat × Sa) :=
  saFind s (fun a => a.sch == sch && !a.rx && (a.st == .current || a.st == .exhausted))
/-- A TX channel's ARMED SA. -/
def saArmed (s : State) (sch : Nat) : Option (Nat × Sa) := saFind s (fun a => a.sch == sch && !a.rx && a.st == .armed)

/-- Enter an SA state; the TOD is kept (Table 4-3). -/
def saSet (sah : Nat) (st : SaSt) (s : State) : State := setSa sah (fun a => { a with st := st, change := s.tsu.ns }) s

/-- The default PN threshold of a suite (R102). -/
def defaultThr (suite : Nat) : Nat := if isXpn suite then 0xC000000000000000 else 0xC0000000

/-- The lowest acceptable PN (R97). -/
def lowestPn (floor next window : Nat) : Nat := Nat.max (Nat.max floor (next - window)) 1

/-! ### Statistics (R111, R112) -/

/-- The statistics line of a SAH: the region's base + SAH × 64. -/
def statAddr (sah : Nat) : Nat := 0x1000000000 + Sys2Proof.Config.statRegion + 64 * sah

/-- The total of counter `i` of a SAH, as memory holds it. -/
def cntTotal (s : State) (sah i : Nat) : W64 := BitVec.ofNat 64 (u64 (bufRead s.prot.mem (statAddr sah + 8 * i) 8) 0)

/-- Write a total. -/
def putTotal (sah i : Nat) (v : W64) (s : State) : State :=
  { s with prot := { s.prot with mem := bufWrite s.prot.mem (statAddr sah + 8 * i) (le64 v) } }

/-- The partial of counter `i`. -/
def cntPart (a : Sa) : Nat → Nat
  | 0 => a.c0
  | 1 => a.c1
  | 2 => a.c2
  | _ => a.c3

/-- The record with the partial of counter `i` changed. -/
def partPut (i n : Nat) (a : Sa) : Sa := match i with
  | 0 => { a with c0 := n }
  | 1 => { a with c1 := n }
  | 2 => { a with c2 := n }
  | _ => { a with c3 := n }

/-- The value a read returns: total and partial. -/
def cntVal (s : State) (sah : Nat) (a : Sa) (i : Nat) : W64 := cntTotal s sah i + BitVec.ofNat 64 (cntPart a i)

/-- The spill engine adds a partial to its total and clears the partial, in one operation. -/
def cntSpill (sah i : Nat) (s : State) : State :=
  match saOf s sah with
  | none => s
  | some a => if cntPart a i == 0 then s else setSa sah (partPut i 0) (putTotal sah i (cntVal s sah a i) s)

/-- Every partial of a SAH is spilled. -/
def saSpill (sah : Nat) (s : State) : State := [0, 1, 2, 3].foldl (fun t i => cntSpill sah i t) s

/-- Counters that start again at 0 (R111). -/
def totalsClear (sah : Nat) (s : State) : State := [0, 1, 2, 3].foldl (fun t i => putTotal sah i 0 t) s

/-- A partial that has reached 2^31 is spilled, unless the spill path is stalled, which is not the commands' to say (free value: log
entry 137). -/
def cntTry (sah i : Nat) (s : State) : State :=
  match saOf s sah with
  | none => s
  | some a =>
    if cntPart a i < 2 ^ 31 then s
    else
      let d := drawFree 137 s
      if d.1.getLsbD 0 then d.2 else cntSpill sah i d.2

/-- Add `n` to counter `i` (0 to 3) of an SA: the partial stops at 2^32 - 1, which flags the SA, with event 0x3006 (R112). -/
def cntSa (sah i n : Nat) (s : State) : State :=
  match saOf s sah with
  | none => s
  | some a =>
    let v := cntPart a i + n
    let full := decide (0xFFFFFFFF ≤ v)
    let t := setSa sah (fun a => { partPut i (Nat.min v 0xFFFFFFFF) a with saturated := a.saturated || full }) s
    cntTry sah i (if full && !a.saturated then evH 0x3006 (le 4 sah) t else t)

/-- Count in a channel's TX_NOSA_DROP_CNT or RX_NOSA_DROP_CNT. -/
def cntNosa (sch : Nat) (s : State) : State :=
  putSc sch ((scOf s sch).map (fun c => { c with nosa := c.nosa + 1 })) s

/-! ### Switches and PN allocation (R93, R102 to R104) -/

/-- The last PN an SA allocated, 0 for none. -/
def lastOf (a : Sa) : Nat := if a.low != 0 && a.low < a.next then a.next - 1 else 0

/-- A TX SA becomes CURRENT by a switch: the previous one is SUPERSEDED, events 0x3002 and, when forced by exhaustion,
0x3004 (Table 4-4). -/
def saSwitchTo (sah : Nat) (forced : Bool) (s : State) : State :=
  match saOf s sah with
  | none => s
  | some a =>
    let old := saCur s a.sch
    let s := match old with
      | some (o, _) => hotLeave o (saSet o .superseded s)
      | none => s
    let s := setSa sah (fun x => { x with st := .current, low := x.next, change := s.tsu.ns }) s
    let s := putSc a.sch ((scOf s a.sch).map (fun c => { c with switches := c.switches + 1 })) s
    let (o, l) := match old with
      | some (o, b) => (o, lastOf b)
      | none => (0xFFFFFFFF, 0)
    let s := evH 0x3002 (le 2 a.sch ++ le 4 o ++ le 4 sah ++ le 8 l ++ le 8 a.next) s
    if forced then evH 0x3004 (le 2 a.sch ++ le 4 sah) s else s

/-- A TX SA becomes EXHAUSTED (R104). -/
def saExhaust (sah : Nat) (s : State) : State :=
  match saOf s sah with
  | none => s
  | some a => evH 0x3003 (le 2 a.sch ++ le 4 sah) (hotLeave sah (saSet sah .exhausted s))

/-- Which SA the next frame of a TX channel takes: the SA, whether it is a switch, whether exhaustion forces it
(R103, R104, Table 4-7). -/
def saDue (s : State) (sch : Nat) : Option (Nat × Bool × Bool) :=
  let suite := ((scOf s sch).map (·.suite)).getD 1
  match saCur s sch, saArmed s sch with
  | none, none => none
  | some (c, _), none => some (c, false, false)
  | none, some (n, a) => if a.mode == 2 && reached s.tsu.ns a.tod then some (n, true, false) else none
  | some (c, x), some (n, a) =>
    if x.st == .exhausted || lastPn suite < x.next then some (n, true, true)
    else if (a.mode == 1 && x.reachedThr) || (a.mode == 2 && reached s.tsu.ns a.tod) then some (n, true, false)
    else some (c, false, false)

/-- What the PN allocator does with a frame (Table 6-1, R93, R104). -/
inductive PnRes where
  /-- No SA: TX_NOSA_DROP_CNT. -/
  | nosa
  /-- The SA would expose more (R145). -/
  | expose
  /-- The SA is EXHAUSTED: TX_PN_EXHAUSTED_CNT. -/
  | exhausted
  /-- The SAH and the PN allocated. -/
  | pn (sah pn : Nat)
  deriving DecidableEq, Repr

/-- An SA sends no more of a transcrypted frame's secure data in clear than the SA that verified it; `x` is what that one sent in
clear, and the length of the secure data (R145). -/
def clearFits (a : Sa) (x : Nat × Nat) : Bool := decide (clearPart a x.2 ≤ x.1)

/-- Allocate the next PN of an SA: the threshold, an ON_THRESHOLD switch behind it, the last PN (R93, R102 to R104). -/
def pnTake (sch sah : Nat) (s : State) : PnRes × State :=
  match saOf s sah with
  | none => (.nosa, s)
  | some a =>
    let last := lastPn (((scOf s sch).map (·.suite)).getD 1)
    let s := if last < a.next && a.st == .current then saExhaust sah s else s
    if last < a.next || a.st == .exhausted then (.exhausted, cntSa sah 3 1 s)
    else
      let hit := decide (a.thr ≤ a.next)
      let s := setSa sah (fun x =>
        { x with next := x.next + 1, thrRaised := x.thrRaised || hit, reachedThr := x.reachedThr || hit }) s
      let s := if hit && !a.thrRaised then evH 0x3001 (le 4 sah ++ le 8 a.next) s else s
      let s := match saArmed s sch with
        | some (n, b) => if b.mode == 1 && (a.reachedThr || hit) then saSwitchTo n false s else s
        | none => if a.next == last then saExhaust sah s else s
      (.pn sah a.next, occur 4 1 0 1 s)

/-- The PN allocator on a frame of a TX channel; `limit` is what the RX SA sent in clear of a transcrypted frame, and the length of its
secure data. A switch that is due takes place first. A frame dropped here consumes no PN (R94, R144). -/
def pnAlloc (sch : Nat) (limit : Option (Nat × Nat)) (s : State) : PnRes × State :=
  match saDue s sch with
  | none => (.nosa, cntNosa sch s)
  | some (sah, sw, forced) =>
    let fits := match limit, saOf s sah with
      | some l, some a => clearFits a l
      | _, _ => true
    if !fits then (.expose, s) else pnTake sch sah (if sw then saSwitchTo sah forced s else s)

/-! ### The replay check (R97 to R101) -/

/-- The PN of a received frame: recovered for an XPN suite, its upper half taken modulo 2^32 (R98; log entry 117). -/
def recoverPn (suite low pn32 : Nat) : Nat :=
  if isXpn suite then
    let hi := low / 4294967296
    (if pn32 < low % 4294967296 then (hi + 1) % 4294967296 else hi) * 4294967296 + pn32
  else pn32

/-- The replay check: the SAH and PN of a frame that passes, none for one dropped and counted (R99, R101). -/
def replayCheck (sch an pn32 : Nat) (s : State) : Option (Nat × Nat) × State :=
  match scOf s sch, saAt s sch an with
  | some c, some (sah, a) =>
    if !a.rx || !(a.st == .active || a.st == .retiring) then (none, cntNosa sch s)
    else
      let pn := recoverPn c.suite a.low pn32
      if pn == 0 || (c.replay && decide (pn < a.low)) then (none, cntSa sah 3 1 s) else (some (sah, pn), s)
  | _, _ => (none, cntNosa sch s)

/-- Verification: in HEEL the check is repeated; then the next PN and the lowest acceptable PN advance, and the first
frame of the SA raises event 0x3007 (R100, R113). False: the frame fails the repeated check. -/
def replayVerified (sah pn : Nat) (heel : Bool) (s : State) : Bool × State :=
  match saOf s sah with
  | none => (true, s)
  | some a =>
    let c := scOf s a.sch
    if heel && (c.any (·.replay)) && decide (pn < a.low) then (false, cntSa sah 3 1 s)
    else
      let next := Nat.min (Nat.max a.next (pn + 1)) (2 ^ 64 - 1)
      let t := setSa sah (fun x =>
        { x with next := next, low := lowestPn x.thr next ((c.map (·.window)).getD 0), used := true }) s
      (true, if a.used then t else evH 0x3007 (le 2 a.sch ++ le 4 sah ++ le 8 pn) t)

/-- The release mode in force: HEEL for STRICT, for HEEL, and for transcryption; else the SA's or the default (R21). -/
def heelMode (s : State) (a : Sa) (transcrypt : Bool) : Bool :=
  transcrypt || a.strict || a.mode == 1 || (a.mode == 0 && !s.profile.lurcher)

/-! ### Retirement (R108, R109) -/

/-- An SA stops: its slots stop, and it is FREE at once or DRAINING while a slot of it is referenced. `timed` says that
the retirement raises event 0x3005 even without a drain. -/
def saStop (sah : Nat) (timed : Bool) (s : State) : State :=
  let s := hotLeave sah s
  let held := slotHeld s sah
  let s := if held then saSet sah .draining s else saFree sah timed s
  (slotsOf s sah).foldl (fun t i => slotStop i t) s

/-- The SA is enlisted in an epoch this member is READY for (R273). -/
def enlisted (s : State) (sah : Nat) : Bool :=
  s.pack.epochs.any (fun e => e.st == 1 && e.entries.any (fun x => x.1 == sah))

/-- A timed retirement of an RX SA is set (R108, R109). -/
def saRetireAt (sah : Nat) (nb : W64) (tag : Nat) (s : State) : State :=
  setSa sah (fun a => { a with st := .retiring, tod := nb, tag := tag,
                               change := if a.st == .retiring then a.change else s.tsu.ns }) s

/-- RX_SA_RETIRE_TIME: TOD reaches a RETIRING RX SA's not-before (R108, Table 4-4). -/
def rxSaRetireTime (sah : Nat) (s : State) : State :=
  match saOf s sah with
  | none => s
  | some a => if live s && a.st == .retiring && reached s.tsu.ns a.tod then saStop sah true s else s

/-- SPILL_SWEEP: every partial is added to its total every 100 ms of TOD (R112). -/
def spillSweep (s : State) : State :=
  if live s && reached s.tsu.ns (s.chan.spillTod + 100000000) then
    (s.chan.sas.map (·.1)).foldl (fun t sah => saSpill sah t) { s with chan := { s.chan with spillTod := s.tsu.ns } }
  else s

/-! ### Pairings (R143) -/

/-- The TX channel an RX channel is effectively paired with. -/
def pairedTx (s : State) (rx : Nat) : Option Nat :=
  match tget none s.chan.pairs rx, scOf s rx with
  | some p, some r =>
    match scOf s p.tx with
    | some t =>
      if r.rx && !t.rx && (port s r.port).cfg.role == 3 && pairOf s r.port == some t.port then some p.tx else none
    | none => none
  | _, _ => none

/-- Change a line port's transcryption counters. -/
def cntXc (p : Nat) (f : XcCnt → XcCnt) (s : State) : State :=
  { s with chan := { s.chan with xc := tmod .reset s.chan.xc (p % 32) f } }

end Sys2Proof.Machine
end

