-- ==== Sys2Proof/Machine/Operands.lean ====
section
/-! DEFINITION. Operand forms shared by the commands: reads by DMA, batches (R83, Table 3-10), the DMA descriptor
(R299, Table 12-8). DEDUCED: log entry 66. DESIGN CHOICE: log entry 68. -/
namespace Sys2Proof.Machine

/-- The bytes a DMA read of `n` bytes returned, or the status its failure gives (R300). -/
def dmaBytes (n : Nat) : DmaRead → Except Nat Bytes
  | .data bs => .ok (pad n bs)
  | .aborted => .error stInvalid
  | .poisoned => .error stIntegrity
  | .timeout => .error stTimeout
  | .via _ _ rest | .out _ _ rest => dmaBytes n rest

/-- Commands that accept flag DMA: EPOCH_ENLIST, and those with the prefix of Table 3-10 (R299). -/
def dmaFlagOk (op : Nat) : Bool :=
  [0x0201, 0x0202, 0x0203, 0x0204, 0x0304, 0x0308, 0x030A, 0x0404, 0x0502, 0x0504, 0x0507, 0x0510, 0x0512, 0x0520,
   0x0711, 0x0A00, 0x0A02, 0x0B02].contains op
/-- Commands whose own layout holds a host address: flag DMA is ignored on them (R299). -/
def dmaOwn (op : Nat) : Bool :=
  [0x0402, 0x0403, 0x040B, 0x040C, 0x040D, 0x040E, 0x0521, 0x0706, 0x0801, 0x0810, 0x0811, 0x0812, 0x0820, 0x0911].contains op

/-- A host range is 8-byte aligned, at most 16 MiB long, and does not pass 2^64 - 1 (R299). -/
def dmaRange (addr n : Nat) : Bool := addr % 8 == 0 && decide (n ≤ 16777216) && decide (addr + n ≤ 2 ^ 64)

/-- A request's entries: inline, or read by DMA with the address for the results. -/
structure Entries where
  list : List Bytes
  /-- Flag DMA was set: the address the results go to, 0 for none. -/
  result : Option Nat
  deriving DecidableEq, Repr

/-- Parse the prefix of Table 3-10 and the entries of `esz` bytes, at most `max` of them; `rsz` is the bytes each
result takes. A result address of 0 is allowed only where the results are a status array (`statusArray`). -/
def parseEntries (esz max rsz : Nat) (statusArray : Bool) (c : Cmd) (d : DmaRead) : Except Nat Entries :=
  let p := c.payload
  let n := u16 p 0
  if p.length < 8 || u16 p 2 != 0 || !zeros p 4 4 || n == 0 || max < n then .error stInvalid
  else if nbit c.flags 3 then
    let ra := u64 p 16
    if p.length != 32 || !zeros p 28 4 || u32 p 24 != n * esz || !dmaRange (u64 p 8) (n * esz) || !dmaRange ra (n * rsz)
      || (ra == 0 && !statusArray) then .error stInvalid
    else match dmaBytes (n * esz) d with
      | .error e => .error e
      | .ok bs => .ok { list := pieces esz n bs, result := some ra }
  else if p.length != 8 + n * esz then .error stInvalid
  else .ok { list := pieces esz n (p.drop 8), result := none }

/-- Whether an entry's status is a failure (R83). -/
def failed (st : Nat) : Bool := st != stOk && st != stDeferred

/-- Entries taken one at a time, in request order: their statuses, and the state after them. -/
def runEach (f : Bytes → State → Nat × State) : List Bytes → State → List Nat × State
  | [], s => ([], s)
  | e :: es, s =>
    let r := f e s
    let rest := runEach f es r.2
    (r.1 :: rest.1, rest.2)

/-- Entries taken until the first failure: the statuses, and the state. -/
def runUntil (f : Bytes → State → Nat × State) : List Bytes → State → List Nat × State
  | [], s => ([], s)
  | e :: es, s =>
    let r := f e s
    if failed r.1 then ([r.1], r.2)
    else
      let rest := runUntil f es r.2
      (r.1 :: rest.1, rest.2)

/-- The 8-byte prefix of a batch response (Table 3-10). -/
def batchPrefix (count bad : Nat) : Bytes := le 2 count ++ le 2 bad ++ zb 4

/-- The answer of a batch that ran: the overall status and the status array, inline or by DMA (R83, R299). -/
def batchReply (result : Option Nat) (sts : List Nat) (s : State) : Res :=
  let bad := (sts.filter failed).length
  let st := if bad != 0 then stPartial else if sts.any (· == stDeferred) then stDeferred else stOk
  let arr := sts.flatMap (le 2)
  match result with
  | none => .done ⟨st, bad, batchPrefix sts.length bad ++ arr⟩ s
  | some a => .done ⟨st, bad, batchPrefix sts.length bad⟩ (if a == 0 then s else dmaPut a arr s)

/-- A batch command (R83). With ATOMIC at most 256 entries, and the first failure leaves nothing changed. -/
def batch (esz max : Nat) (f : Bytes → State → Nat × State) (c : Cmd) (d : DmaRead) (s : State) : Res :=
  match parseEntries esz max 2 true c d with
  | .error e => fail e s
  | .ok es =>
    if nbit c.flags 0 then
      if 256 < es.list.length then fail stInvalid s
      else
        let r := runUntil f es.list s
        if r.1.any failed then
          .done ⟨r.1.getLastD 0, r.1.length - 1, batchPrefix r.1.length 1⟩ s
        else batchReply es.result r.1 r.2
    else
      let r := runEach f es.list s
      batchReply es.result r.1 r.2

/-- A batch whose entries can leave deferred work: its number is handed to the entries (R83, R293). -/
def batchDefer (esz max : Nat) (f : Nat → Bytes → State → Nat × State) (c : Cmd) (d : DmaRead) (s : State) : Res :=
  match batch esz max (f s.hif.nextDeferred) c d (deferHold s.hif.nextDeferred (deferOpen c s)) with
  | .done r t => .done r (deferClose s.hif.nextDeferred t)
  | .wait w t => .wait w t

/-- The results of a statistics command: 16 bytes of prefix, then the blocks, inline or by DMA (R299). -/
def statsReply (result : Option Nat) (pre blocks : Bytes) (s : State) : Res :=
  match result with
  | none => okWith (pre ++ blocks) s
  | some a => okWith pre (dmaPut a blocks s)

/-- A statistics command: the prefix of Table 3-10, then entries of `esz` bytes; its answer is 16 bytes (count, 6
reserved, sweep start TOD) and one block of `rsz` bytes an entry, at most `inl` of them inline. Any entry that names no
object gives INVALID_ARG. -/
def statsCmd (esz max rsz inl : Nat) (valid : Bytes → State → Bool) (block : Bytes → State → Bytes)
    (c : Cmd) (d : DmaRead) (s : State) : Res :=
  match parseEntries esz max rsz false c d with
  | .error e => fail e s
  | .ok es =>
    if (es.result.isNone && decide (inl < es.list.length)) || !es.list.all (fun e => valid e s) then fail stInvalid s
    else statsReply es.result (le 2 es.list.length ++ zb 6 ++ le64 s.tsu.ns) (es.list.flatMap (fun e => block e s)) s

end Sys2Proof.Machine
end

