-- ==== Sys2Proof/Machine/Fwl.lean ====
section
/-! DEFINITION. The interconnect firewall: the CP address map, the deciding region of a byte, the causes of a denial and
what a denial does (13_protection.md, R311 to R317, R327). DEDUCED: log entry 95. -/
namespace Sys2Proof.Machine

/-- The masters of Table 13-1. -/
abbrev mCp : Nat := 0
abbrev mDma : Nat := 1
abbrev mHif : Nat := 2
abbrev mDap : Nat := 3

/-- Change the protection units. -/
def setProt (f : Prot → Prot) (s : State) : State := { s with prot := f s.prot }

/-- The base of peripheral block `k` (Table 13-2). -/
def blockBase (k : Nat) : Nat := 0x40000000 + 0x10000 * k
/-- A byte lies in a range. -/
def spans (a lo n : Nat) : Bool := decide (lo ≤ a) && decide (a < lo + n)

/-- A byte of the MPU registers, private to the CP (R311, Table 13-2). -/
def inMpuPage (a : Nat) : Bool := spans a 0xE0000000 0x1000
/-- A byte of the boot ROM. -/
def inRom (a : Nat) : Bool := spans a 0 0x80000
/-- A byte of the CP SRAM. -/
def inSram (a : Nat) : Bool := spans a 0x10000000 0x200000
/-- A byte of the flash window. -/
def inFlash (a : Nat) : Bool := spans a 0x100000000 0x10000000
/-- A byte of the LPDDR5X installed. -/
def inDram (a : Nat) : Bool := spans a 0x1000000000 0x400000000 && decide (a < 0x1000000000 + Config.lpddrSize)
/-- A byte of a peripheral block. -/
def inBlocks (a : Nat) : Bool := spans a 0x40000000 (0x10000 * 19)
/-- A byte that the map of the firewall's masters lists (R312). -/
def mapped (a : Nat) : Bool := inRom a || inSram a || inBlocks a || inFlash a || inDram a

/-- The fixed regions of Table 13-3, coded 32 to 35: F0, F1, and the two pages of F2. -/
def fixedOf (a : Nat) : Option Nat :=
  if inRom a then some 32
  else if spans a (blockBase 0) 0x10000 then some 33
  else if spans a (blockBase 6) 0x1000 then some 34
  else if spans a (blockBase 12 + 0x8000) 0x1000 then some 35
  else none

/-- A register set of a programmable region. -/
def fwlRegion (s : State) (i : Nat) : FwlRegion := tget .reset s.prot.regions i
/-- SIZE_LOG2 in force: values outside 12 to 40 act as 12 (Table 13-4). -/
def fwlLog (r : FwlRegion) : Nat := if 12 ≤ r.size.toNat ∧ r.size.toNat ≤ 40 then r.size.toNat else 12
/-- A byte lies in an enabled region; the base bits below the size are not used (R313). -/
def fwlHas (r : FwlRegion) (a : Nat) : Bool := r.enable && a / 2 ^ fwlLog r == r.base / 2 ^ fwlLog r

/-- The deciding region of a byte: a fixed region, else the lowest enabled region that holds it, else the background,
coded 36 (R313). -/
def deciding (s : State) (a : Nat) : Nat :=
  match fixedOf a with
  | some f => f
  | none => ((List.range 32).find? (fun i => fwlHas (fwlRegion s i) a)).getD 36

/-- The permission bit of a master and an access (0 read, 1 write, 2 fetch) in FWL_RGNn_CFG. -/
def permBit (master access : Nat) : Option Nat :=
  if master == mCp then (if access ≤ 2 then some access else none)
  else if access ≤ 1 then some (1 + 2 * master + access)
  else none

/-- The boot window is open, or closes in this cycle (R328; log entry 145). -/
def windowYet (s : State) : Bool := s.prot.window || s.prot.closedAt == some s.tsu.count

/-- A deciding region grants an access to a master (R313, Table 13-3). -/
def fwlGrants (s : State) (d master access : Nat) : Bool :=
  if d == 32 then (master == mCp && access != 1) || (master == mDap && access == 0)
  else if d == 33 then
    (master == mCp && (access == 0 || (access == 1 && windowYet s))) || (master == mDap && access == 0)
  else if d == 34 || d == 35 then master == mCp && access != 2
  else if d == 36 then master == mCp && s.prot.window
  else match permBit master access with
    | some b => (fwlRegion s d).perm.getLsbD b
    | none => false

/-- The cause of a denial, 0 where the access is allowed: the first that applies of ABSENT 4, LEVEL 5, STRADDLE 2,
NO_REGION 3, PERM 1 (R312, R314, R323, R327). -/
def fwlJudge (s : State) (master addr size access : Nat) : Nat :=
  let bytes := (List.range size).map (addr + ·)
  let d := deciding s addr
  if master == mDap && bytes.any (fun a => fixedOf a == some 34 || fixedOf a == some 35) then 4
  else if master == mDap && (s.prot.level == 0 || (s.prot.level == 1 && access != 0)) then 5
  else if bytes.any (fun a => deciding s a != d) then 2
  else if bytes.any (fun a => !mapped a) || (d == 36 && !fwlGrants s d master access) then 3
  else if fwlGrants s d master access then 0
  else 1

/-- A denial is counted, recorded and captured (R316). -/
def fwlDeny (master addr size access cause : Nat) (s : State) : State :=
  let s := evH 0xB101 (le 1 master ++ le 8 addr ++ le 1 access ++ le 1 cause ++ le 1 size) s
  setProt (fun p =>
    let p := { p with denyCnt := tmod 0 p.denyCnt master (· + 1) }
    if p.fwlValid then { p with fwlOverflow := true }
    else { p with fwlValid := true, fwlAddr := addr, fwlMaster := master, fwlAccess := access, fwlCause := cause,
                  fwlSize := size }) s

/-- A write to a locked register is ignored, flagged and recorded (R317). -/
def fwlIgnored (offset : Nat) (s : State) : State :=
  evH 0xB102 (le 2 offset) (setProt (fun p => { p with wrIgnored := true }) s)

/-- The CP address of a BAR0 offset in the event recorder window or the counter reader, which HIF reaches as master 2
(R311, R379, R390). -/
def windowCp (off : Nat) : Option Nat :=
  if spans off 0x20000 0x10000 then some (blockBase 13 + off % 0x10000)
  else if spans off 0x30000 0x10000 then some (blockBase 14 + off % 0x10000)
  else none

/-- A host write of BAR0 goes on unless the firewall denies it; a denied one only counts as such (R311, R315). -/
def hifAccess (off size : Nat) (go : State → State) (s : State) : State :=
  match windowCp off with
  | none => go s
  | some a =>
    let c := fwlJudge s mHif a size 1
    if c == 0 then go s else fwlDeny mHif a size 1 c s

/-- The first access of a DMA transfer that the firewall denies: its address, size, kind and cause (R311, R314; log entry
68). -/
def dmaDenied (s : State) : DmaRead → Option (Nat × Nat × Nat × Nat)
  | .via addr size rest =>
    let c := fwlJudge s mDma addr size 1
    if c == 0 then dmaDenied s rest else some (addr, size, 1, c)
  | .out addr size rest =>
    let c := fwlJudge s mDma addr size 0
    if c == 0 then dmaDenied s rest else some (addr, size, 0, c)
  | _ => none

/-- What a denial of a DMA access does (R316). -/
def dmaDeny (x : Nat × Nat × Nat × Nat) (s : State) : State := fwlDeny mDma x.1 x.2.1 x.2.2.1 x.2.2.2 s

/-- What a body answers to an input transfer that a denial stopped: INTEGRITY if it needed the transfer, with the denial's
effects (R315, R316). -/
def dmaStopped (c : Cmd) (x : Nat × Nat × Nat × Nat) : Res → Res
  | .done r s =>
    if r.status == stIntegrity && (nbit c.flags 3 || dmaOwn c.opcode) then .done r (dmaDeny x s)
    else .done r s
  | .wait w s => .wait w s

/-- A transfer to the host that a denial stopped: a command that needed it ends with INTEGRITY and changes nothing but for the
denial's effects (R315, R316). -/
def dmaUnsent (c : Cmd) (x : Nat × Nat × Nat × Nat) (s : State) : Res → Res
  | .done r t =>
    if (nbit c.flags 3 || dmaOwn c.opcode) && decide (s.hif.dmaOut.length < t.hif.dmaOut.length) then
      fail stIntegrity (dmaDeny x s)
    else .done r t
  | .wait w t => .wait w t

/-- Run a command whose input or output can go by DMA: a transfer that the firewall denies stops before the first commit (R300,
R315). -/
def dmaRun (body : DmaRead → Cmd → State → Res) (dma : DmaRead) (c : Cmd) (s : State) : Res :=
  match dmaDenied s dma with
  | none => body dma c s
  | some x => if x.2.2.1 == 1 then dmaStopped c x (body .poisoned c s) else dmaUnsent c x s (body dma c s)

/-- `fcp` for such a command. -/
def fcpDma (opcode mb : Nat) (dma : DmaRead) (body : DmaRead → Cmd → State → Res) (s : State) : State :=
  fcp opcode mb (dmaRun body dma) s

/-- The ranges a transfer to the host is read from. -/
def dmaReads (reads : List (Nat × Nat)) : DmaRead := reads.foldr (fun r d => .out r.1 r.2 d) (.data [])

/-- `fcp` for a command that only sends by DMA. -/
def fcpOut (opcode mb : Nat) (reads : List (Nat × Nat)) (body : Cmd → State → Res) (s : State) : State :=
  fcpDma opcode mb (dmaReads reads) (fun _ => body) s

end Sys2Proof.Machine
end

