-- ==== Sys2Proof/Machine/Channels.lean ====
section
/-! DEFINITION. The SC_* and SA_* commands (04_channels_rekey.md, R114, R115, Tables 4-2 to 4-11; 06_transcryption.md,
R155). DEDUCED: log entry 75. -/
namespace Sys2Proof.Machine

/-! ### Channels -/

/-- The 40 bytes of an SC record (Table 4-2), its create TOD after them. -/
def scBytes (sch : Nat) (c : Sc) (s : State) : Bytes :=
  let at' := [0, 1, 2, 3].map (fun an => saAt s sch an)
  let an (x : Option (Nat × Sa)) : Nat := match x with
    | some (_, a) => a.an
    | none => 0xFF
  le 2 sch ++ le 1 (b2n c.rx) ++ le 1 c.port ++ le 1 c.suite ++ le 1 c.option ++ le 1 (b2n c.replay + 2 * b2n c.group) ++
    le 1 1 ++ be 8 c.sci ++ le 4 c.window ++ le 1 (an (saCur s sch)) ++ le 1 (an (saArmed s sch)) ++
    le 1 (mask (at'.map (·.isSome))) ++ zb 1 ++
    at'.flatMap (fun x => match x with
      | some (sah, _) => le 4 (sah + 2147483648)
      | none => zb 4) ++ le64 c.create

/-- The fields of SC_CREATE are in range (Table 4-10). -/
def scArgs (p : Bytes) : Bool :=
  let rx := u8 p 2 == 1
  p.length == 24 && u8 p 2 ≤ 1 && 0x20 ≤ u8 p 3 && u8 p 3 ≤ 0x3F && 1 ≤ u8 p 4 && u8 p 4 ≤ 4 && u8 p 5 ≤ 3 &&
    u8 p 6 ≤ 3 && u8 p 7 == 0 && zeros p 20 4 && (if rx then u8 p 5 == 0 && !nbit (u8 p 6) 1
      else u32 p 16 == 0 && !nbit (u8 p 6) 0) && (!isXpn (u8 p 4) || u32 p 16 ≤ 2 ^ 30)

/-- The SC that a request describes. -/
def scOfReq (p : Bytes) (s : State) : Sc :=
  { rx := u8 p 2 == 1, port := u8 p 3, suite := u8 p 4, option := u8 p 5, replay := nbit (u8 p 6) 0,
    group := nbit (u8 p 6) 1, sci := beNat (sub p 8 8), window := u32 p 16, create := s.tsu.ns, nosa := 0, switches := 0 }

/-- The directory entry of a GROUP channel's SCI (R270). -/
def sciEntry (sch sci : Nat) (s : State) : DirEntry :=
  { typ := 1, owner := s.pack.me, ssci := 0, sci := sci, sch := sch, sah := 0 }

/-- A GROUP channel uses an SCI. -/
def usesSci (s : State) (sci : Nat) : Bool := s.chan.scs.any (fun e => e.2.any (fun c => c.group && c.sci == sci))

/-- SC_CREATE commits. One whose SCH has been taken while its claim waited changes nothing: the SCI granted for it is released
(R114, R272). -/
def scCommit (c : Cmd) (s : State) : Res :=
  let p := c.payload
  let sci := beNat (sub p 8 8)
  if (scOf s (u16 p 0)).isSome then
    fail stWrongState (if nbit (u8 p 6) 1 && !usesSci s sci then packRelease (sciEntry (u16 p 0) sci s) s else s)
  else ok (putSc (u16 p 0) (some (scOfReq p s)) s)

/-- SC_CREATE (R86, R90, R271). -/
def scCreate (c : Cmd) (s : State) : Res :=
  let p := c.payload
  if lcBad s then fail stWrongState s
  else if !scArgs p then fail stInvalid s
  else if (scOf s (u16 p 0)).isSome then fail stExists s
  else if nbit (u8 p 6) 1 then
    if s.pack.st != .active || s.pack.lead.isNone then fail stInvalid s
    else match packClaim (sciEntry (u16 p 0) (beNat (sub p 8 8)) s) c.mb s with
      | (some true, t) => scCommit c t
      | (some false, t) => fail stExists t
      | (none, t) => .wait (.claim [] [] []) t
  else scCommit c s

/-- SC_MODIFY. -/
def scModify (c : Cmd) (s : State) : Res :=
  let p := c.payload
  let m := u8 p 2
  let w := u32 p 4
  if lcBad s then fail stWrongState s
  else if p.length != 12 || 3 < m || 1 < u8 p 3 || !zeros p 8 4 || (!nbit m 0 && w != 0) || (!nbit m 1 && u8 p 3 != 0) then
    fail stInvalid s
  else match scOf s (u16 p 0) with
    | none => fail stNotFound s
    | some x =>
      if !x.rx || (isXpn x.suite && 2 ^ 30 < w) then fail stInvalid s
      else
        let y := { x with window := if nbit m 0 then w else x.window, replay := if nbit m 1 then u8 p 3 == 1 else x.replay }
        let s := putSc (u16 p 0) (some y) s
        ok { s with chan := { s.chan with sas := s.chan.sas.map (fun e => (e.1, e.2.map (fun a =>
          if a.sch == u16 p 0 && (a.st == .active || a.st == .retiring) then
            { a with low := lowestPn a.thr a.next y.window } else a))) } }

/-- Remove a pairing, with event 0x3008 (R143, R154). -/
def pairRemove (rx : Nat) (s : State) : State :=
  match tget none s.chan.pairs rx with
  | none => s
  | some x => evH 0x3008 (le 2 rx ++ le 2 x.tx) { s with chan := { s.chan with pairs := tset none s.chan.pairs rx none } }

/-- SC_DELETE. -/
def scDelete (c : Cmd) (s : State) : Res :=
  let sch := u16 c.payload 0
  if lcBad s then fail stWrongState s
  else if c.payload.length != 4 || !zeros c.payload 2 2 then fail stInvalid s
  else match scOf s sch with
    | none => fail stNotFound s
    | some x =>
      if (saFind s (fun a => a.sch == sch && a.st != .free)).isSome then fail stWrongState s
      else
        let rxs := s.chan.pairs.filterMap (fun e => match e.2 with
          | some q => if e.1 == sch || q.tx == sch then some e.1 else none
          | none => none)
        let s := rxs.foldl (fun t r => pairRemove r t) s
        let s := if x.group then packRelease (sciEntry sch x.sci s) s else s
        ok (putSc sch none s)

/-- A command about one SC: SCH and two reserved bytes. -/
def scRead (c : Cmd) (s : State) (f : Nat → Sc → Res) : Res :=
  let sch := u16 c.payload 0
  if lcBad s then fail stWrongState s
  else if c.payload.length != 4 || !zeros c.payload 2 2 then fail stInvalid s
  else match scOf s sch with
    | none => fail stNotFound s
    | some x => f sch x

/-- SC_GET (Table 4-2). -/
def scGet (c : Cmd) (s : State) : Res := scRead c s (fun sch x => okWith (scBytes sch x s) s)

/-- SC_STATS_GET. -/
def scStatsGet (c : Cmd) (s : State) : Res :=
  scRead c s (fun sch x =>
    okWith (le 2 sch ++ le 1 (b2n x.rx) ++ zb 5 ++ le64 s.tsu.ns ++ le64 x.nosa ++ le64 x.switches) s)

/-- A command whose payload is four reserved bytes. -/
def fourZero (c : Cmd) (s : State) (r : Res) : Res :=
  if lcBad s then fail stWrongState s
  else if c.payload.length != 4 || !zeros c.payload 0 4 then fail stInvalid s else r

/-- SC_PORT_STATS_GET. -/
def scPortStatsGet (c : Cmd) (s : State) : Res :=
  fourZero c s (okWith (le64 s.tsu.ns ++ (List.range 32).flatMap (fun p => le64 (tget 0 s.chan.unknownSci p))) s)

/-! ### SA_INSTALL (R106, R115, Table 4-11) -/

/-- Fields out of range or non-zero reserved fields (order 1). -/
def saFieldsBad (e : Bytes) : Bool :=
  let off := u8 e 8
  decide (131071 < u32 e 0) || decide (3 < u8 e 6) || decide (15 < u8 e 7) ||
    !(off == 0 || off == 30 || off == 50) || (nbit (u8 e 7) 0 && off != 0) || decide (2 < u8 e 9) || decide (2 < u8 e 10) ||
    ((u8 e 10 != 0) != nbit (u8 e 7) 3) || (u64 e 32 != 0 && u8 e 10 != 2) ||
    u8 e 11 != 0 || u64 e 16 == 0 || !zeros e 40 8

/-- Fields on the wrong direction, out of the suite's range, or an SSCI on a 32-bit suite (order 3). -/
def saSidesBad (e : Bytes) (c : Sc) : Bool :=
  let fl := u8 e 7
  (if c.rx then nbit fl 3 || u64 e 24 != 0 else nbit fl 1 || u8 e 9 != 0) ||
  (u32 e 12 != 0 && !isXpn c.suite) || decide (lastPn c.suite < u64 e 16)

/-- Orders 1 to 9 of R115: a status, or stOk with the material the fetch gave. `bad` holds the SAHs whose blob or table
line memory returns with an uncorrectable ECC error. -/
def saChecks (bad : List Nat) (e : Bytes) (s : State) : Nat × Option Mat × State :=
  let sah := u32 e 0
  let sch := u16 e 4
  if saFieldsBad e then (stInvalid, none, s)
  else match scOf s sch with
    | none => (stNotFound, none, s)
    | some c =>
      if saSidesBad e c then (stInvalid, none, s)
      else if saSt s sah == .draining || saSt s sah == .retiring then (stBusy, none, s)
      else if saSt s sah != .free || (saAt s sch (u8 e 6)).isSome then (stExists, none, s)
      else if nbit (u8 e 7) 3 && (saArmed s sch).isSome then (stWrongState, none, s)
      else if u8 e 10 == 2 && !reached (BitVec.ofNat 64 (u64 e 32)) s.tsu.ns then (stLate, none, s)
      else if (keyOf s sah).st == .absent then (stNotFound, none, s)
      else match cmdFetch (b2n c.rx) sah (some (none, c.rx)) (bad.contains sah) s with
        | (.error st, t) => (st, none, t)
        | (.ok m, t) => if m.suite != c.suite then (stInvalid, none, t) else (stOk, some m, t)

/-- The directory entry an install claims: the SSCI of an XPN SA of a GROUP channel (R271). -/
def installClaim (e : Bytes) (s : State) : Option DirEntry :=
  match scOf s (u16 e 4) with
  | some c =>
    if c.group && isXpn c.suite then
      some { typ := 2, owner := s.pack.me, ssci := u32 e 12, sci := c.sci, sch := u16 e 4, sah := u32 e 0 }
    else none
  | none => none

/-- Order 10 of R115: what the claims gave. `lost` holds the denied SSCIs, and those whose claim failed plus 2^32. -/
def claimStatus (lost : List Nat) (mb : Nat) (e : Bytes) (s : State) : Nat × State :=
  match installClaim e s with
  | none => (stOk, s)
  | some d =>
    if lost.contains (d.ssci + 2 ^ 32) || s.pack.st != .active || s.pack.lead.isNone then (stWrongState, s)
    else if lost.contains d.ssci then (stExists, s)
    else if dirOwned s d then (stOk, s)
    else match packClaim d mb s with
      | (some true, t) => (stOk, t)
      | (some false, t) => (stExists, t)
      | (none, t) => (stWrongState, t)

/-- The new record (Table 4-4). -/
def saNew (e : Bytes) (c : Sc) (s : State) : Sa :=
  let pn := u64 e 16
  let cur := (saCur s (u16 e 4)).isNone && !nbit (u8 e 7) 3
  { sch := u16 e 4, an := u8 e 6,
    st := if c.rx then .active else if nbit (u8 e 7) 3 then .armed else if cur then .current else .installed,
    rx := c.rx, integrityOnly := nbit (u8 e 7) 0, strict := nbit (u8 e 7) 1, offset := u8 e 8,
    mode := if c.rx then u8 e 9 else u8 e 10, ssci := u32 e 12, next := pn,
    thr := if c.rx then pn else if u64 e 24 == 0 then defaultThr c.suite else u64 e 24,
    low := if c.rx then lowestPn pn pn c.window else if cur then pn else 0,
    tod := if c.rx then 0 else BitVec.ofNat 64 (u64 e 32), change := s.tsu.ns, thrRaised := false, reachedThr := false,
    used := false, tag := 0, lens := [], waiters := [], c0 := 0, c1 := 0, c2 := 0, c3 := 0, saturated := false }

/-- PRELOAD: the key takes a slot now, or none is to be had (R107, R115); its fetch was made from `o` to `n`. -/
def preload (side sah : Nat) (m : Mat) (o n s : State) : Option State :=
  match slotBy s sah with
  | some _ => some s
  | none => match slotTake s with
    | (none, _) => none
    | (some i, t) =>
      some (slotServes i sah (fetchMark side (kekMissed side o n) (slotFill i m (slotLoad i sah false t))))

/-- One entry of SA_INSTALL. -/
def installEntry (bad lost : List Nat) (mb : Nat) (e : Bytes) (s : State) : Nat × State :=
  match saChecks bad e s, scOf s (u16 e 4) with
  | (st, none, t), _ => (st, t)
  | (st, _, t), none => (st, t)
  | (_, some m, t), some c =>
    let r := claimStatus lost mb e t
    if r.1 != stOk then r
    else
      let sah := u32 e 0
      let a := saNew e c r.2
      let put (u : State) : State := totalsClear sah { u with chan := { u.chan with sas := tset none u.chan.sas sah (some a) } }
      if nbit (u8 e 7) 2 then
        match preload (b2n c.rx) sah m s t r.2 with
        | none => (stNoRoom, r.2)
        | some u => (stOk, put u)
      else (stOk, put r.2)

/-- Release the SSCIs claimed for entries that were not installed (R115: a failed entry leaves no trace). -/
def claimRelease (es : List Bytes) (s : State) : State :=
  es.foldl (fun t e => match installClaim e t with
    | some d =>
      if dirOwned t d && !t.chan.sas.any (fun x => x.2.any (fun a => usesSsci t a d.ssci)) then packRelease d t else t
    | none => t) s

/-- SA_INSTALL once its claims are answered. -/
def installRun (bad : List Nat) (es : List Bytes) (lost : List Nat) (d : DmaRead) (c : Cmd) (s : State) : Res :=
  match batch 48 4096 (installEntry bad lost c.mb) c d s with
  | .done r t => .done r (claimRelease es t)
  | .wait w t => .wait w t

/-- The claims that must be asked of the lead first: their entries pass R115 up to order 9. -/
def installClaims (bad : List Nat) (es : List Bytes) (s : State) : List DirEntry :=
  if s.pack.st != .active || s.pack.lead.isNone then []
  else es.filterMap (fun e => match saChecks bad e s with
    | (_, some _, _) => (installClaim e s).bind (fun d => if dirOwned s d then none else some d)
    | _ => none)

/-- Ask the claims: the SSCIs denied at once. -/
def askClaims (mb : Nat) : List DirEntry → State → List Nat × State
  | [], s => ([], s)
  | d :: t, s =>
    let r := packClaim d mb s
    let u := askClaims mb t r.2
    (if r.1 == some false then d.ssci :: u.1 else u.1, u.2)

/-- SA_INSTALL (R106, R115, R271). -/
def saInstall (bad : List Nat) (d : DmaRead) (c : Cmd) (s : State) : Res :=
  if lcBad s then fail stWrongState s
  else match parseEntries 48 4096 2 true c d with
    | .error e => fail e s
    | .ok es =>
      let r := askClaims c.mb (installClaims bad es.list s) s
      if r.2.pack.claims.any (fun x => x.mb == c.mb) then .wait (.claim es.list r.1 bad) r.2
      else installRun bad es.list r.1 d c r.2

/-- The DMA read again, for a command that waited: its entries as they were read. -/
def againRead (es : List Bytes) : DmaRead := .data es.flatten

/-- A waiting SA_INSTALL whose claims are all answered runs. -/
def installResume (bad : List Nat) (es : List Bytes) (lost : List Nat) (c : Cmd) (s : State) : Res :=
  if s.pack.claims.any (fun x => x.mb == c.mb) then .wait (.claim es lost bad) s
  else if lcBad s then fail stWrongState s
  else installRun bad es lost (againRead es) c s

/-! ### SA_ARM, SA_SWITCH, SA_MODIFY -/

/-- SA_ARM (R103, R105). -/
def saArm (c : Cmd) (s : State) : Res :=
  let p := c.payload
  let sah := u32 p 0
  let cond := u8 p 4
  let tod := BitVec.ofNat 64 (u64 p 8)
  if lcBad s then fail stWrongState s
  else if p.length != 16 || 131071 < sah || 2 < cond || !zeros p 5 3 || (u64 p 8 != 0 && cond != 2) then fail stInvalid s
  else match saOf s sah with
    | none => fail stNotFound s
    | some a =>
      let other := match saArmed s a.sch with
        | some (o, _) => o != sah
        | none => false
      if a.st == .free then fail stNotFound s
      else if !(a.st == .installed || a.st == .armed) || other || enlisted s sah then fail stWrongState s
      else if cond == 2 && !reached tod s.tsu.ns then fail stLate s
      else
        let st := if cond == 0 then SaSt.installed else SaSt.armed
        ok (setSa sah (fun x => { x with
          st := st, mode := cond, tod := tod, change := if x.st == st then x.change else s.tsu.ns }) s)

/-- SA_SWITCH (R103). -/
def saSwitch (c : Cmd) (s : State) : Res :=
  let p := c.payload
  let sah := u32 p 0
  if lcBad s then fail stWrongState s
  else if p.length != 8 || 131071 < sah || !zeros p 4 4 then fail stInvalid s
  else match saOf s sah with
    | none => fail stNotFound s
    | some a =>
      if a.st == .free then fail stNotFound s
      else if a.rx then fail stInvalid s
      else if !(a.st == .installed || a.st == .armed) || enlisted s sah then fail stWrongState s
      else ok (saSwitchTo sah false s)

/-- The fields of SA_MODIFY are in range, and zero where the mask does not name them. The floor and the threshold take any
value (log entry 107). -/
def modifyArgs (p : Bytes) : Bool :=
  let m := u16 p 4
  p.length == 32 && u32 p 0 ≤ 131071 && m ≤ 15 && u8 p 6 ≤ 2 && u8 p 7 ≤ 1 && zeros p 24 8 &&
    (nbit m 0 || u64 p 8 == 0) && (nbit m 1 || u8 p 6 == 0) && (nbit m 2 || u8 p 7 == 0) && (nbit m 3 || u64 p 16 == 0)

/-- SA_MODIFY. A threshold that was reached stays reached when it is raised (log entry 106). -/
def saModify (c : Cmd) (s : State) : Res :=
  let p := c.payload
  let sah := u32 p 0
  let m := u16 p 4
  if lcBad s then fail stWrongState s
  else if !modifyArgs p then fail stInvalid s
  else match saOf s sah with
    | none => fail stNotFound s
    | some a =>
      if a.st == .free then fail stNotFound s
      else if (if a.rx then nbit m 3 else m % 8 != 0) then fail stInvalid s
      else if a.st == .draining then fail stWrongState s
      else
        let c := scOf s a.sch
        let suite := (c.map (·.suite)).getD 1
        let floor := if nbit m 0 then Nat.max a.thr (u64 p 8) else a.thr
        let thr := if nbit m 3 then (if u64 p 16 == 0 then defaultThr suite else u64 p 16) else a.thr
        ok (setSa sah (fun x => { x with
          thr := if x.rx then floor else thr
          low := if x.rx then lowestPn floor x.next ((c.map (·.window)).getD 0) else x.low
          mode := if nbit m 1 then u8 p 6 else x.mode
          strict := if nbit m 2 then u8 p 7 == 1 else x.strict }) s)

/-! ### SA_RETIRE (R108, R109) -/

/-- Stop an SA for a command's entry: OK when it is FREE at once, else deferred until it is. -/
def retireNowEntry (sah tag id : Nat) (timed : Bool) (s : State) : Nat × State :=
  let t := saStop sah timed (setSa sah (fun a => { a with tag := tag }) s)
  if saSt t sah == .free then (stOk, t)
  else (stDeferred, deferAdd id (setSa sah (fun a => { a with waiters := a.waiters ++ [id] }) t))

/-- One entry of SA_RETIRE. -/
def retireEntry (tag id : Nat) (e : Bytes) (s : State) : Nat × State :=
  let sah := u32 e 0
  let nb := BitVec.ofNat 64 (u64 e 8)
  let later := u64 e 8 != 0 && !reached s.tsu.ns nb
  let join (t : State) : State := deferAdd id (setSa sah (fun a => { a with waiters := a.waiters ++ [id] }) t)
  if 131071 < sah || 1 < u8 e 4 || !zeros e 5 3 then (stInvalid, s)
  else match saOf s sah with
    | none => (stNotFound, s)
    | some a =>
      if a.st == .free then (stNotFound, s)
      else if !a.rx && u64 e 8 != 0 then (stInvalid, s)
      else if enlisted s sah then (stWrongState, s)
      else match a.st with
        | .draining => (stDeferred, join s)
        | .retiring => if later then (stDeferred, join (saRetireAt sah nb tag s)) else retireNowEntry sah tag id true s
        | .current | .exhausted =>
          if nbit (u8 e 4) 0 then retireNowEntry sah tag id false s else (stWrongState, s)
        | _ => if later then (stDeferred, join (saRetireAt sah nb tag s)) else retireNowEntry sah tag id false s

/-- SA_RETIRE. -/
def saRetire (d : DmaRead) (c : Cmd) (s : State) : Res :=
  if lcBad s then fail stWrongState s else batchDefer 16 4096 (retireEntry c.tag) c d s

/-! ### SA_GET, SA_STATS_GET -/

/-- The slot that holds an SA's key, RESIDENT or DRAINING. -/
def saSlot (s : State) (sah : Nat) : Option (Nat × Slot) :=
  s.km.slots.find? (fun e => e.2.sah == sah && (e.2.st == .resident || e.2.st == .draining))

/-- The SA record (Table 4-3). -/
def saBytes (sah : Nat) (a : Sa) (s : State) : Bytes :=
  let k := saSlot s sah
  le 4 sah ++ le 2 a.sch ++ le 1 a.an ++ le 1 a.st.code ++ le 1 (b2n a.rx) ++
    le 1 (mask [a.integrityOnly, a.strict, k.isSome, k.any (fun x => x.2.pinned)]) ++ le 1 a.offset ++ le 1 a.mode ++
    le 4 a.ssci ++ le 8 (Nat.min a.next (2 ^ 64 - 1)) ++ le 8 a.thr ++ le 8 a.low ++ le64 a.tod ++ le64 a.change ++
    le 2 ((k.map (·.1)).getD 0xFFFF) ++ le 2 (keyOf s sah).gen.toNat ++ zb 4

/-- SA_GET. -/
def saGet (c : Cmd) (s : State) : Res :=
  let sah := u32 c.payload 0
  if lcBad s then fail stWrongState s
  else if c.payload.length != 8 || 131071 < sah || !zeros c.payload 4 4 then fail stInvalid s
  else match saOf s sah with
    | none => fail stNotFound s
    | some a => okWith (saBytes sah a s) s

/-- The statistics block of a SAH (Table 4-8, R111). -/
def saBlock (e : Bytes) (s : State) : Bytes :=
  let sah := u32 e 0
  match saOf s sah with
  | none => le 4 sah ++ le 1 0xFF ++ zb 35
  | some a =>
    le 4 sah ++ le 1 (b2n a.rx) ++ le 1 (b2n a.saturated) ++ zb 2 ++ [0, 1, 2, 3].flatMap (fun i => le64 (cntVal s sah a i))

/-- SA_STATS_GET. -/
def saStatsGet (d : DmaRead) (c : Cmd) (s : State) : Res :=
  if lcBad s then fail stWrongState s
  else statsCmd 4 4096 40 101 (fun e _ => decide (u32 e 0 ≤ 131071)) saBlock c d s

/-! ### Pairings (R155) -/

/-- SC_PAIR_SET; removing a pairing that is not there changes nothing (log entry 110). -/
def pairSet (c : Cmd) (s : State) : Res :=
  let p := c.payload
  let rx := u16 p 0
  let tx := u16 p 2
  if lcBad s then fail stWrongState s
  else if p.length != 8 || !zeros p 4 4 then fail stInvalid s
  else match scOf s rx with
    | none => fail stNotFound s
    | some r =>
      if tx == 0xFFFF then
        if !r.rx || (port s r.port).cfg.role != 3 then fail stInvalid s
        else ok { s with chan := { s.chan with pairs := tset none s.chan.pairs rx none } }
      else match scOf s tx with
        | none => fail stNotFound s
        | some t =>
          if !r.rx || t.rx || (port s r.port).cfg.role != 3 || pairOf s r.port != some t.port then fail stInvalid s
          else ok { s with chan := { s.chan with pairs := tset none s.chan.pairs rx (some ⟨tx, s.tsu.ns⟩) } }

/-- SC_PAIR_GET; the TOD is 0 without a pairing (log entry 109). -/
def pairGet (c : Cmd) (s : State) : Res :=
  scRead c s (fun rx r =>
    if !r.rx then fail stInvalid s
    else
      let x := tget none s.chan.pairs rx
      okWith (le 2 rx ++ le 2 ((x.map (·.tx)).getD 0xFFFF) ++ le 1 (b2n (pairedTx s rx).isSome) ++ zb 3 ++
        le64 ((x.map (·.tod)).getD 0)) s)

/-- SC_PAIR_STATS_GET (Table 6-3). -/
def pairStatsGet (c : Cmd) (s : State) : Res :=
  fourZero c s (okWith (le64 s.tsu.ns ++ zb 8 ++ (List.range 32).flatMap (fun p =>
    let x := tget .reset s.chan.xc p
    le64 x.frames ++ le64 x.octets ++ le64 x.nopair ++ le64 x.expose)) s)

/-! ### The meanings -/

def execScCreate (mb : Nat) (s : State) : Host.Outcome State Fault Refusal := .next (fcp 0x0300 mb scCreate s)
def execScModify (mb : Nat) (s : State) : Host.Outcome State Fault Refusal := .next (fcp 0x0301 mb scModify s)
def execScDelete (mb : Nat) (s : State) : Host.Outcome State Fault Refusal := .next (fcp 0x0302 mb scDelete s)
def execScGet (mb : Nat) (s : State) : Host.Outcome State Fault Refusal := .next (fcp 0x0303 mb scGet s)
def execSaInstall (mb : Nat) (dma : DmaRead) (bad : List Nat) (s : State) : Host.Outcome State Fault Refusal :=
  .next (fcpDma 0x0304 mb dma (saInstall bad) s)
def execSaArm (mb : Nat) (s : State) : Host.Outcome State Fault Refusal := .next (fcp 0x0305 mb saArm s)
def execSaSwitch (mb : Nat) (s : State) : Host.Outcome State Fault Refusal := .next (fcp 0x0306 mb saSwitch s)
def execSaModify (mb : Nat) (s : State) : Host.Outcome State Fault Refusal := .next (fcp 0x0307 mb saModify s)
def execSaRetire (mb : Nat) (dma : DmaRead) (s : State) : Host.Outcome State Fault Refusal :=
  .next (fcpDma 0x0308 mb dma saRetire s)
def execSaGet (mb : Nat) (s : State) : Host.Outcome State Fault Refusal := .next (fcp 0x0309 mb saGet s)
def execSaStatsGet (mb : Nat) (dma : DmaRead) (s : State) : Host.Outcome State Fault Refusal :=
  .next (fcpDma 0x030A mb dma saStatsGet s)
def execScStatsGet (mb : Nat) (s : State) : Host.Outcome State Fault Refusal := .next (fcp 0x030B mb scStatsGet s)
def execScPortStatsGet (mb : Nat) (s : State) : Host.Outcome State Fault Refusal :=
  .next (fcp 0x030C mb scPortStatsGet s)
def execScPairSet (mb : Nat) (s : State) : Host.Outcome State Fault Refusal := .next (fcp 0x030D mb pairSet s)
def execScPairGet (mb : Nat) (s : State) : Host.Outcome State Fault Refusal := .next (fcp 0x030E mb pairGet s)
def execScPairStatsGet (mb : Nat) (s : State) : Host.Outcome State Fault Refusal := .next (fcp 0x030F mb pairStatsGet s)
def execRxSaRetireTime (sah : Nat) (s : State) : Host.Outcome State Fault Refusal := .next (rxSaRetireTime sah s)
def execSpillSweep (s : State) : Host.Outcome State Fault Refusal := .next (spillSweep s)

end Sys2Proof.Machine
end

