-- ==== Sys2Proof/Machine/Recorder.lean ====
section
/-! DEFINITION. The event recorder: records, folding and rates, the ring and its cursors, the EVR_* commands
(16_event_recorder.md, R372 to R383). DEDUCED: log entry 87. -/
namespace Sys2Proof.Machine

/-- Change the recorder. -/
def setEvr (f : Evr → Evr) (s : State) : State := { s with evr := f s.evr }

/-! ### The ring (R372, R377, R378, R381) -/

/-- EVR_USED: bytes held. -/
def evrUsed (e : Evr) : Nat := (e.ring.map Rec.size).foldl (· + ·) 0
/-- EVR_OLDEST: the sequence of the oldest record held, or the next one's (Table 16-4). -/
def evrOldest (e : Evr) : Nat := match e.ring with
  | r :: _ => r.seq
  | [] => e.next
/-- EVR_CURc_PEND: records from the cursor to the newest. -/
def evrPend (e : Evr) (c : Cursor) : Nat := e.next - c.seq

/-- The threshold condition of cursor 1 (R381). -/
def thrOver (e : Evr) : Bool := e.thresh != 0 && decide (e.thresh.toNat ≤ evrPend e e.cur1)

/-- Signal vector 9 when EVR_CUR1_PEND rises to EVR_THRESH; the condition re-arms below it (R381). -/
def thrCheck (s : State) : State :=
  let met := thrOver s.evr
  let fire := met && !s.evr.thrSignalled
  let s := setEvr (fun e => { e with thrSignalled := met }) s
  if fire then irq 9 s else s

/-- A cursor below the oldest record is overtaken: it moves there, LOST is set, the skipped records are counted (R378). -/
def overtake (oldest : Nat) (c : Cursor) : Cursor :=
  if c.seq < oldest then { seq := oldest, lost := true, lostCnt := c.lostCnt + BitVec.ofNat 64 (oldest - c.seq) } else c

/-- Records that cursor 0 skips are notifications lost, counted by the firmware, as soon as the CP runs, and reported by a LOST entry
(R378, R303). -/
def forwardLost (n : Nat) (s : State) : State :=
  let k := s.evr.skipped + n
  if k == 0 then s
  else if !cpRuns s then setEvr (fun e => { e with skipped := k }) s
  else nqLose k (setEvr (fun e => { e with skipped := 0 }) s)

/-- After a removal or a move, every cursor below the oldest record is overtaken; vector 9 for cursor 1 (R378, R381). -/
def cursorsCheck (s : State) : State :=
  let o := evrOldest s.evr
  let skipped := o - s.evr.cur0.seq
  let taken := decide (s.evr.cur1.seq < o)
  let s := setEvr (fun e => { e with cur0 := overtake o e.cur0, cur1 := overtake o e.cur1, cur2 := overtake o e.cur2 }) s
  let s := forwardLost skipped s
  thrCheck (if taken then irq 9 s else s)

/-- Remove the oldest records until `n` more bytes fit in the 262,144 (R377). -/
def ringTrim (n : Nat) : List Rec → List Rec
  | [] => []
  | r :: rs => if ((r :: rs).map Rec.size).foldl (· + ·) 0 + n ≤ 262144 then r :: rs else ringTrim n rs

/-- The newest record is closed (R374). -/
def ringClose (rs : List Rec) : List Rec := rs.map (fun r => { r with opn := false })

/-- Write a new OPEN record: the newest is closed, the oldest make room, cursors can be overtaken (R374, R377). No defined event carries
more than 52 bytes of parameters (16_event_recorder.md, Storage). -/
def evrWrite (ev : Ev) (fw : Bool) (s : State) : State :=
  let e := s.evr
  let r : Rec := { code := ev.code, params := ev.params.take 52, opn := true, notSet := ev.notSet, fw := fw, rep := 0,
                   seq := e.next, first := ev.tod, last := ev.tod }
  let kept := ringTrim r.size e.ring
  cursorsCheck (setEvr (fun e => { e with
    ring := ringClose kept ++ [r], next := e.next + 1, wrapped := e.wrapped || kept.length != e.ring.length }) s)

/-- A record of the recorder's own (Table 16-3). -/
def evrOwn (code : Nat) (ps : Bytes) (s : State) : State := evrWrite (evAt code ps s) false s

/-- EVR_STARTED, the first record after a device reset: 0 POR_L, 1 SYS_RST_L, 2 core reset (Table 16-3). -/
def evrStarted (cause : Nat) (s : State) : State := evrOwn 0x0003 (le 1 cause ++ zb 7) s

/-! ### Rates (R375) -/

/-- The codes no bucket limits (R374). -/
def evExempt (code : Nat) : Bool :=
  spans code 0x0001 3 || code == 0x8001 || spans code 0x9000 0x50 || code == 0xB005

/-- B and r of a code: its override, else its area's default, B 64 and r 100 after reset. -/
def evRate (e : Evr) (code : Nat) : Nat × Nat :=
  match e.overrides.find? (fun x => x.1 == code) with
  | some x => x.2
  | none => tget (64, 100) e.areas (code / 4096)

/-- The tokens a code's bucket holds. -/
def evTokens (e : Evr) (code : Nat) : Nat := (evRate e code).1 - tget 0 e.missing code

/-! ### Arrivals (R374, R376) -/

/-- Case 1 of R374: the newest record folds the event. -/
def foldInto (e : Ev) (rs : List Rec) : Option (List Rec) :=
  match rs.getLast? with
  | some r =>
    if r.opn && r.code == e.code && r.params == e.params && decide (r.rep < 65535) then
      some (rs.dropLast ++ [{ r with rep := r.rep + 1, last := e.tod }])
    else none
  | none => none

/-- A code that never had an event suppressed. -/
def Supp.none : Supp := { count := 0, first := 0, last := 0 }

/-- Case 3 of R374. -/
def suppress (e : Ev) (s : State) : State :=
  setEvr (fun v => { v with
    suppressCnt := v.suppressCnt + 1
    supp := tmod .none v.supp e.code (fun x =>
      { count := satInc32 x.count, first := if x.count == 0 then e.tod else x.first, last := e.tod }) }) s

/-- An event is folded, recorded or suppressed. -/
def evrTake (e : Ev) (fw : Bool) (s : State) : State :=
  match foldInto e s.evr.ring with
  | some rs => setEvr (fun v => { v with ring := rs, foldCnt := v.foldCnt + 1 }) s
  | none =>
    if evExempt e.code then evrWrite e fw s
    else if 0 < evTokens s.evr e.code then
      evrWrite e fw (setEvr (fun v => { v with missing := tmod 0 v.missing e.code (· + 1) }) s)
    else suppress e s

/-- EVR_EVENT_ARRIVAL: the oldest event of the crossing FIFO, or of the firmware queue. The events lost since the last
EVR_INPUT_LOST record are reported before it (R376). -/
def evrEventArrival (fw : Bool) (s : State) : State :=
  if !live s then s
  else match if fw then s.evr.fwQueue else s.evr.hwFifo with
    | [] => s
    | e :: rest =>
      let s := setEvr (fun v => if fw then { v with fwQueue := rest } else { v with hwFifo := rest }) s
      let n := s.evr.lostSince
      evrTake e fw (if n == 0 then s else evrOwn 0x0002 (le 4 n ++ zb 4) (setEvr (fun v => { v with lostSince := 0 }) s))

/-- EVR_SUMMARY_TICK: the newest record closes, and each code with suppressions gets its summary (R375). -/
def evrSummaryTick (s : State) : State :=
  if !live s then s
  else
    let sums := s.evr.supp
    let s := setEvr (fun v => { v with ring := ringClose v.ring, supp := [] }) s
    sums.foldl (fun t x => evrOwn 0x0001 (le 2 x.1 ++ zb 2 ++ le 4 x.2.count ++ le64 x.2.first ++ le64 x.2.last) t) s

/-- EVR_TOKEN_REFILL: a code's bucket gains a token, up to B (R375). -/
def evrTokenRefill (code : Nat) (s : State) : State :=
  if live s then setEvr (fun v => { v with missing := tmod 0 v.missing code (· - 1) }) s else s

/-! ### Forwarding (R378) -/

/-- The codes that their chapters say are forwarded. An alarm's event is when the class taken, its first parameter, is
ALERT or higher (R370); event 0xA001 when its slot's FORWARD flag is set (R392). -/
def evForwards (s : State) (r : Rec) : Bool :=
  let c := r.code
  spans c 0x3001 5 || c == 0x3007 || c == 0x3008 || c == 0x4001 || c == 0x4003 || c == 0x4006 || spans c 0x5003 4 ||
    c == 0x6001 || spans c 0x6003 5 || spans c 0x7002 16 || c == 0xB003 || c == 0xB004 || c == 0xB105 || c == 0xB106 ||
    spans c 0x8001 9 || (spans c 0x9000 0x20 && decide (2 ≤ u8 r.params 0)) || spans c 0x9040 7 || c == 0xA002 ||
    spans c 0xA011 3 || (c == 0xA001 && ((tget none s.cnt.thr (u8 r.params 0)).map (·.forward)).getD false)

/-- The EVENT entry of a record (Table 12-9). Event 0xB004 is posted after the LOST entry of its episode (R309). -/
def postEvent (r : Rec) (s : State) : State :=
  let body := le 2 r.code ++ le 2 r.params.length ++ r.params
  if r.code == 0xB004 && s.hif.nqEpisode.isSome then
    { s with hif := { s.hif with nqAfter := s.hif.nqAfter ++ [{ typ := 2, body := body, phase := false, tod := 0 }] } }
  else notify 2 body s

/-- EVR_FORWARD: the firmware takes the record at cursor 0. -/
def evrForward (s : State) : State :=
  if !fwRuns s then s
  else
    let s := forwardLost 0 s
    match s.evr.ring.find? (fun r => r.seq == s.evr.cur0.seq) with
    | none => s
    | some r =>
      let s := setEvr (fun v => { v with cur0 := { v.cur0 with seq := v.cur0.seq + 1 } }) s
      if evForwards s r then postEvent r s else s

/-! ### Host cursors (R380, R383) -/

/-- A host cursor, 1 or 2. -/
def cursorOf (e : Evr) (c : Nat) : Cursor := if c == 1 then e.cur1 else e.cur2
/-- Replace a host cursor. -/
def setCursor (c : Nat) (x : Cursor) (s : State) : State :=
  setEvr (fun e => if c == 1 then { e with cur1 := x } else { e with cur2 := x }) s

/-- A write of COUNT to EVR_CURc_ADV (R380). -/
def cursorAdvance (c count : Nat) (s : State) : State :=
  let x := cursorOf s.evr c
  cursorsCheck (setCursor c { x with seq := Nat.min (x.seq + count % 65536) s.evr.next } s)

/-- EVR_CURSOR_ADVANCE: host software's write, through the firewall (R379). -/
def evrCursorAdvance (c count : Nat) (s : State) : State :=
  if !live s || c == 0 || 2 < c then s
  else hostWrite (hifAccess (0x20108 + 0x20 * (c - 1)) 4 (cursorAdvance c count)) s

/-! ### Commands (R383, Table 16-6) -/

/-- A value of B and r within R375. -/
def rateOk (b r : Nat) : Bool := decide (b ≤ 1024) && decide (1 ≤ r) && decide (r ≤ 1000)

/-- EVR_THRESH is set; a condition already met does not rise to it. -/
def setThresh (v : Nat) (s : State) : State :=
  let s := setEvr (fun e => { e with thresh := BitVec.ofNat 16 v }) s
  setEvr (fun e => { e with thrSignalled := thrOver e }) s

/-- EVR_CONFIG_SET. -/
def evrConfigSet (c : Cmd) (s : State) : Res :=
  let p := c.payload
  let ar (a : Nat) : Nat × Nat := (u16 p (4 * a), u16 p (4 * a + 2))
  if p.length != 72 || !zeros p 66 6 || !(List.range 16).all (fun a => rateOk (ar a).1 (ar a).2) then fail stInvalid s
  else ok (setThresh (u16 p 64) (setEvr (fun e => { e with
    areas := (List.range 16).foldl (fun t a => tset (64, 100) t a (ar a)) e.areas, missing := [] }) s))

/-- EVR_STATUS_GET. -/
def evrStatusGet (c : Cmd) (s : State) : Res :=
  let e := s.evr
  if !c.payload.isEmpty then fail stInvalid s
  else okWith (le 8 (evrOldest e) ++ le 8 e.next ++ le 8 e.cur0.seq ++ le 8 e.cur1.seq ++ le 8 e.cur2.seq ++
    le64 e.cur0.lostCnt ++ le64 e.cur1.lostCnt ++ le64 e.cur2.lostCnt ++ le64 e.inputLostCnt ++ le64 e.foldCnt ++
    le64 e.suppressCnt ++ le 4 (evrUsed e) ++ le 4 e.overrides.length) s

/-- The codes the chapters define. -/
def evDefined (c : Nat) : Bool :=
  spans c 0x0001 3 || spans c 0x0201 5 || spans c 0x1001 8 || spans c 0x2001 4 || spans c 0x3001 8 ||
    spans c 0x4001 10 || spans c 0x5001 7 || spans c 0x6001 8 || spans c 0x7001 17 || spans c 0x8001 9 ||
    spans c 0x9000 24 || spans c 0x9040 7 || spans c 0xA001 2 || spans c 0xA010 4 || spans c 0xB001 6 ||
    spans c 0xB101 6

/-- An entry of EVR_RATE_SET: the override of a code, whose bucket takes the new B, full (R382). -/
def rateEntry (e : Bytes) (s : State) : Nat × State :=
  let code := u16 e 0
  let b := u16 e 2
  let r := u16 e 4
  let rest := s.evr.overrides.filter (fun x => x.1 != code)
  if u16 e 6 != 0 || evExempt code || !evDefined code then (stInvalid, s)
  else if b == 0xFFFF then
    (stOk, if rest.length == s.evr.overrides.length then s
      else setEvr (fun v => { v with overrides := rest, missing := tset 0 v.missing code 0 }) s)
  else if !rateOk b r then (stInvalid, s)
  else if 64 ≤ rest.length then (stNoRoom, s)
  else (stOk, setEvr (fun v => { v with overrides := rest ++ [(code, b, r)], missing := tset 0 v.missing code 0 }) s)

/-- EVR_RATE_SET. -/
def evrRateSet (d : DmaRead) (c : Cmd) (s : State) : Res := batch 8 4096 rateEntry c d s

/-- EVR_CURSOR_SET. -/
def evrCursorSet (c : Cmd) (s : State) : Res :=
  let p := c.payload
  let n := u8 p 0
  let mode := u8 p 1
  let v := if mode == 0 then evrOldest s.evr else if mode == 1 then s.evr.next else u64 p 8
  if p.length != 16 || !zeros p 2 6 || n == 0 || 2 < n || 2 < mode || (mode == 2 && s.evr.next ≤ v) then fail stInvalid s
  else if v < evrOldest s.evr then fail stNotFound s
  else okWith (le 8 v) (thrCheck (setCursor n { cursorOf s.evr n with seq := v, lost := false } s))

/-! ### Meanings -/

/-- EVR_EVENT_ARRIVAL. -/
def execEvrEventArrival (firmware : Bool) (s : State) : Host.Outcome State Fault Refusal := .next (evrEventArrival firmware s)
/-- EVR_SUMMARY_TICK. -/
def execEvrSummaryTick (s : State) : Host.Outcome State Fault Refusal := .next (evrSummaryTick s)
/-- EVR_TOKEN_REFILL. -/
def execEvrTokenRefill (code : Nat) (s : State) : Host.Outcome State Fault Refusal := .next (evrTokenRefill code s)
/-- EVR_FORWARD. -/
def execEvrForward (s : State) : Host.Outcome State Fault Refusal := .next (evrForward s)
/-- EVR_CURSOR_ADVANCE. -/
def execEvrCursorAdvance (cursor count : Nat) (s : State) : Host.Outcome State Fault Refusal :=
  .next (evrCursorAdvance cursor count s)
/-- EVR_CONFIG_SET (0x0B00). -/
def execEvrConfigSet (mb : Nat) (s : State) : Host.Outcome State Fault Refusal := .next (fcp 0x0B00 mb evrConfigSet s)
/-- EVR_STATUS_GET (0x0B01). -/
def execEvrStatusGet (mb : Nat) (s : State) : Host.Outcome State Fault Refusal := .next (fcp 0x0B01 mb evrStatusGet s)
/-- EVR_RATE_SET (0x0B02). -/
def execEvrRateSet (mb : Nat) (dma : DmaRead) (s : State) : Host.Outcome State Fault Refusal :=
  .next (fcpDma 0x0B02 mb dma evrRateSet s)
/-- EVR_CURSOR_SET (0x0B03). -/
def execEvrCursorSet (mb : Nat) (s : State) : Host.Outcome State Fault Refusal := .next (fcp 0x0B03 mb evrCursorSet s)

end Sys2Proof.Machine
end

