-- ==== Sys2Proof/Machine/HostIf.lean ====
section
/-! DEFINITION. The host interface: mailboxes, the checks of a request, sessions and signatures, the notification queue,
BAR0 faults, SMBus, the device commands (12_host_interface.md, R283 to R310). DEDUCED: log entries 86, 94. DESIGN
CHOICE: log entry 99. -/
namespace Sys2Proof.Machine

/-- Change the host interface. -/
def setHif (f : Hif → Hif) (s : State) : State := { s with hif := f s.hif }

/-! ### Mailboxes (R288 to R291) -/

/-- A mailbox that BAR0 reaches: MB0 to MB7 out of reset, MB_MTR while its meter has power (R2, R409). -/
def mbThere (mb : Nat) (s : State) : Bool :=
  live s && (decide (mb < 8) || (mb == 8 && s.boot.meterFuse && s.mtr.powered))

/-- The agent behind a mailbox is at work: the device's out of reset, or the meter, which no reset of the device stops (R402). -/
def mbAlive (mb : Nat) (s : State) : Bool :=
  if mb == 8 then s.boot.meterFuse && s.mtr.powered else live s && decide (mb < 8)

/-- Change a mailbox. -/
def modMb (mb : Nat) (f : Mailbox → Mailbox) (s : State) : State := setMb mb (f (getMb s mb)) s

/-- RING: an IDLE mailbox becomes POSTED with the tag of its request header; any other is OVERRUN (Table 12-5). -/
def mbRing (mb : Nat) (s : State) : State :=
  if !mbThere mb s then s
  else
    let m := getMb s mb
    let s := if mb == 8 then s else occur 1 3 0 1 s
    if m.st == .idle then
      let s := setMb mb { m with st := .posted, tag := BitVec.ofNat 16 (leNat (bufRead m.req 4 2)), expired := false } s
      if mb == 8 then s else setHif (fun h => { h with ringOrder := h.ringOrder ++ [mb] }) s
    else setMb mb { m with overrun := true } s

/-- ABORT: a POSTED request is withdrawn. -/
def mbAbort (mb : Nat) (s : State) : State :=
  if mbThere mb s && (getMb s mb).st == .posted then
    setHif (fun h => { h with ringOrder := h.ringOrder.erase mb }) (modMb mb (fun m => { m with st := .idle }) s)
  else s

/-- RELEASE: a DONE mailbox becomes IDLE. -/
def mbRelease (mb : Nat) (s : State) : State :=
  if mbThere mb s && (getMb s mb).st == .done then modMb mb (fun m => { m with st := .idle }) s else s

/-- A doorbell write with several bits: RING alone if it is among them, else ABORT alone (R289). -/
def mbDoorbell (mb : Nat) (v : W32) (s : State) : State :=
  if bitOf v 0 then mbRing mb s else if bitOf v 1 then mbAbort mb s else if bitOf v 2 then mbRelease mb s else s

/-- A boundary fault: nothing takes effect, it is counted, flagged and recorded (R287). -/
def xbound (addr : Nat) (write : Bool) (s : State) : State :=
  evH 0xB001 (le 4 addr ++ bit8 write)
    (setHif (fun h => { h with xboundCnt := h.xboundCnt + 1, irqStatus := h.irqStatus ||| 0x2000#14 }) s)

/-- The BAR0 offset of a mailbox's request area (Table 12-2; R409). -/
def reqBase (mb : Nat) : Nat := if mb == 8 then 0x81000 else 0x1000 + 0x2000 * mb

/-- A write of the request area: discarded with OVERRUN outside IDLE and DONE (R291). -/
def mbRequestWrite (mb offset : Nat) (data : Bytes) (s : State) : State :=
  if !live s || 8 < mb || data.isEmpty || 4096 ≤ offset || 128 < data.length then s
  else if 4096 < offset + data.length then xbound (reqBase mb + offset) true s
  else if !mbThere mb s then s
  else modMb mb (fun m => if m.st == .idle || m.st == .done then { m with req := bufWrite m.req offset data }
    else { m with overrun := true }) s

/-- MB_WATCHDOG: TIMEOUT_MS since RING (R290). -/
def mbWatchdog (mb : Nat) (s : State) : State :=
  let m := getMb s mb
  if !mbAlive mb s || m.timeoutMs == 0 then s
  else match m.st with
    | .posted => mbTimeout mb 0 (setHif (fun h => { h with ringOrder := h.ringOrder.erase mb }) s)
    | .executing =>
      if mb == 8 then s
      else if s.boot.agent == 3 then
        mbTimeout mb 0xFFFFFFFF (setHif (fun h => { h with cmds := h.cmds.filter (fun c => c.mb != mb || c.discard) }) s)
      else setMb mb { m with expired := true } s
    | _ => s

/-! ### The opcode table (Table 12-15) and what a command needs -/

/-- Roles: 0 OPERATOR or MB_MTR, 1 OWNER, 2 METROLOGY; none for an opcode not listed. -/
def opRole (op : Nat) : Option Nat :=
  let within (a b : Nat) : Bool := decide (a ≤ op) && decide (op ≤ b)
  if op == 0x040D || op == 0x040E || within 0x0801 0x0802 || within 0x0820 0x0822 || within 0x0902 0x0903 || op == 0x0911 then
    some 1
  else if op == 0x0C10 then some 2
  else if within 0x0000 0x0003 || within 0x0010 0x0013 || within 0x0100 0x0104 || within 0x0200 0x0208 ||
    within 0x0300 0x030F || within 0x0400 0x040C || within 0x0420 0x0421 || within 0x0500 0x0507 || within 0x0510 0x0512 ||
    within 0x0520 0x0522 || within 0x0600 0x0604 || within 0x0610 0x0614 || within 0x0700 0x0707 || within 0x0710 0x0713 ||
    op == 0x0800 || within 0x0810 0x0813 || op == 0x0823 || within 0x0900 0x0901 || op == 0x0904 || op == 0x0910 ||
    within 0x0A00 0x0A03 || within 0x0A10 0x0A11 || within 0x0B00 0x0B03 || within 0x0C00 0x0C03 || op == 0x0C11 then some 0
  else none

/-- The commands the recovery agent accepts, and those it accepts in RETIRED (R338). -/
def recoveryOk (retired : Bool) (op : Nat) : Bool :=
  if retired then [0x0000, 0x0001, 0x0002, 0x0003, 0x0600, 0x0800, 0x0823].contains op
  else [0x0000, 0x0001, 0x0002, 0x0003, 0x0600, 0x0800, 0x0801, 0x0802, 0x0810, 0x0813, 0x0820, 0x0821, 0x0822, 0x0823,
        0x0900, 0x0910, 0x0911].contains op

/-! ### Signatures and the lockout (R297, R298) -/

/-- A signature of a scheme over M verifies under a key block; scheme 3 carries both, ECDSA first. -/
def sigOk (scheme : Nat) (key msg sig : Bytes) : Bool := match scheme with
  | 1 => verify 1 key msg sig
  | 2 => verify 2 key msg sig
  | 3 => verify 1 (key.take 97) msg (sig.take 96) && verify 2 (key.drop 97) msg (sig.drop 96)
  | _ => false

/-- A request as its header and payload spell it (12_host_interface.md, FCP envelope). -/
structure Request where
  header : Bytes
  payload : Bytes
  deriving DecidableEq, Repr

/-- The signature length of the trailer. -/
def trailerLen (p : Bytes) : Nat := u16 p (p.length - 8)
/-- The command's own payload: what precedes the signature and the trailer (R297). -/
def ownPayload (p : Bytes) : Bytes := p.take (p.length - 16 - trailerLen p)

/-- The key and scheme that judge a request: the authority's, the claim's own, or the owner's (R297, R342, R412). -/
def judge (meter : Bool) (op : Nat) (own claimKey : Bytes) (s : State) : Option (Nat × Bytes) :=
  if meter then
    (if nbit (u8 own 6) 0 then some (1, sub own 16 97) else s.mtr.authority.map (fun k => (1, k)))
  else if op == 0x0801 && s.boot.lc == 1 && u8 own 0 == 2 then some (u8 own 1, claimKey)
  else if s.boot.ownerScheme == 0 then none else some (s.boot.ownerScheme, s.boot.ownerKey)

/-- The trailer and the signature hold (R297). A change of the bindings of an UNCLAIMED meter has no key to be judged by:
it goes on to the check that refuses it, under scheme 1 as every signature of an authority (R409, R412; log entry 44). -/
def authOk (meter : Bool) (op : Nat) (q : Request) (nonce : Option W64) (claimKey : Bytes) (s : State) : Bool :=
  let p := q.payload
  let l := p.length
  let n := trailerLen p
  let own := ownPayload p
  let scheme := u8 p (l - 6)
  let t := p.drop (l - 16)
  decide (16 + n ≤ l) && zeros p (l - 5) 5 && decide (1 ≤ scheme) && decide (scheme ≤ 3) &&
    n == (if scheme == 3 then sigLen 1 + sigLen 2 else sigLen scheme) && nonce == some (BitVec.ofNat 64 (u64 p (l - 16))) &&
    match judge meter op own claimKey s with
    | some (k, key) => scheme == k &&
        sigOk scheme key (ascii "PK3200-FCP-AUTH" ++ le64 s.boot.serial ++ q.header ++ own ++ t) (sub p (l - 16 - n) n)
    | none => meter && scheme == 1

/-- A failed verification: counted, recorded, and the eighth in a row starts the lockout (R298). -/
def authFailed (session op mb : Nat) (s : State) : State :=
  let s := evF 0xB002 (le 4 session ++ le 2 op ++ le 1 mb) (setHif (fun h => { h with
    authFailCnt := h.authFailCnt + 1, authRun := if h.authRun + 1 == 8 then 0 else h.authRun + 1
    lockout := h.lockout || h.authRun + 1 == 8 }) s)
  if s.hif.authRun == 0 then evF 0xB003 [] s else s

/-- The same on MB_MTR, with the meter's own counters (R298, R409). -/
def meterAuthFailed (s : State) : State :=
  { s with mtr := { s.mtr with
      authFail := s.mtr.authFail + 1, authRun := if s.mtr.authRun + 1 == 8 then 0 else s.mtr.authRun + 1
      lockout := s.mtr.lockout || s.mtr.authRun + 1 == 8 } }

/-- The session's nonce, taken: the next AUTH command consumes it (R298). -/
def nonceTake (meter : Bool) (session : Nat) (s : State) : Option W64 × State :=
  if meter then (s.mtr.nonce, { s with mtr := { s.mtr with nonce := none } })
  else ((s.hif.sessions.find? (fun x => x.id == session)).bind (·.nonce),
    setHif (fun h => { h with sessions := h.sessions.map (fun x => if x.id == session then { x with nonce := none } else x) }) s)

/-- Check 8 with AUTH: stOk or DENIED, and what follows from it; a verified signature resets the run of failures (R298). -/
def authCheck (meter : Bool) (mb op session : Nat) (q : Request) (claimKey : Bytes) (s : State) : Nat × State :=
  let r := nonceTake meter session s
  let s := r.2
  if if meter then s.mtr.lockout else s.hif.lockout then (stLocked, s)
  else if authOk meter op q r.1 claimKey s then
    (stOk, if (judge meter op (ownPayload q.payload) claimKey s).isNone then s
      else if meter then { s with mtr := { s.mtr with authRun := 0 } } else setHif (fun h => { h with authRun := 0 }) s)
  else (stDenied, if meter then meterAuthFailed s else authFailed session op mb s)

/-! ### Taking a request (R292, R295) -/

/-- Checks 1 to 5 of Table 12-6, and check 6 (R292, R409): a status, or the role. -/
def headChecks (meter : Bool) (q : Request) (s : State) : Except Nat Nat :=
  let op := u16 q.header 0
  let flags := u16 q.header 2
  let session := u32 q.header 8
  if 4080 < u16 q.header 6 then .error stInvalid
  else if 15 < flags || !zeros q.header 12 4 then .error stInvalid
  else if (op / 256 == 0x0C) != meter then .error stDenied
  else match opRole op with
    | none => .error stUnsupported
    | some role =>
      let open' := if meter then session == 0 else s.hif.sessions.any (fun x => x.id == session) ||
        (session == 0 && (op == 0x0000 || op == 0x0001))
      if !open' then .error stDenied
      else if nbit flags 2 && role == 0 then .error stInvalid
      else .ok role

/-- A command whose own layout holds a host address needs DMA: an owner claim for its key block, GCL_GET for a list of more than 506
entries (R233), the others always. -/
def dmaNeeded (op : Nat) (p : Bytes) (s : State) : Bool :=
  let g := tget .reset s.gates (u8 p 0)
  if op == 0x0801 then u32 p 4 != 0
  else if op == 0x0521 then ((if u8 p 1 == 0 then g.oper else g.pend).map (fun l => decide (506 < l.entries.length))).getD false
  else dmaOwn op

/-- Checks 9 and 10 of Table 12-6. -/
def tailChecks (meter busMaster : Bool) (q : Request) (s : State) : Nat :=
  let op := u16 q.header 0
  let dma := nbit (u16 q.header 2) 3
  if dma && (meter || !(dmaFlagOk op || dmaOwn op)) then stInvalid
  else if !busMaster && !meter && ((dma && dmaFlagOk op) || dmaNeeded op q.payload s) then stWrongState
  else if !meter && s.boot.agent == 1 && !recoveryOk (s.boot.lc == 4) op then stWrongState
  else stOk

/-- The command of a request, as the agent takes it. -/
def cmdFrom (mb : Nat) (q : Request) (claimKey : Bytes) : Cmd :=
  { mb := mb, opcode := u16 q.header 0, flags := u16 q.header 2, tag := u16 q.header 4, session := u32 q.header 8,
    payload := if nbit (u16 q.header 2) 2 then ownPayload q.payload else q.payload, claim := claimKey, discard := false,
    wait := .none }

/-- All the request checks of Table 12-6: the first that fails gives the status. -/
def requestChecks (mb : Nat) (busMaster : Bool) (claimKey : Bytes) (q : Request) (s : State) : Nat × State :=
  let meter := mb == 8
  match headChecks meter q s with
  | .error st => (st, s)
  | .ok role =>
    let auth := nbit (u16 q.header 2) 2
    let r := if role == 0 then (stOk, s) else if !auth then (stDenied, s)
      else authCheck meter mb (u16 q.header 0) (u32 q.header 8) q claimKey s
    if r.1 != stOk then r else (tailChecks meter busMaster q r.2, r.2)

/-- Take a POSTED mailbox: its request area is frozen, the request checked, and the command begun or answered. -/
def takeMb (mb : Nat) (busMaster : Bool) (claimKey : Bytes) (s : State) : State :=
  let m := getMb s mb
  let header := bufRead m.req 0 16
  let q : Request := { header := header, payload := bufRead m.req 16 (Nat.min (u16 header 6) 4080) }
  let s := setMb mb { m with st := .executing } (setHif (fun h => { h with ringOrder := h.ringOrder.erase mb, dmaOut := [] }) s)
  let r := requestChecks mb busMaster claimKey q s
  let c := cmdFrom mb q (if s.boot.lc == 1 then claimKey else [])
  if r.1 == stOk then setHif (fun h => { h with cmds := h.cmds ++ [c] }) r.2
  else finish c ⟨r.1, 0, []⟩ r.2

/-- MB_TAKE: the agent takes the oldest POSTED request, one command at a time; the meter takes its own (R295, R402). -/
def mbTake (meter busMaster : Bool) (claimKey : Bytes) (s : State) : State :=
  if meter then
    (if mbAlive 8 s && s.mtr.mb.st == .posted then takeMb 8 busMaster claimKey s else s)
  else if !serving s || s.hif.cmds.any (fun c => c.mb != 8 && c.wait == Wait.none) then s
  else match s.hif.ringOrder with
    | [] => s
    | mb :: _ => takeMb mb busMaster claimKey s

/-! ### Resets of the host interface (R284) -/

/-- What a reset of the host interface leaves of it: its counters and HIF_SMB_ADDR stay, MB_MTR is not touched, running
commands complete unseen, discarded notifications are counted (R284). -/
def hifCleared (h : Hif) : Hif :=
  let mbs : Tab Mailbox := h.mbs.foldl (fun t e =>
    tset .reset t e.1 { Mailbox.reset with req := e.2.req, resp := e.2.resp }) []
  { Hif.reset with
    xboundCnt := h.xboundCnt, smbAddr := h.smbAddr, smbLock := h.smbLock, authFailCnt := h.authFailCnt
    nqLostCnt := h.nqLostCnt + BitVec.ofNat 64 (h.backlog.length + h.nqAfter.length), msix := h.msix, nqRing := h.nqRing, authRun := h.authRun
    lockout := h.lockout, mbs := mbs, cmds := h.cmds.map (fun c => if c.mb == 8 then c else { c with discard := true })
    deferred := h.deferred.map (fun d => { d with closed := true }), readData := h.readData, nqHeld := h.nqHeld, nextDeferred := h.nextDeferred
    dmaOut := h.dmaOut, smbPower := h.smbPower
    smbUptime := h.smbUptime, smbPorts := h.smbPorts, smbFw := h.smbFw, smbLife := h.smbLife, smbData := h.smbData, smbPec := h.smbPec }

/-- HIF_RESET: the host interface alone is reset, with event 0xB006 (R284). -/
def hifReset (cause : HifResetCause) (s : State) : State :=
  if !live s then s
  else evH 0xB006 (le 1 (match cause with
    | .flr => 0
    | .hot => 1
    | .perst => 2)) { s with hif := hifCleared s.hif }

/-! ### BAR0 (R286, R287) -/

/-- A BAR0 access of 1 to 128 bytes is a boundary fault: it crosses a 4 KiB block, or is no aligned 32-bit access to the
HIF registers or the summary (R286, R287). -/
def barFault (addr size : Nat) : Bool :=
  decide (1 ≤ size) && decide (size ≤ 128) && decide (addr + size ≤ 0x100000) &&
    (addr / 4096 != (addr + size - 1) / 4096 ||
      ((addr / 4096 == 0 || addr / 4096 == 0x40) && (size != 4 || addr % 4 != 0)))

/-- BAR0_BOUNDARY_FAULT. -/
def bar0BoundaryFault (addr size : Nat) (write : Bool) (s : State) : State :=
  if live s && barFault addr size then xbound addr write (barSeen write s) else s

/-! ### The notification queue (R301, R303) -/

/-- What a write of HIF_NQ_CTRL sets (Table 12-3, R301). -/
def nqCtrl (v : W32) (h : Hif) : Hif :=
  let h := { h with coalCount := BitVec.ofNat 8 (fld v 8 8), coalUs := BitVec.ofNat 16 (fld v 16 16) }
  let h := if h.nqEnable then h else { h with nqSize := BitVec.ofNat 5 (fld v 1 5) }
  if bitOf v 0 && !h.nqEnable then
    { h with nqEnable := true, nqTail := 0, nqPhase := true, nqRing := [] }
  else { h with nqEnable := bitOf v 0 }

/-- NQ_ENABLE_WRITE: a write of HIF_NQ_CTRL; with the queue enabled, what was held for it joins the backlog (R310). -/
def nqEnableWrite (v : W32) (s : State) : State :=
  if !live s then s
  else
    let s := setHif (nqCtrl v) s
    if s.hif.nqEnable then s.hif.nqHeld.foldl (fun t n => nqWaits n t) (setHif (fun h => { h with nqHeld := [] }) s) else s

/-- NQ_HEAD_WRITE. -/
def nqHeadWrite (v : W32) (s : State) : State :=
  if live s then setHif (fun h => { h with nqHead := BitVec.ofNat 16 (fld v 0 16) }) s else s

/-- Post entries in order while there is room: those left over. -/
def nqPostAll : List Notice → State → List Notice × State
  | [], s => ([], s)
  | e :: es, s => if nqRoom s.hif then nqPostAll es (nqWrite e.typ e.body s) else (e :: es, s)

/-- NQ_BACKLOG_POST: the LOST entry of an episode and what belongs behind it, then the backlog (R303). -/
def nqBacklogPost (s : State) : State :=
  if !(serving s && nqRoom s.hif) then s
  else
    let s := match s.hif.nqEpisode with
      | none => s
      | some (n, t) => setHif (fun h => { h with nqEpisode := none }) (nqWrite 6 (le 4 n ++ zb 4 ++ le64 t) s)
    let a := nqPostAll s.hif.nqAfter s
    let b := nqPostAll s.hif.backlog a.2
    setHif (fun h => { h with nqAfter := a.1, backlog := b.1 }) b.2

/-- NQ_COALESCE_TIMER: COAL_US after the first unsignalled entry (R301). -/
def nqCoalesceTimer (s : State) : State :=
  if live s && s.hif.coalUs != 0 && s.hif.nqUnsig != 0 then nqSignal s else s

/-! ### Nonces and the lockout (R298) -/

/-- NONCE_EXPIRY: 60 s after the draw; session 0 is the meter's, which no reset of the device stops (R402, R409). -/
def nonceExpiry (session : Nat) (s : State) : State :=
  if session == 0 || live s then (nonceTake (session == 0) session s).2 else s

/-- AUTH_LOCKOUT_END. -/
def authLockoutEnd (meter : Bool) (s : State) : State :=
  if meter then { s with mtr := { s.mtr with lockout := false } }
  else if live s then setHif (fun h => { h with lockout := false }) s else s

/-! ### SMBus (R306) -/

/-- The hottest of the eight junction sensors, a 16-bit pattern (Table 12-11). -/
def sumTemp (s : State) : Int :=
  (List.range 8).foldl (fun m i => max m (tget 0 s.tamper.sensors i).toInt) (tget 0 s.tamper.sensors 0).toInt

/-- What a code of Table 12-12 answers, none for an unknown one. -/
def smbusContent (code : Nat) (s : State) : Option Bytes :=
  let b := s.boot
  let fw (n : Nat) (bs : Bytes) : Option Bytes := some (if b.agent == 2 then pad n bs else zb n)
  match code with
  | 0x00 => fw 8 (le 2 0x3200 ++ le 1 1 ++ le 1 (mask [b.meterFuse, b.gradeE]) ++ le 4 b.serial.toNat)
  | 0x01 => some (le 1 (b.lcView % 8 + 8 * b2n b.zeroized + 16 * b2n s.km.muzzled + 32 * b.agent +
      128 * b2n (s.tamper.active != 0)))
  | 0x02 => some (leInt 2 (sumTemp s))
  | 0x03 => fw 2 (le 2 s.hif.smbPower.toNat)
  | 0x04 => some (le 4 s.tamper.active.toNat ++ le 4 s.tamper.latched.toNat ++ le 4 s.tamper.severity)
  | 0x05 => fw 9 s.hif.smbPorts
  | 0x06 => fw 8 s.hif.smbFw
  | 0x07 => fw 8 (le64 s.hif.smbUptime)
  | 0x08 => fw 2 s.hif.smbLife
  | _ => none

/-- The PEC over the bytes of a transaction: CRC-8 of x^8 + x^2 + x + 1 (SMBus 3.1, R306; log entry 127). -/
def smbCrc (bs : Bytes) : Byte :=
  bs.foldl (fun c b => (List.range 8).foldl (fun c _ => if c.msb then (c <<< 1) ^^^ 0x07#8 else c <<< 1) (c ^^^ b)) 0#8

/-- The codes read by Block Read, whose data follow a byte count (Table 12-12). -/
def smbBlock (code : Nat) : Bool := code == 0 || spans code 4 4

/-- The bytes of a read transaction: address and write bit, code, address and read bit, the count of a Block Read, data. -/
def smbBytes (addr : BitVec 7) (code : Nat) (data : Bytes) : Bytes :=
  [BitVec.ofNat 8 (2 * addr.toNat), BitVec.ofNat 8 code, BitVec.ofNat 8 (2 * addr.toNat + 1)] ++
    (if smbBlock code then le 1 data.length else []) ++ data

/-- SMBUS_READ: only a transaction to HIF_SMB_ADDR is the target's; a controller that reads one byte beyond the data gets
the PEC (R306). -/
def smbusRead (target code : Nat) (pec : Bool) (s : State) : State :=
  if !live s || target != s.hif.smbAddr.toNat then s
  else
    let d := smbusContent code s
    setHif (fun h => { h with
      smbData := d, smbPec := if pec then d.map (fun x => smbCrc (smbBytes h.smbAddr code x)) else none }) s

/-- A NACK, or an interface that was reset: nothing is answered. -/
def smbusNone (s : State) : State := setHif (fun h => { h with smbData := none, smbPec := none }) s

/-- SMBUS_WRITE: NACKed at the command byte or at the first data byte (R306). -/
def smbusWrite (target : Nat) (s : State) : State :=
  if live s && target == s.hif.smbAddr.toNat then smbusNone s else s

/-- SMBUS_SCL_TIMEOUT: the interface is reset (R306). -/
def smbusTimeout (s : State) : State := if live s then smbusNone s else s

/-- The 9 bytes of SMB_PORTS. -/
def upBytes (s : State) : Bytes :=
  let up (p : Nat) : Bool := (port s p).st == .up
  le 4 (mask ((List.range 32).map up)) ++ le 4 (mask ((List.range 32).map (fun i => up (32 + i)))) ++ le 1 (b2n (up 64))

/-- SMBUS_REFRESH: the codes the firmware serves, every 10 ms; power estimate and uptime are measured (R306). -/
def smbusRefresh (power uptime : Nat) (s : State) : State :=
  if fwRuns s then setHif (fun h => { h with
    smbPower := BitVec.ofNat 16 power, smbUptime := BitVec.ofNat 64 uptime, smbPorts := upBytes s
    smbFw := le 4 s.boot.running.version ++ le 1 (s.boot.running.image.getD 0xFF) ++ zb 3, smbLife := le 2 s.cnt.days }) s
  else s

/-! ### Device commands (R307) -/

/-- DEV_INFO_GET (Table 12-14). -/
def devInfoGet (c : Cmd) (s : State) : Res :=
  let b := s.boot
  if !c.payload.isEmpty then fail stInvalid s
  else okWith (le 2 0x3200 ++ le 1 1 ++ le 1 (mask [b.meterFuse, b.gradeE]) ++ le 1 b.lcView ++
    le 1 (mask [b.zeroized, s.km.muzzled]) ++ le 1 b.agent ++ zb 1 ++ le64 b.serial ++ le 4 b.running.version ++
    le 1 (b.running.image.getD 0xFF) ++ zb 3 ++ pad 48 b.running.digest ++ le 8 Config.lpddrSize) s

/-- A session number that is neither 0 nor open; which, the spec does not state (log entry 42). -/
def sessionNew (s : State) : Nat × State :=
  let r := drawFree 42 s
  let v := r.1.toNat % 2 ^ 32
  ((((List.range 18).map (fun i => (v + i) % 2 ^ 32)).find? (fun x =>
    x != 0 && !s.hif.sessions.any (fun y => y.id == x))).getD 1, r.2)

/-- DEV_SESSION_OPEN. -/
def devSessionOpen (c : Cmd) (s : State) : Res :=
  if !c.payload.isEmpty then fail stInvalid s
  else if 16 ≤ s.hif.sessions.length then fail stNoRoom s
  else
    let r := sessionNew s
    okWith (le 4 r.1 ++ zb 4) (setHif (fun h => { h with sessions := h.sessions ++ [⟨r.1, none⟩] }) r.2)

/-- DEV_SESSION_CLOSE. -/
def devSessionClose (c : Cmd) (s : State) : Res :=
  if !c.payload.isEmpty then fail stInvalid s
  else ok (setHif (fun h => { h with sessions := h.sessions.filter (fun x => x.id != c.session) }) s)

/-- DEV_NONCE_GET: drawn from the DRBG, in place of any earlier one (R298). -/
def devNonceGet (c : Cmd) (s : State) : Res :=
  if !c.payload.isEmpty then fail stInvalid s
  else
    let r := drawBytes 8 s
    okWith (r.1 ++ le 4 60000 ++ zb 4) (setHif (fun h => { h with sessions := h.sessions.map (fun x =>
      if x.id == c.session then { x with nonce := some (BitVec.ofNat 64 (leNat r.1)) } else x) }) r.2)

/-! ### The meanings -/

def execMbRing (mb : Nat) (s : State) : Host.Outcome State Fault Refusal := .next (hostWrite (mbRing mb) s)
def execMbAbort (mb : Nat) (s : State) : Host.Outcome State Fault Refusal := .next (hostWrite (mbAbort mb) s)
def execMbRelease (mb : Nat) (s : State) : Host.Outcome State Fault Refusal := .next (hostWrite (mbRelease mb) s)
def execMbRequestWrite (mb offset : Nat) (data : Bytes) (s : State) : Host.Outcome State Fault Refusal :=
  .next (hostWrite (mbRequestWrite mb offset data) s)
def execMbTake (meter busMaster : Bool) (claimKey : Bytes) (s : State) : Host.Outcome State Fault Refusal :=
  .next (mbTake meter busMaster claimKey s)
def execMbWatchdog (mb : Nat) (s : State) : Host.Outcome State Fault Refusal := .next (mbWatchdog mb s)
def execHifReset (cause : HifResetCause) (s : State) : Host.Outcome State Fault Refusal := .next (hifReset cause s)
def execBar0BoundaryFault (addr size : Nat) (write : Bool) (s : State) : Host.Outcome State Fault Refusal :=
  .next (bar0BoundaryFault addr size write s)
def execNqEnableWrite (value : W32) (s : State) : Host.Outcome State Fault Refusal := .next (hostWrite (nqEnableWrite value) s)
def execNqHeadWrite (value : W32) (s : State) : Host.Outcome State Fault Refusal := .next (hostWrite (nqHeadWrite value) s)
def execNqBacklogPost (s : State) : Host.Outcome State Fault Refusal := .next (nqBacklogPost s)
def execNqCoalesceTimer (s : State) : Host.Outcome State Fault Refusal := .next (nqCoalesceTimer s)
def execNonceExpiry (session : Nat) (s : State) : Host.Outcome State Fault Refusal := .next (nonceExpiry session s)
def execAuthLockoutEnd (meter : Bool) (s : State) : Host.Outcome State Fault Refusal := .next (authLockoutEnd meter s)
def execSmbusRead (target code : Nat) (pec : Bool) (s : State) : Host.Outcome State Fault Refusal :=
  .next (smbusRead target code pec s)
def execSmbusWrite (target _code : Nat) (s : State) : Host.Outcome State Fault Refusal := .next (smbusWrite target s)
def execSmbusSclTimeout (s : State) : Host.Outcome State Fault Refusal := .next (smbusTimeout s)
def execSmbusRefresh (power uptime : Nat) (s : State) : Host.Outcome State Fault Refusal :=
  .next (smbusRefresh power uptime s)
def execDevInfoGet (mb : Nat) (s : State) : Host.Outcome State Fault Refusal := .next (fcp 0x0000 mb devInfoGet s)
def execDevSessionOpen (mb : Nat) (s : State) : Host.Outcome State Fault Refusal := .next (fcp 0x0001 mb devSessionOpen s)
def execDevSessionClose (mb : Nat) (s : State) : Host.Outcome State Fault Refusal :=
  .next (fcp 0x0002 mb devSessionClose s)
def execDevNonceGet (mb : Nat) (s : State) : Host.Outcome State Fault Refusal := .next (fcp 0x0003 mb devNonceGet s)

end Sys2Proof.Machine
end

