-- ==== Sys2Proof/Machine/IdOps.lean ====
section
/-! DEFINITION. Identity: the keys a request names, their signatures, the certificates, the attestation quote
(14_boot_lifecycle.md, R343 to R345). -/
namespace Sys2Proof.Machine

/-- The key pair of an identity slot (Table 14-8). -/
def idKey (s : State) (slot : Nat) : Option (Bytes × Bytes) := tget none s.boot.ids slot
/-- The certificate of an identity slot (R344). -/
def certOf (s : State) (slot : Nat) : Option Bytes := tget none s.boot.certs slot
/-- The slots a request's key and scheme name: IDevID or LDevID; 1 ECDSA, 2 ML-DSA, 3 both (Table 14-8). -/
def idSlots (ldev : Bool) (scheme : Nat) : List Nat :=
  let b := if ldev then 2 else 0
  match scheme with
  | 1 => [b] | 2 => [b + 1] | _ => [b, b + 1]
/-- Key LDevID is named and a slot it takes has no certificate (R352). -/
def noLdev (s : State) (ldev : Bool) (scheme : Nat) : Bool :=
  ldev && (idSlots ldev scheme).any (fun i => (certOf s i).isNone)

/-- A key of a scheme verifies a signature; of scheme 3 either component can (R344). -/
def signedBy (scheme : Nat) (key msg sig : Bytes) : Bool := match scheme with
  | 1 => verify 1 key msg sig
  | 2 => verify 2 key msg sig
  | 3 => verify 1 (key.take 97) msg sig || verify 2 (key.drop 97) msg sig
  | _ => false

/-- The signature length of a scheme (Table 12-7). -/
def sigBytes (scheme : Nat) : Nat := if scheme == 3 then sigLen 1 + sigLen 2 else sigLen scheme

/-- Sign with the identity keys a request names; scheme 3 is ECDSA, then ML-DSA (R345). -/
def idSign (ldev : Bool) (scheme : Nat) (msg : Bytes) (s : State) : Bytes :=
  (idSlots ldev scheme).flatMap (fun i =>
    pad (sigLen (i % 2 + 1)) (Config.sign (i % 2 + 1) (((idKey s i).map (·.1)).getD []) msg))

/-- The owner digest: SHA-384 of the scheme byte and the key block, zero before the claim (R342). -/
def ownerDigest (s : State) : Bytes := if s.boot.ownerScheme == 0 then zb 48 else pad 48 s.boot.ownerDigest

/-- The measurement registers, in order (R337). -/
def measAll (s : State) : Bytes := (List.range 8).flatMap (fun i => pad 48 (tget [] s.boot.meas i))

/-- The image byte: 0 A, 1 B, 0xFF none. -/
def imageByte (s : State) : Bytes := le 1 (s.boot.running.image.getD 0xFF)

/-- Bytes 0 to 495 of the attestation quote (Table 14-9). -/
def quoteHead (nonce : Bytes) (scheme : Nat) (ldev : Bool) (s : State) : Bytes :=
  let b := s.boot
  le 4 0x51540001 ++ le 1 b.lc ++ le 1 (mask [b.zeroized, s.km.muzzled, ldev, b.running.trial]) ++ le 1 b.agent ++
    le 1 s.prot.highest ++ le64 b.serial ++ le 4 b.running.version ++ le 4 b.running.svn ++ le 4 b.svn ++ imageByte s ++
    zb 3 ++ le64 s.tsu.ns ++ le64 b.bbram.counter ++ zb 16 ++ pad 32 nonce ++ measAll s ++ le 2 (sigBytes scheme) ++
    le 1 scheme ++ zb 13

/-- The quote: signed over "PK3200-QUOTE" and bytes 0 to 495 (R345). -/
def quote (nonce : Bytes) (scheme : Nat) (ldev : Bool) (s : State) : Bytes :=
  quoteHead nonce scheme ldev s ++ idSign ldev scheme (ascii "PK3200-QUOTE" ++ quoteHead nonce scheme ldev s) s

end Sys2Proof.Machine
end

