-- ==== Sys2Proof/Machine/KeyCmds.lean ====
section
/-! DEFINITION. The KEY_*, BLOB_* and PKE_* commands (07_key_manager.md, Tables 7-12 to 7-16, R180, R181, R185,
R186). DEDUCED: log entries 78, 79. -/
namespace Sys2Proof.Machine

/-- Every command of Table 7-14 returns WRONG_STATE then (R185). -/
def kmBad (s : State) : Bool := lcBad s || s.km.muzzled

/-! ### Key sources -/

/-- Field checks common to KEY_LOAD and KEY_GENERATE (Table 7-15). -/
def keyArgs (p : Bytes) : Bool :=
  u32 p 0 < 131072 && u32 p 4 < 16777216 && 1 ≤ u8 p 8 && u8 p 8 ≤ 4 && u8 p 9 < 8 && (nbit (u8 p 9) 1 || nbit (u8 p 9) 2)

/-- The wrap a key source makes through the staging registers: the material enters them
with its source, the wrap takes it from there, and they end zeroised (R175, R176). -/
def keyWrap (p key salt : Bytes) (source : Nat) (s : State) : Res :=
  let sah := u32 p 0
  let s := stgLoad source key salt s
  let s := setStg (fun g => { g with
    suite := BitVec.ofNat 3 (u8 p 8), saltValid := isXpn (u8 p 8), usage := BitVec.ofNat 2 (u8 p 9 / 2)
    target := BitVec.ofNat 17 sah, lineage := BitVec.ofNat 24 (u32 p 4) }) s
  let s := wrapBlob sah (stgMat s.km.stg) s
  let gen := (keyOf s sah).gen
  okWith (le 4 sah ++ le 2 gen.toNat ++ zb 2)
    (setStg (fun g => { stgZero g with doneBit := true, code := 0, gen := gen }) s)

/-- KEY_LOAD (R186). It uses the staging registers once a WRAP in progress has ended. -/
def keyLoad (c : Cmd) (s : State) : Res :=
  let p := c.payload
  let slot := u16 p 10
  if kmBad s then fail stWrongState s
  else if p.length != 96 || !keyArgs p || slot < 0x1000 || 0x2FFF < slot || !zeros p 24 8 then fail stInvalid s
  else match tget none s.km.sym slot with
    | none => fail stNotFound s
    | some t =>
      let u := wrapCompleted s
      let st := wrapStatus (u32 p 0) (u32 p 4) (nbit (u8 p 9) 0) u
      if t.purpose != 2 then fail stNotFound s
      else if st != stOk then fail st s
      else match sivOpen t.key (sub p 12 12) (p.take 12) (sub p 32 48) (sub p 80 16) with
        | none => fail stIntegrity s
        | some plain =>
          let kl := suiteKey (u8 p 8)
          if !zeros plain kl (32 - kl) || !zeros plain 44 4 then fail stIntegrity s
          else if isXpn (u8 p 8) == zeros plain 32 12 then fail stInvalid s
          else keyWrap p (plain.take kl) (if isXpn (u8 p 8) then sub plain 32 12 else []) 2 u

/-- KEY_GENERATE: key and salt come from the DRBG (R175, R186). It uses the staging registers once a WRAP in progress has
ended. -/
def keyGenerate (c : Cmd) (s : State) : Res :=
  let p := c.payload
  if kmBad s then fail stWrongState s
  else if p.length != 24 || !keyArgs p || !zeros p 10 14 then fail stInvalid s
  else
    let u := wrapCompleted s
    let st := wrapStatus (u32 p 0) (u32 p 4) (nbit (u8 p 9) 0) u
    if st != stOk then fail st s
    else
      let k := drawBytes (suiteKey (u8 p 8)) u
      let t := if isXpn (u8 p 8) then drawBytes 12 k.2 else ([], k.2)
      keyWrap p k.1 t.1 3 t.2

/-! ### Blobs -/

/-- The blobs of a list of SAHs whose key state is PRESENT or BLOCKED, in SAH order (R186). -/
def blobsOf (s : State) (first n : Nat) : List Bytes :=
  s.km.keys.filterMap (fun e =>
    if first ≤ e.1 && e.1 < first + n && e.2.st != .absent then some (blobAt s e.1) else none)

/-- BLOB_EXPORT (R186). -/
def blobExport (c : Cmd) (s : State) : Res :=
  let p := c.payload
  let first := u32 p 0
  let n := u32 p 4
  if kmBad s then fail stWrongState s
  else if p.length != 16 || 131071 < first || n == 0 || 131072 < first + n || !dmaRange (u64 p 8) (96 * n) then
    fail stInvalid s
  else
    let bs := blobsOf s first n
    okWith (le 4 bs.length ++ zb 4) (if bs.isEmpty then s else dmaPut (u64 p 8) bs.flatten s)

/-- One imported blob: for an ABSENT SAH, checked under Table 7-7 (R178, R186). -/
def importEntry (forward : Bool) (b : Bytes) (s : State) : Nat × State :=
  let sah := u32 b 4 % 131072
  let kek := if forward then blobKek (mkRunOf s) else kekOf s
  if (keyOf s sah).st != .absent then (stExists, s)
  else match blobCheck kek sah none forward false (lineAt s (sah / 32)) b s with
    | .error n => (checkStatus n, if n == 2 then lineAlarm sah s else s)
    | .ok m =>
      let lgen := u32 b 12 / 16777216
      let gen := u16 b 8
      let blob := if forward then blobMake (kekOf s) sah gen lgen false m else b
      (stOk, putBlob sah blob (setKey sah (fun k => { k with st := .present }) (kekUse m.lineage lgen s)))

/-- MK of a manifest digest (Table 7-1). -/
def mkOf (s : State) (digest : Bytes) : Bytes := kdf (udsOf s) "MIGR" digest 32

/-- The running image's MK is derived when it is needed (R177). -/
def mkReady (s : State) : State :=
  match s.km.mkRun with
  | some _ => s
  | none =>
    let r := keyShares (mkOf s s.boot.running.digest) s
    { r.2 with km := { r.2.km with mkRun := some r.1 } }

/-- BLOB_IMPORT and BLOB_FORWARD_OPEN: blobs read from the blob address, the status array inline or at the result
address (R185). -/
def blobBatch (forward : Bool) (d : DmaRead) (c : Cmd) (s : State) : Res :=
  let p := c.payload
  let n := u16 p 0
  let ra := u64 p 8
  if p.length != 24 || !zeros p 2 6 || n == 0 || 4096 < n || (ra == 0 && 2036 < n) || !dmaRange ra (2 * n)
    || !dmaRange (u64 p 16) (96 * n) then fail stInvalid s
  else match dmaBytes (96 * n) d with
    | .error e => fail e s
    | .ok bs =>
      let r := runEach (importEntry forward) (pieces 96 n bs) (if forward then mkReady s else s)
      batchReply (if ra == 0 then none else some ra) r.1 r.2

/-- BLOB_IMPORT (R166, R185). -/
def blobImport (d : DmaRead) (c : Cmd) (s : State) : Res :=
  if kmBad s || sourcesRefused s then fail stWrongState s else blobBatch false d c s

/-- BLOB_FORWARD_OPEN (R178). -/
def blobForwardOpen (d : DmaRead) (c : Cmd) (s : State) : Res :=
  if kmBad s then fail stWrongState s else blobBatch true d c s

/-- KEY_EVICT of one SAH (R186). -/
def evictEntry (id : Nat) (e : Bytes) (s : State) : Nat × State :=
  let sah := u32 e 0
  match slotBy s sah with
  | none => (stNotFound, s)
  | some i =>
    if (slotOf s i).pinned then (stWrongState, s)
    else
      let t := slotStop i s
      let st := (slotOf t i).st
      if st == .draining || st == .loading then
        (stDeferred, deferAdd id (setSlot i (fun x => { x with waiters := x.waiters ++ [id] }) t))
      else (stOk, t)

/-- KEY_EVICT (R185, R186). -/
def keyEvict (d : DmaRead) (c : Cmd) (s : State) : Res :=
  if kmBad s then fail stWrongState s
  else batchDefer 4 4096 evictEntry { c with flags := c.flags / 2 * 2 } d s

/-- KEY_PIN_SET (R170, R186). `ecc` says that memory returns the SAH's blob or table line with an uncorrectable error. A
fetch that needs a miss-table entry and finds the table full ends it with NO_ROOM (R171; log entry 118). -/
def keyPinSet (ecc : Bool) (c : Cmd) (s : State) : Res :=
  let p := c.payload
  let sah := u32 p 0
  if kmBad s then fail stWrongState s
  else if p.length != 8 || 131071 < sah || 1 < u8 p 4 || !zeros p 5 3 then fail stInvalid s
  else if u8 p 4 == 0 then
    match slotBy s sah with
    | none => fail stNotFound s
    | some i =>
      if (slotOf s i).orphan then fail stWrongState s else ok (setSlot i (fun x => { x with pinned := false }) s)
  else match slotBy s sah with
    | some i => if (slotOf s i).st == .loading then .wait (.fetch i) s else pinSlot i s
    | none =>
      if (keyOf s sah).st == .absent then fail stNotFound s
      else if 12288 ≤ pinnedCount s then fail stNoRoom s
      else
        let side := match saOf s sah with
          | some a => b2n a.rx
          | none => 0
        match slotTake s with
        | (none, t) =>
          let has := (t.km.misses.get side).any (fun m => m.sah == sah)
          if !has && decide (256 ≤ (t.km.misses.get side).length) then fail stNoRoom (noVictim side t)
          else
            let t := if has then t else setMisses side (fun l => l ++ [⟨sah, none⟩]) t
            .wait (.entry side sah) (noVictim side t)
        | (some i, t) =>
          let u := slotLoad i sah false t
          match cmdFetch side sah (fetchWant s sah) ecc u with
          | (.error e, t) => fail e (slotFree i t)
          | (.ok m, t) => ok (slotServes i sah (setSlot i (fun x => { x with pinned := true }) (fetchMark side (kekMissed side u t) (slotFill i m t))))

/-! ### Lineages -/

/-- KEY_LINEAGE_CREATE (R159, R186). -/
def lineageCreate (c : Cmd) (s : State) : Res :=
  let p := c.payload
  let id := u32 p 0
  let par := u32 p 4
  if kmBad s then fail stWrongState s
  else if p.length != 12 || 16777215 < id || (16777215 < par && par != 0xFFFFFFFF) || 1 < u8 p 8 || !zeros p 9 3 then
    fail stInvalid s
  else if sourcesRefused s then fail stWrongState s
  else if (lineageOf s id).isSome then fail stExists s
  else
    let root := par == 0xFFFFFFFF
    let depth := match lineageOf s par with
      | some l => l.depth + 1
      | none => 1
    if !root && (lineageOf s par).isNone then fail stNotFound s
    else if 65536 ≤ s.km.lineages.length || (!root && 8 < depth) then fail stNoRoom s
    else
      let l : Lineage :=
        { gen := 0, parent := if root then none else some par, depth := if root then 1 else depth,
          orphan := u8 p 8 == 1, spent := false }
      okWith (le 4 id) { s with km := { s.km with lineages := tset none s.km.lineages id (some l) } }

/-- `id` is `top` or one of its descendants; the fuel is the depth (R159, R160). -/
def lineageUnder (s : State) (top : Nat) : Nat → Nat → Bool
  | 0, id => id == top
  | n + 1, id => id == top || (match (lineageOf s id).bind (·.parent) with
    | some p => lineageUnder s top n p
    | none => false)

/-- A lineage's generation advances; at 255 it becomes SPENT instead (R160). -/
def lineageStep (l : Lineage) : Lineage := if l.gen == 255 then { l with spent := true } else { l with gen := l.gen + 1 }

/-- The lineage a slot's key belongs to: the blob's while it is LOADING. -/
def slotLineage (s : State) (x : Slot) : Nat :=
  if x.st == .loading then u32 (blobAt s x.sah) 12 % 16777216 else x.lineage

/-- Condemn a slot; one left DRAINING is a piece of the command's deferred work (R160). -/
def condemn (id i : Nat) (s : State) : State :=
  let t := slotStop i s
  if (slotOf t i).st == .draining then
    deferAdd id (setSlot i (fun x => { x with waiters := x.waiters ++ [id] }) t)
  else t

/-- KEY_LINEAGE_INVALIDATE (R160, R186). -/
def lineageInvalidate (c : Cmd) (s : State) : Res :=
  let p := c.payload
  let id := u32 p 0 % 16777216
  if kmBad s then fail stWrongState s
  else if p.length != 4 then fail stInvalid s
  else match lineageOf s id with
    | none => fail stNotFound s
    | some l =>
      if l.gen.toNat != u32 p 0 / 16777216 then fail stStale s
      else
        let hit := (s.km.lineages.map (·.1)).filter (fun k => lineageUnder s id 8 k)
        let adv := hit.filter (fun k => match lineageOf s k with
          | some x => x.gen != 255
          | none => false)
        let slots := tkeys (fun _ x => (x.st == .loading || x.st == .resident) && hit.contains (slotLineage s x)) s.km.slots
        let own := slots.filter (fun i => slotLineage s (slotOf s i) == id)
        let below := slots.filter (fun i => slotLineage s (slotOf s i) != id)
        let condemned := if l.orphan then own else slots
        let pinned := if l.orphan then below.filter (fun i => (slotOf s i).st == .resident) else []
        let d := s.hif.nextDeferred
        let t := deferOpen c s
        let t := { t with km := { t.km with
          lineages := hit.foldl (fun m k => tset none m k ((tget none m k).map lineageStep)) t.km.lineages
          kekCache := t.km.kekCache.filter (fun e => !adv.contains e.1) } }
        let t := pinned.foldl (fun u i => setSlot i (fun x => { x with pinned := true, orphan := true }) u) t
        let t := condemned.foldl (fun u i => condemn d i u) t
        let open' := (t.hif.deferred.find? (fun x => x.id == d)).any (fun x => x.left != 0)
        let gen := (lineageStep l).gen
        let t := evH 0x4003 (le 4 id ++ le 1 gen.toNat ++ le 4 condemned.length) (deferClose d t)
        .done ⟨if open' then stDeferred else stOk, 0,
          le 1 gen.toNat ++ zb 3 ++ le 4 adv.length ++ le 4 condemned.length ++ le 4 pinned.length⟩ t

/-- KEY_LINEAGE_GET (R186). -/
def lineageGet (c : Cmd) (s : State) : Res :=
  let id := u32 c.payload 0
  if kmBad s then fail stWrongState s
  else if c.payload.length != 4 then fail stInvalid s
  else match lineageOf s id with
    | none => fail stNotFound s
    | some l =>
      let kids := (s.km.lineages.filter (fun e => (e.2.bind (·.parent)) == some id)).length
      okWith (le 4 (id + 16777216 * l.gen.toNat) ++ le 4 (l.parent.getD 0xFFFFFFFF) ++ le 1 (b2n l.orphan) ++
        le 1 (b2n l.spent) ++ le 1 l.depth ++ zb 1 ++ le 2 kids ++ zb 2) s

/-! ### Wait buffers and statistics -/

/-- KEY_KWB_SET (Table 7-8, R186). -/
def kwbSet (c : Cmd) (s : State) : Res :=
  let p := c.payload
  let sa := u16 p 2
  let rsv := u16 p 4
  let lim := u16 p 6
  if kmBad s then fail stWrongState s
  else if p.length != 16 || 1 < u8 p 0 || u8 p 1 != 0 || !zeros p 8 8 || sa < 128 || 4096 < sa || 64 < rsv || lim < rsv
    || 4096 < lim || lim < sa then fail stInvalid s
  else ok { s with km := { s.km with lim := s.km.lim.set (u8 p 0) ⟨sa, rsv, lim⟩ } }

/-- KEY_STATS_GET (R183, Table 7-12). -/
def keyStatsGet (c : Cmd) (s : State) : Res :=
  let p := c.payload
  let d := u8 p 0
  if kmBad s then fail stWrongState s
  else if p.length != 4 || 1 < d || !zeros p 1 3 then fail stInvalid s
  else
    let k := s.km
    let n := k.cnt.get d
    okWith (le 1 d ++ zb 7 ++ le64 s.tsu.ns ++ le 4 (tkeys (fun _ x => x.st == .resident) k.slots).length ++
      le 4 (pinnedCount s) ++ le 4 (kwbUse s d) ++ le 4 (k.kwbHighWater.get d) ++ le 4 (k.misses.get d).length ++
      le 4 (k.fetchHighWater.get d) ++ le64 n.hit ++ le64 n.miss ++ le64 n.fetch ++ le64 n.stale ++ le64 n.integrity ++
      le64 n.kekMiss ++ le64 k.evictCnt ++ le64 k.forcedCnt ++
      (List.range 32).flatMap (fun p => le64 (tget 0 (k.kwbDrop.get d) p) ++ le64 (tget 0 (k.unavail.get d) p))) s

/-! ### State images (R166). The layout of the header and of a lineage entry is the model's (log entry 27). -/

/-- A lineage entry of a state image: ID, generation, parent, depth, policy, state, in use. -/
def lineageBytes (id : Nat) (l : Lineage) : Bytes :=
  le 3 id ++ le 1 l.gen.toNat ++ le 4 (l.parent.getD 0xFFFFFFFF) ++ le 1 l.depth ++ le 1 (b2n l.orphan) ++
    le 1 (b2n l.spent) ++ [1]

/-- The lineage an entry stands for, if it is in use. -/
def lineageParse (e : Bytes) : Option (Nat × Lineage) :=
  if u8 e 11 == 1 then
    some (u32 e 0 % 16777216,
      { gen := BitVec.ofNat 8 (u8 e 3), parent := if u32 e 4 == 0xFFFFFFFF then none else some (u32 e 4),
        depth := u8 e 8, orphan := u8 e 9 == 1, spent := u8 e 10 == 1 })
  else none

/-- The 262,144 bytes of generations. -/
def genBytes (s : State) : Bytes := (List.range 131072).flatMap (fun i => le 2 (keyOf s i).gen.toNat)

/-- The 786,432 bytes of lineage entries. -/
def lineageTable (s : State) : Bytes :=
  pad 786432 (s.km.lineages.flatMap (fun e => match e.2 with
    | some l => lineageBytes e.1 l
    | none => []))

/-- The 64-byte header: the counter. -/
def imageHead (counter : Nat) : Bytes := le 8 counter ++ zb 56

/-- A state image sealed under a root key's state key of a counter (Table 7-1, R166). -/
def imageMake (root : Bytes) (counter : Nat) (s : State) : Bytes :=
  let head := imageHead counter
  let r := sivSeal (kdf root "STATE" (be 8 counter) 32) (le 8 counter ++ zb 4) head (genBytes s ++ lineageTable s)
  head ++ r.1 ++ r.2

/-- Advance the state counter (R166). -/
def counterStep (s : State) : State :=
  { s with boot := { s.boot with bbram := { s.boot.bbram with counter := s.boot.bbram.counter + 1 } } }

/-- KEY_STATE_SAVE (R166). -/
def keyStateSave (c : Cmd) (s : State) : Res :=
  let p := c.payload
  if kmBad s then fail stWrongState s
  else if p.length != 16 || !zeros p 8 8 || !dmaRange (u64 p 0) 1048656 then fail stInvalid s
  else
    let t := counterStep s
    let n := t.boot.bbram.counter.toNat
    okWith (le 8 n ++ le 4 1048656 ++ zb 4) (dmaPut (u64 p 0) (imageMake (fbkOf t) n t) t)

/-- The tables an image restores (R166). -/
def imageLoad (plain : Bytes) (s : State) : State :=
  let gens := pieces 2 131072 plain
  let keys := (gens.zipIdx).filterMap (fun e =>
    if u16 e.1 0 == 0 then none else some (e.2, ({ KeyRec.reset with gen := BitVec.ofNat 16 (u16 e.1 0) } : KeyRec)))
  let ls := (pieces 12 65536 (plain.drop 262144)).filterMap lineageParse
  keys.foldl (fun t e => putGen e.1 t) { s with km := { s.km with
      keys := keys, restored := true, lineages := ls.foldl (fun m e => tset none m e.1 (some e.2)) [] } }

/-- KEY_STATE_RESTORE (R166, R178). -/
def keyStateRestore (d : DmaRead) (c : Cmd) (s : State) : Res :=
  let p := c.payload
  if kmBad s then fail stWrongState s
  else if p.length != 16 || 1 < u8 p 8 || !zeros p 9 7 || !dmaRange (u64 p 0) 1048656 then fail stInvalid s
  else if !s.km.lineages.isEmpty || s.km.keys.any (fun e => e.2.st != .absent) then fail stWrongState s
  else match dmaBytes 1048656 d with
    | .error e => fail e s
    | .ok img =>
      let forward := u8 p 8 == 1
      let t := if forward then mkReady s else s
      let n := s.boot.bbram.counter.toNat
      let root := if forward then mkRunOf t else fbkOf t
      if u64 img 0 != n then fail stStale t
      else match sivOpen (kdf root "STATE" (be 8 n) 32) (le 8 n ++ zb 4) (img.take 64) (sub img 64 1048576)
          (img.drop 1048640) with
        | none => fail stIntegrity t
        | some plain => okWith (le 8 n) (evH 0x4009 (le 8 n) (imageLoad plain t))

/-! ### Forward sealing (R177, R178) -/

/-- The forward blob of a PRESENT SAH, none where its blob does not unwrap. -/
def forwardBlob (mk : Bytes) (sah : Nat) (s : State) : Option Bytes :=
  let b := blobAt s sah
  match blobCheck (kekOf s) sah none false false (lineAt s (sah / 32)) b s with
  | .error _ => none
  | .ok m => some (blobMake (blobKek mk) sah (keyOf s sah).gen.toNat (u32 b 12 / 16777216) true m)

/-- BLOB_FORWARD_SEAL (R178). -/
def blobForwardSeal (c : Cmd) (s : State) : Res :=
  let p := c.payload
  if kmBad s then fail stWrongState s
  else match s.km.mkNext with
    | none => fail stWrongState s
    | some mk =>
      let sahs := tkeys (fun _ k => k.st == .present) s.km.keys
      let blobs := sahs.filterMap (fun i => forwardBlob mk.value i s)
      if p.length != 24 || !zeros p 16 8 || !dmaRange (u64 p 0) (96 * sahs.length) || !dmaRange (u64 p 8) 1048656 then
        fail stInvalid s
      else
        let omitted := sahs.length - blobs.length
        let t := counterStep s
        let n := t.boot.bbram.counter.toNat
        let t := if blobs.isEmpty then t else dmaPut (u64 p 0) blobs.flatten t
        let t := dmaPut (u64 p 8) (imageMake mk.value n t) t
        let t := evH 0x4008 (le 4 blobs.length ++ le 4 omitted) { t with km := { t.km with sealed := true } }
        okWith (le 4 blobs.length ++ le 4 omitted ++ le 8 n) t

/-! ### The public-key engine (R180, R181) -/

/-- Bytes of M1 and of M2 by mode (R181). -/
def m1Len (mode : Nat) : Nat := if mode == 1 then 1665 else 1249
/-- Bytes of M2. -/
def m2Len (mode : Nat) : Nat := if mode == 1 then 1665 else 1153

/-- T of an exchange (R181). -/
def pkeT (mode purpose len : Nat) (ckn m1 m2 : Bytes) : Bytes :=
  sha384 (le 1 mode ++ le 1 purpose ++ le 1 len ++ le 1 ckn.length ++ ckn ++ m1 ++ m2)

/-- The result of an exchange (R181). -/
def pkeResult (purpose len : Nat) (ze zk t ckn : Bytes) : Bytes :=
  kdf ((sha384 (ze ++ zk ++ t)).take 32) (if purpose == 1 then "HCAK" else "HTRK") ckn len

/-- Store a result in a symmetric slot. -/
def putSym (slot purpose : Nat) (key : Bytes) (s : State) : State :=
  { s with km := { s.km with sym := tset none s.km.sym slot (some ⟨purpose, key⟩) } }

/-- Write or remove an agreement context. -/
def putCtx (h : Nat) (x : Option PkeCtx) (s : State) : State :=
  { s with km := { s.km with ctxs := tset none s.km.ctxs h x } }

/-- The response of PKE_AGREE (Table 7-16). -/
def pkeReply (ctx slot : Nat) (t msg : Bytes) (s : State) : Res :=
  okWith (le 2 ctx ++ le 2 slot ++ le 2 msg.length ++ zb 2 ++ pad 48 t ++ msg) s

/-- The fields of PKE_AGREE are in range (Table 7-16). -/
def pkeArgs (p : Bytes) : Bool :=
  let step := u8 p 0
  let mode := u8 p 2
  let slot := u16 p 6
  let cl := u8 p 8
  let n := if step == 1 then 0 else if step == 2 then m1Len mode else m2Len mode
  48 ≤ p.length && 1 ≤ step && step ≤ 3 && (u8 p 1 == 1 || u8 p 1 == 2) && (mode == 1 || mode == 2) &&
    (u8 p 3 == 32 || (u8 p 3 == 16 && u8 p 1 == 1)) && (step == 3 || u16 p 4 == 0) &&
    (if step == 1 then slot == 0 else 0x1000 ≤ slot && slot ≤ 0x2FFF) && 1 ≤ cl && cl ≤ 32 && zeros p 9 7 &&
    zeros p (16 + cl) (32 - cl) && p.length == 48 + n

/-- PKE_AGREE (R181, R186). -/
def pkeAgree (c : Cmd) (s : State) : Res :=
  let p := c.payload
  let purpose := u8 p 1
  let mode := u8 p 2
  let len := u8 p 3
  let slot := u16 p 6
  let ckn := sub p 16 (u8 p 8)
  let msg := p.drop 48
  if kmBad s then fail stWrongState s
  else if !pkeArgs p then fail stInvalid s
  else if u8 p 0 == 1 then
    let h := tfree 0 s.km.ctxs
    if 256 ≤ h then fail stNoRoom s
    else
      let d := drawMany 4 s
      let m1 := pad (m1Len mode) (pkePublic mode d.1)
      let x : PkeCtx := { purpose := purpose, mode := mode, secret := d.1, m1 := m1, expiry := s.tsu.ns + 10000000000 }
      pkeReply h 0 [] m1 (putCtx h (some x) d.2)
  else if u8 p 0 == 2 then
    if (tget none s.km.sym slot).isSome then fail stExists s
    else
      let d := drawMany 3 s
      match pkeRespond mode d.1 msg with
      | none => fail stInvalid s
      | some (m2, ze, zk) =>
        let m2 := pad (m2Len mode) m2
        let t := pkeT mode purpose len ckn msg m2
        pkeReply 0 slot t m2 (putSym slot purpose (pkeResult purpose len ze zk t ckn) d.2)
  else
    match tget none s.km.ctxs (u16 p 4) with
    | none => fail stNotFound s
    | some x =>
      if reached s.tsu.ns x.expiry then fail stNotFound s
      else if x.purpose != purpose || x.mode != mode then fail stInvalid s
      else if (tget none s.km.sym slot).isSome then fail stExists s
      else match pkeFinish mode x.secret msg with
        | none => fail stInvalid s
        | some (ze, zk) =>
          let t := pkeT mode purpose len ckn x.m1 msg
          pkeReply 0 slot t [] (putCtx (u16 p 4) none (putSym slot purpose (pkeResult purpose len ze zk t ckn) s))

/-- PKE_SLOT_ERASE (R180, R186). -/
def pkeSlotErase (c : Cmd) (s : State) : Res :=
  let p := c.payload
  let i := u16 p 0
  if kmBad s then fail stWrongState s
  else if p.length != 4 || !zeros p 2 2 then fail stInvalid s
  else if 8 ≤ i && i ≤ 0x3F then
    if (tget none s.km.asym i).isNone then fail stNotFound s
    else ok { s with km := { s.km with asym := tset none s.km.asym i none } }
  else if 0x1000 ≤ i && i ≤ 0x2FFF then
    if (tget none s.km.sym i).isNone then fail stNotFound s
    else ok { s with km := { s.km with sym := tset none s.km.sym i none } }
  else fail stInvalid s

/-- PKE_CONTEXT_EXPIRY: 10 s after its creation (R180). -/
def pkeContextExpiry (h : Nat) (s : State) : State :=
  match tget none s.km.ctxs h with
  | none => s
  | some x => if live s && reached s.tsu.ns x.expiry then putCtx h none s else s

/-! ### The meanings -/

def execKeyLoad (mb : Nat) (s : State) : Host.Outcome State Fault Refusal := .next (fcp 0x0400 mb keyLoad s)
def execKeyGenerate (mb : Nat) (s : State) : Host.Outcome State Fault Refusal := .next (fcp 0x0401 mb keyGenerate s)
def execBlobExport (mb : Nat) (reads : List (Nat × Nat)) (s : State) : Host.Outcome State Fault Refusal :=
  .next (fcpOut 0x0402 mb reads blobExport s)
def execBlobImport (mb : Nat) (dma : DmaRead) (s : State) : Host.Outcome State Fault Refusal :=
  .next (fcpDma 0x0403 mb dma blobImport s)
def execKeyEvict (mb : Nat) (dma : DmaRead) (s : State) : Host.Outcome State Fault Refusal :=
  .next (fcpDma 0x0404 mb dma keyEvict s)
def execKeyPinSet (mb : Nat) (ecc : Bool) (s : State) : Host.Outcome State Fault Refusal :=
  .next (fcp 0x0405 mb (keyPinSet ecc) s)
def execKeyLineageCreate (mb : Nat) (s : State) : Host.Outcome State Fault Refusal :=
  .next (fcp 0x0406 mb lineageCreate s)
def execKeyLineageInvalidate (mb : Nat) (s : State) : Host.Outcome State Fault Refusal :=
  .next (fcp 0x0407 mb lineageInvalidate s)
def execKeyLineageGet (mb : Nat) (s : State) : Host.Outcome State Fault Refusal := .next (fcp 0x0408 mb lineageGet s)
def execKeyKwbSet (mb : Nat) (s : State) : Host.Outcome State Fault Refusal := .next (fcp 0x0409 mb kwbSet s)
def execKeyStatsGet (mb : Nat) (s : State) : Host.Outcome State Fault Refusal := .next (fcp 0x040A mb keyStatsGet s)
def execKeyStateSave (mb : Nat) (reads : List (Nat × Nat)) (s : State) : Host.Outcome State Fault Refusal :=
  .next (fcpOut 0x040B mb reads keyStateSave s)
def execKeyStateRestore (mb : Nat) (dma : DmaRead) (s : State) : Host.Outcome State Fault Refusal :=
  .next (fcpDma 0x040C mb dma keyStateRestore s)
def execBlobForwardSeal (mb : Nat) (reads : List (Nat × Nat)) (s : State) : Host.Outcome State Fault Refusal :=
  .next (fcpOut 0x040D mb reads blobForwardSeal s)
def execBlobForwardOpen (mb : Nat) (dma : DmaRead) (s : State) : Host.Outcome State Fault Refusal :=
  .next (fcpDma 0x040E mb dma blobForwardOpen s)
def execPkeAgree (mb : Nat) (s : State) : Host.Outcome State Fault Refusal := .next (fcp 0x0420 mb pkeAgree s)
def execPkeSlotErase (mb : Nat) (s : State) : Host.Outcome State Fault Refusal := .next (fcp 0x0421 mb pkeSlotErase s)
def execPkeContextExpiry (context : Nat) (s : State) : Host.Outcome State Fault Refusal :=
  .next (pkeContextExpiry context s)

end Sys2Proof.Machine
end

