-- ==== Sys2Proof/Machine/Gates.lean ====
section
/-! DEFINITION. Gate control lists (09_policing_gates.md, R221 to R229). DEDUCED: log entry 81. -/
namespace Sys2Proof.Machine

/-- A port's gate control. -/
def gateOf (s : State) (p : Nat) : Gate := tget .reset s.gates p
/-- Change a port's gate control. -/
def setGate (p : Nat) (f : Gate → Gate) (s : State) : State := { s with gates := tmod .reset s.gates p f }

/-- The parts of a cycle: offset, duration and gate states; entries beyond the cycle are not used, and the last part
holds to the cycle's end (R223). -/
def gateParts (cycle : Nat) : Nat → List (Nat × Nat) → List (Nat × Nat × Nat)
  | _, [] => []
  | off, [(_, g)] => if cycle ≤ off then [] else [(off, cycle - off, g)]
  | off, (i, g) :: es =>
    if cycle ≤ off then []
    else if cycle ≤ off + i then [(off, cycle - off, g)]
    else (off, i, g) :: gateParts cycle (off + i) es

/-- The parts of a list's cycle. -/
def GateList.parts (l : GateList) : List (Nat × Nat × Nat) := gateParts l.cycle 0 l.entries

/-- When a class's gate next closes, in ns after an offset into the cycle; none when it does not close (R224). In the last
cycle of a list, which is extended to T_c, no further cycle closes it (R226). -/
def gateCloses (l : GateList) (last : Bool) (tc off : Nat) : Option Nat :=
  let ps := l.parts
  let two := if last then ps else ps ++ ps.map (fun p => (p.1 + l.cycle, p.2))
  match two.find? (fun p => decide (off < p.1) && !nbit p.2.2 tc) with
  | some p => some (p.1 - off)
  | none => none

/-- The longest run of open time of a class within a cycle, joined across its boundary (R225). The fold keeps the run in
progress and the longest one. -/
def gateWindow (l : GateList) (tc : Nat) : Option Nat :=
  let ps := l.parts
  if ps.all (fun p => nbit p.2.2 tc) then none
  else
    let r := (ps ++ ps).foldl (fun (a : Nat × Nat) p =>
      if nbit p.2.2 tc then (a.1 + p.2.1, Nat.max a.2 (a.1 + p.2.1)) else (0, a.2)) (0, 0)
    some r.2

/-- The wire time test: (L' + 20) x 8 / rate is at most `ns` (R205, R224). -/
def wireFits (rate len ns : Nat) : Bool := decide ((len + 20) * 8 ≤ rate * ns)

/-- The entry that the time into a cycle selects: its index, its start and its states (R223, R228). -/
def gateEntryAt (l : GateList) (off : Nat) : Nat × Nat × Nat :=
  let ps := l.parts
  let k := (ps.filter (fun p => decide (p.1 ≤ off))).length - 1
  let p := ps.getD k (0, 0, 255)
  (k, p.1, p.2.2)

/-- Place a running list at a TOD: k is the floor of (TOD - T_s) / C, which can be negative (R223, R228). -/
def gatePlace (tod : W64) (g : Gate) : Gate :=
  match g.oper with
  | none => g
  | some l =>
    let d := (tod - g.ts).toInt
    let off := (d % (l.cycle : Int)).toNat
    let e := gateEntryAt l off
    let c := tod - BitVec.ofNat 64 off
    { g with cur := e.1, gates := e.2.2, cycleTod := c, entryTod := c + BitVec.ofNat 64 e.2.1 }

/-- The T_c of a list committed at a TOD, and N (R226). -/
def gateTc (tod base : W64) (cycle guardNs : Nat) : W64 × Nat :=
  let thr := tod + BitVec.ofNat 64 guardNs
  if reached base thr then (base, 0)
  else
    let n := ((thr - base).toNat + cycle - 1) / cycle
    (base + BitVec.ofNat 64 (n * cycle), n)

/-- An old cycle that would begin at `t` never begins: t lies within the old extension before T_c (R226). -/
def gateExtends (g : Gate) (l : GateList) (t : W64) : Bool :=
  g.st == 3 && reached t (g.tc - BitVec.ofNat 64 l.ext) && t != g.tc - BitVec.ofNat 64 l.ext && !reached t g.tc

/-- GATE_ENTRY_ADVANCE: the end of the current entry, or of the cycle, has been reached (R223). -/
def gateEntryAdvance (p : Nat) (s : State) : State :=
  let g := gateOf s p
  match g.oper with
  | none => s
  | some l =>
    let ps := l.parts
    let next := ps.getD (g.cur + 1) (l.cycle, 0, 0)
    let t := g.cycleTod + BitVec.ofNat 64 next.1
    if !live s || !reached s.tsu.ns t then s
    else if g.cur + 1 < ps.length then
      setGate p (fun g => { g with cur := g.cur + 1, gates := next.2.2, entryTod := t }) s
    else if gateExtends g l t then s
    else setGate p (fun g => { g with cur := 0, gates := (ps.getD 0 (0, 0, 255)).2.2, cycleTod := t, entryTod := t }) s

/-- A frame's length as a start is judged: its transmitted length when whole in the buffer, else the ingress MAX_FRAME
and 32 bytes if it leaves encrypted (R192, R205, R224). `len` of the whole frame is DA to FCS. -/
def assumedLen (s : State) (f : Frame) (whole : Option Nat) : Nat :=
  match whole with
  | some n => n
  | none =>
    (match f.ingress with
     | some p => (port s p).cfg.maxFrame
     | none => f.hdr.length) + (if f.txSch.isSome then 32 else 0)

/-- T_c is reached: the pending list becomes operating, in the entry that a TOD selects: T_c, or what a step has made it; a frame in
transmission, or preempted in it, whose class that entry closes is counted (R226 to R229). -/
def gateOperate (p : Nat) (tod : W64) (s : State) : State :=
  let g := gateOf s p
  match g.pend with
  | none => s
  | some l =>
    let s := setGate p (fun g => gatePlace tod
      { g with st := 2, oper := some l, pend := none, ts := g.tc, changes := g.changes + 1 }) s
    let out := [(tmPort s p).sending, (tmPort s p).resume].filterMap (fun o => o.bind (frameOf s))
    let late := out.filter (fun f =>
      !nbit (gateOf s p).gates (queueTc (f.queue.getD 0) (queueOf s (tmSide p) (f.queue.getD 0))))
    let s := setGate p (fun g => { g with overrun := g.overrun + BitVec.ofNat 64 late.length }) s
    evH 0x5005 (le 1 p ++ le64 g.tc) s

/-- GCL_CHANGE_TIME: the TOD view reaches a pending T_c (R227). -/
def gclChangeTime (p : Nat) (s : State) : State :=
  let g := gateOf s p
  if live s && (g.st == 1 || g.st == 3) && reached s.tsu.ns g.tc then gateOperate p g.tc s else s

/-- The realignment of one port's list after a TOD step (R228). -/
def gateRealign (s : State) (p : Nat) : State :=
  let g := gateOf s p
  let s := if (g.st == 1 || g.st == 3) && reached s.tsu.ns g.tc then gateOperate p s.tsu.ns s else s
  if (gateOf s p).st == 2 || (gateOf s p).st == 3 then
    evH 0x5007 (le 1 p ++ le64 s.tsu.ns)
      (setGate p (fun g => { gatePlace s.tsu.ns g with realign := g.realign + 1 }) s)
  else s

/-- Every list, after TOD was stepped (R228). -/
def realignAll (s : State) : State := (List.range 64).foldl gateRealign s

/-- Entry bytes as interval and states (Table 9-3). -/
def gclEntry (e : Bytes) : Nat × Nat := (u32 e 0, u8 e 4)

/-- GCL_SET (R222, R226, R227, R233). -/
def gclSet (d : DmaRead) (c : Cmd) (s : State) : Res :=
  let p := c.payload
  let n := u16 p 2
  let en := nbit (u8 p 1) 0
  let dma := nbit c.flags 3
  let cycle := u32 p 4
  let host := u64 p 24
  if lcBad s then fail stWrongState s
  else if p.length < 32 || 63 < u8 p 0 || 1 < u8 p 1 || (if en then n == 0 || 512 < n else n != 0) ||
    cycle < 1000 || 1000000000 < cycle || cycle < u32 p 16 ||
    (u32 p 20 != 0 && (u32 p 20 < 100 || 1000000 < u32 p 20)) ||
    (if dma then host == 0 || !dmaRange host (8 * n) || p.length != 32
     else host != 0 || 506 < n || p.length != 32 + 8 * n) then fail stInvalid s
  else
    match (if dma then dmaBytes (8 * n) d else .ok (p.drop 32)) with
    | .error e => fail e s
    | .ok bs =>
      let es := pieces 8 n bs
      if es.any (fun e => u32 e 0 < 32 || 1000000000 < u32 e 0 || !zeros e 6 2) then fail stInvalid s
      else if es.any (fun e => u8 e 5 != 0) then fail stUnsupported s
      else
        let q := u8 p 0
        if en then
          let guardNs := if u32 p 20 == 0 then 1000 else u32 p 20
          let base := BitVec.ofNat 64 (u64 p 8)
          let r := gateTc s.tsu.ns base cycle guardNs
          let l : GateList := { base := base, cycle := cycle, ext := u32 p 16, guardNs := guardNs,
                                entries := es.map gclEntry }
          let late := decide (0 < r.2)
          let s := setGate q (fun g =>
            { g with pend := some l, tc := r.1, st := if g.st == 0 || g.st == 1 then 1 else 3,
                     late := if late then g.late + 1 else g.late }) s
          let s := if late then evH 0x5006 (le 1 q ++ le64 r.1 ++ le 4 r.2) s else s
          okWith (le64 r.1 ++ le 4 r.2 ++ bit8 late ++ zb 3) s
        else
          okWith (le64 s.tsu.ns ++ zb 8)
            (setGate q (fun g => { g with st := 0, oper := none, pend := none, gates := 255 }) s)

/-- The layout of Table 9-2. -/
def gclBytes (p : Nat) (l : GateList) : Bytes × Bytes :=
  ([BitVec.ofNat 8 p, 1] ++ le 2 l.entries.length ++ le 4 l.cycle ++ le64 l.base ++ le 4 l.ext ++ le 4 l.guardNs ++
    zb 8, l.entries.flatMap (fun e => le 4 e.1 ++ [BitVec.ofNat 8 e.2, 0] ++ zb 2))

/-- GCL_GET (R233). -/
def gclGet (c : Cmd) (s : State) : Res :=
  let p := c.payload
  let g := gateOf s (u8 p 0)
  if lcBad s then fail stWrongState s
  else if p.length != 12 || 63 < u8 p 0 || 1 < u8 p 1 || !zeros p 2 2 then fail stInvalid s
  else match (if u8 p 1 == 0 then g.oper else g.pend) with
    | none => fail stNotFound s
    | some l =>
      let b := gclBytes (u8 p 0) l
      if 506 < l.entries.length then
        if u64 p 4 == 0 || !dmaRange (u64 p 4) b.2.length then fail stInvalid s
        else okWith b.1 (dmaPut (u64 p 4) b.2 s)
      else okWith (b.1 ++ b.2) s

/-- GCL_STATUS_GET (Table 9-8). -/
def gclStatusGet (c : Cmd) (s : State) : Res :=
  let p := c.payload
  let g := gateOf s (u8 p 0)
  let n (l : Option GateList) := (l.map (fun x => x.entries.length)).getD 0
  if lcBad s then fail stWrongState s
  else if p.length != 4 || 63 < u8 p 0 || !zeros p 1 3 then fail stInvalid s
  else okWith ([BitVec.ofNat 8 (u8 p 0), BitVec.ofNat 8 g.st] ++ le 2 (n g.oper) ++ le 2 (n g.pend) ++ le 2 g.cur ++
    le64 s.tsu.ns ++ le64 g.tc ++ le64 ((g.oper.map (·.base)).getD 0) ++ le 4 ((g.oper.map (·.cycle)).getD 0) ++
    le 4 ((g.oper.map (·.ext)).getD 0) ++ le64 g.changes ++ le64 g.late ++ le64 g.overrun ++ le64 g.realign ++
    (List.range 8).flatMap (fun t => le64 (tget 0 g.drops t)) ++ [BitVec.ofNat 8 g.gates] ++ zb 7) s

/-! ### The meanings -/

def execGclSet (mb : Nat) (dma : DmaRead) (s : State) : Host.Outcome State Fault Refusal :=
  .next (fcpDma 0x0520 mb dma gclSet s)
def execGclGet (mb : Nat) (reads : List (Nat × Nat)) (s : State) : Host.Outcome State Fault Refusal :=
  .next (fcpOut 0x0521 mb reads gclGet s)
def execGclStatusGet (mb : Nat) (s : State) : Host.Outcome State Fault Refusal := .next (fcp 0x0522 mb gclStatusGet s)
def execGateEntryAdvance (port : Nat) (s : State) : Host.Outcome State Fault Refusal := .next (gateEntryAdvance port s)

end Sys2Proof.Machine
end

