-- ==== Sys2Proof/Machine/Meter.lean ====
section
/-! DEFINITION. The Iastan meter: taps, sweeps, channels, bindings, statements and their commands (18_iastan_meter.md,
R402 to R413). DEDUCED: log entry 94. -/
namespace Sys2Proof.Machine

/-- Change the meter. -/
def setMtr (f : Mtr → Mtr) (s : State) : State := { s with mtr := f s.mtr }

/-- STATE or CLOCK_LOST changed: CHANGED is set and vector 11 is signalled (Table 18-2). -/
def mtrChanged (s : State) : State := irq 11 (setMtr (fun m => { m with changed := true }) s)

/-! ### Taps (R404 to R406) -/

/-- The SCI a tap matches: the SecTAG's, or SA and 0x0001 for an end station (R405). -/
def tapSci (d : Bytes) : Option Nat :=
  if beNat (sub d 12 2) != 0x88E5 then none
  else if nbit (u8 d 14) 5 then some (beNat (sub d 20 8))
  else if nbit (u8 d 14) 6 then some (beNat (sub d 6 6) * 65536 + 1)
  else none

/-- The outer VID a tap matches, 0 for an untagged or priority-tagged frame (R405). -/
def tapVid (d : Bytes) : Nat :=
  let t := beNat (sub d 12 2)
  if t == 0x8100 || t == 0x88A8 then beNat (sub d 14 2) % 4096 else 0

/-- The binding of a port and direction that a frame adds to: SCI, then VID, then PORT (R405). -/
def tapMatch (bs : List Binding) (port dir : Nat) (d : Bytes) : Option Binding :=
  let mine := bs.filter (fun (b : Binding) => b.port == port && b.dir == dir)
  let sci := match tapSci d with
    | some k => mine.find? (fun (b : Binding) => b.typ == 2 && b.key == k)
    | none => none
  match sci with
  | some b => some b
  | none => match mine.find? (fun (b : Binding) => b.typ == 1 && b.key == tapVid d) with
    | some b => some b
    | none => mine.find? (fun (b : Binding) => b.typ == 0)

/-- Two bindings have the same key. -/
def sameKey (a b : Binding) : Bool := a.port == b.port && a.dir == b.dir && a.typ == b.typ && a.key == b.key

/-- A partial stops at 2^32 - 1 (R406). -/
def partAdd (p : W32) (n : Nat) : W32 := if 0xFFFFFFFF ≤ p.toNat + n then 0xFFFFFFFF else p + BitVec.ofNat 32 n

/-- The slot of binding `b` with one frame more: L octets, or L + 20 with PER_FRAME_20 (R406). -/
def slotAdd (d : Bytes) (b : Binding) : Binding :=
  { b with octets := partAdd b.octets (d.length + 4 + if b.per20 then 20 else 0), frames := partAdd b.frames 1 }

/-- A partial of the slot has stopped at its maximum (R406). -/
def slotFull (b : Binding) : Bool := b.octets == 0xFFFFFFFF || b.frames == 0xFFFFFFFF

/-- The bank with the slot of binding `b` in the state `b'`. -/
def bankPut (b b' : Binding) (bs : List Binding) : List Binding := bs.map (fun x => if sameKey x b then b' else x)

/-- Whether the tap sees the old bank at this frame: only between a switch and its final sweep, where the tap sees the switch at a
frame that a free value names, and from then on (R408, Table 18-6; log entry 130). -/
def tapLags (tap : Nat) (s : State) : Bool × State :=
  if !s.mtr.lag.contains tap then (false, s)
  else
    let r := drawFree 130 s
    if nbit r.1.toNat 0 then (true, r.2) else (false, setMtr (fun m => { m with lag := m.lag.erase tap }) r.2)

/-- A tap counts a frame at its last byte, under the bank that the tap sees; `d` runs from DA to the last byte before the FCS. Only
a SEALED meter counts, and no MAC Control frame is counted (R404 to R406, Table 18-1). -/
def meterTap (port dir : Nat) (d : Bytes) (s : State) : State :=
  if hbe d 12 2 == 0x8808 || !(s.mtr.powered && s.mtr.st == 1 && decide (port < 64)) then s
  else
    let r := tapLags (2 * port + dir) s
    let s := r.2
    match tapMatch (if r.1 then s.mtr.oldBank else s.mtr.binds) port dir d with
    | none => s
    | some b =>
      let b' := slotAdd d b
      let s := if r.1 then setMtr (fun m => { m with oldBank := bankPut b b' m.oldBank }) s
        else setMtr (fun m => { m with binds := bankPut b b' m.binds }) s
      if slotFull b' && !s.mtr.clockLost then mtrChanged (setMtr (fun m => { m with clockLost := true }) s) else s

/-- A count stops at 2^64 - 1 (R407). -/
def cntStop (c : W64) (n : Nat) : W64 := if 2 ^ 64 - 1 ≤ c.toNat + n then BitVec.ofNat 64 (2 ^ 64 - 1) else c + BitVec.ofNat 64 n

/-- Add a slot's partials to its channel (R406, R407). -/
def chnAdd (b : Binding) (m : Mtr) : Mtr :=
  { m with chs := tmod .reset m.chs b.channel (fun c =>
      let o := cntStop c.octets b.octets.toNat
      let f := cntStop c.frames b.frames.toNat
      { octets := o, frames := f, saturated := c.saturated || o == BitVec.ofNat 64 (2 ^ 64 - 1) ||
        f == BitVec.ofNat 64 (2 ^ 64 - 1) }) }

/-- A slot without its partials. -/
def bindClear (b : Binding) : Binding := { b with octets := 0, frames := 0 }

/-- Sweep every slot of the active bank. -/
def mtrSweepAll (m : Mtr) : Mtr :=
  let m := m.binds.foldl (fun m b => chnAdd b m) m
  { m with binds := m.binds.map bindClear }

/-- METER_SWEEP: one slot of a tap, by its index among the bindings of its port and direction (R406). -/
def meterSweep (port dir index : Nat) (s : State) : State :=
  if !s.mtr.powered then s
  else match (s.mtr.binds.filter (fun (b : Binding) => b.port == port && b.dir == dir))[index]? with
    | none => s
    | some b => setMtr (fun m =>
      { chnAdd b m with binds := m.binds.map (fun x => if sameKey x b then { bindClear x with seen := true } else x) }) s

/-! ### Power (R403) -/

/-- METER_POWER_UP: on an -A part the meter checks itself, blows a life fuse and starts a new life; all is within its
40 ms (R403, Table 18-1). -/
def meterPowerUp (checksOk : Bool) (s : State) : State :=
  let o := s.mtr
  if !s.boot.meterFuse || o.powered then s
  else
    let m : Mtr := { Mtr.reset with
      powered := true, ready := true, lifeFuses := o.lifeFuses, authority := o.authority, serial := o.serial
      certs := o.certs }
    let m := if !checksOk then { m with st := 3 }
      else if 2048 ≤ m.lifeFuses then { m with st := 2, life := 2048 }
      else { m with st := if m.authority.isSome then 1 else 0, lifeFuses := m.lifeFuses + 1, life := m.lifeFuses + 1 }
    let s := { s with mtr := m }
    if m.st == 0 then s else mtrChanged s

/-- METER_POWER_LOSS: bindings, counts and a command in progress are lost; the meter OTP stays (R403, Table 18-6). -/
def meterPowerLoss (s : State) : State :=
  let o := s.mtr
  { s with
    mtr := { Mtr.reset with lifeFuses := o.lifeFuses, authority := o.authority, serial := o.serial, certs := o.certs }
    hif := { s.hif with cmds := s.hif.cmds.filter (fun c => c.mb != 8) } }

/-! ### Commands (R408 to R412) -/

/-- Uptime in ns: MTRCLK x 5. -/
def mtrUptime (m : Mtr) : Nat := m.clocks / 4 * 5

/-- Channels that some binding names. -/
def chnBound (m : Mtr) (c : Nat) : Bool := m.binds.any (fun b => b.channel == c)

/-- A channel's entry in Table 18-3. -/
def chnBytes (m : Mtr) (c : Nat) : Bytes :=
  let x := tget .reset m.chs c
  le 2 c ++ le 1 (mask [x.saturated, chnBound m c]) ++ zb 5 ++ le64 x.octets ++ le64 x.frames

/-- MTR_STATUS_GET (0x0C00): it is answered in every state; its nonce replaces the one before (log entry 30). -/
def mtrStatusGet (c : Cmd) (s : State) : Res :=
  if !c.payload.isEmpty then fail stInvalid s
  else
    let r := drawFree 30 s
    let m := s.mtr
    okWith (le 1 m.st ++ le 1 (b2n m.clockLost) ++ zb 2 ++ le 4 m.life ++ le 4 m.gen.toNat ++
      le 2 ((List.range 4096).filter (chnBound m)).length ++ le 2 m.binds.length ++ le64 m.serial ++
      le 8 (mtrUptime m) ++ le64 r.1 ++ le 4 60000 ++ zb 4 ++ (match m.authority with
        | some k => sha384 k
        | none => zb 48)) (setMtr (fun m => { m with nonce := some r.1 }) r.2)

/-- MTR_CHANNEL_GET (0x0C01): not swept. -/
def mtrChannelGet (c : Cmd) (s : State) : Res :=
  let p := c.payload
  let first := u16 p 0
  let n := u16 p 2
  if s.mtr.st == 3 then fail stWrongState s
  else if p.length != 4 || n == 0 || 160 < n || 4096 < first + n then fail stInvalid s
  else okWith (le 2 n ++ zb 6 ++ le 8 (mtrUptime s.mtr) ++
    (List.range n).flatMap (fun i => chnBytes s.mtr (first + i))) s

/-- The limit on a statement's channels by scheme (Table 18-3). -/
def stmtMax (scheme : Nat) : Nat := match scheme with
  | 1 => 160 | 2 | 3 => 24 | _ => 0

/-- MTR_STATEMENT_GET (0x0C02): the request waits for a full sweep that begins now (R410). -/
def mtrStatementGet (c : Cmd) (s : State) : Res :=
  let p := c.payload
  let n := u16 p 2
  if s.mtr.st != 1 then fail stWrongState s
  else if p.length != 40 || !zeros p 5 3 || n == 0 || stmtMax (u8 p 4) < n || 4096 < u16 p 0 + n then fail stInvalid s
  else .wait .statement (setMtr (fun m => { m with binds := m.binds.map (fun b => { b with seen := false }) }) s)

/-- The signature of a scheme by the meter's own keys; scheme 3 is ECDSA then ML-DSA (Table 18-3). -/
def mtrSign (scheme : Nat) (msg : Bytes) : Bytes :=
  let one (k : Nat) : Bytes := pad (sigLen k) (Config.sign k (Config.meterKey k) msg)
  if scheme == 3 then one 1 ++ one 2 else one scheme

/-- The statement of Table 18-3, signed over "PK3200-METER" and what precedes the signature (R410). -/
def statementBytes (m : Mtr) (p : Bytes) : Bytes :=
  let first := u16 p 0
  let n := u16 p 2
  let scheme := u8 p 4
  let cs := (List.range n).map (first + ·)
  let sat := cs.any (fun c => (tget .reset m.chs c).saturated)
  let body := le 4 0x4D530001 ++ le64 m.serial ++ le 4 m.life ++ le 8 m.stmtSeq ++ le 8 (mtrUptime m) ++
    le 4 m.gen.toNat ++ le 2 first ++ le 2 n ++ le 1 (mask [sat, m.clockLost]) ++ le 1 scheme ++
    le 2 (if scheme == 3 then sigLen 1 + sigLen 2 else sigLen scheme) ++ zb 4 ++ sub p 8 32 ++
    cs.flatMap (chnBytes m)
  body ++ mtrSign scheme (ascii "PK3200-METER" ++ body)

/-- MTR_STATEMENT_LATCH: once the sweep has visited every slot that counts, the channels are latched as they stand, before any visit of
that cycle, and the waiting statement is signed (R410, Table 18-6). -/
def mtrStatementLatch (s : State) : State :=
  if !s.mtr.powered || !s.mtr.binds.all (·.seen) then s
  else wake (· == Wait.statement) (fun c t =>
    let t := setMtr (fun m => { m with stmtSeq := m.stmtSeq + 1 }) t
    okWith (statementBytes t.mtr c.payload) t) s

/-- MTR_CERT_GET (0x0C03). -/
def mtrCertGet (c : Cmd) (s : State) : Res :=
  let p := c.payload
  let cert := tget [] s.mtr.certs (u8 p 0)
  let off := u16 p 2
  if s.mtr.st == 3 then fail stWrongState s
  else if p.length != 8 || 1 < u8 p 0 || !zeros p 1 1 || !zeros p 4 4 || cert.length < off then fail stInvalid s
  else
    let chunk := sub cert off 4064
    okWith (le 2 cert.length ++ le 2 chunk.length ++ zb 4 ++ chunk) s

/-- A binding of Table 18-5. -/
def bindOf (e : Bytes) : Binding :=
  { port := u8 e 0, dir := u8 e 1, typ := u8 e 2, channel := u16 e 4, per20 := nbit (u8 e 6) 0,
    key := match u8 e 2 with
      | 2 => beNat (sub e 8 8)
      | 1 => u16 e 8
      | _ => 0
    octets := 0, frames := 0, seen := false }

/-- The fields of Table 18-5 are in range. -/
def bindOk (e : Bytes) : Bool :=
  decide (u8 e 0 < 64) && decide (u8 e 1 ≤ 1) && decide (u8 e 3 ≤ 1) && decide (u16 e 4 < 4096) && decide (u8 e 6 ≤ 1) &&
    u8 e 7 == 0 &&
    match u8 e 2 with
    | 0 => zeros e 8 8
    | 1 => decide (u64 e 8 < 4096)
    | 2 => decide (32 ≤ u8 e 0)
    | _ => false

/-- One entry applied to a list of bindings, or the status of its failure (R412). -/
def bindApply (e : Bytes) (bs : List Binding) : Except Nat (List Binding) :=
  let b := bindOf e
  if !bindOk e then .error stInvalid
  else if u8 e 3 == 0 then
    (if bs.any (sameKey b) then .ok (bs.filter (fun x => !sameKey b x)) else .error stNotFound)
  else if bs.any (sameKey b) then .error stExists
  else if 256 ≤ (bs.filter (fun x => x.port == b.port && x.dir == b.dir)).length then .error stNoRoom
  else .ok (bs ++ [b])

/-- Every entry in order; an error carries the entry's index. -/
def bindAll : Nat → List Bytes → List Binding → Except (Nat × Nat) (List Binding)
  | _, [], bs => .ok bs
  | i, e :: es, bs => match bindApply e bs with
    | .error st => .error (st, i)
    | .ok bs => bindAll (i + 1) es bs

/-- MTR_BINDING_SET (0x0C10): all or nothing; a claim fuses the authority key. The old bindings are swept, the banks
switch, and the response waits for the final sweep (R408, R412). -/
def mtrBindingSet (c : Cmd) (s : State) : Res :=
  let p := c.payload
  let m := s.mtr
  let n := u16 p 4
  let claim := nbit (u8 p 6) 0
  let head := 16 + if claim then 97 else 0
  if m.st == 3 then fail stWrongState s
  else if p.length != head + 16 * n || 240 < n || 3 < u8 p 6 || !zeros p 7 9 then fail stInvalid s
  else if m.st == 2 || claim != (m.st == 0) then fail stWrongState s
  else if m.gen == 0xFFFFFFFF then fail stNoRoom s
  else if u32 p 0 != m.gen.toNat + 1 then fail stStale s
  else match bindAll 0 (pieces 16 n (p.drop head)) (if nbit (u8 p 6) 1 then [] else m.binds) with
    | .error (st, i) => .done ⟨st, i, []⟩ s
    | .ok bs =>
      let s := setMtr (fun m =>
        let m := mtrSweepAll m
        { m with
          oldBank := m.binds, lag := List.range 128, binds := bs.map bindClear, gen := m.gen + 1
          authority := if claim then some (sub p 16 97) else m.authority
          st := 1 }) s
      .wait .binding (if claim then mtrChanged s else s)

/-- MTR_BANK_FINAL_SWEEP: the old bank's last partials go to the channels its bindings named, and the response is
written (R408). -/
def mtrBankFinalSweep (s : State) : State :=
  if !s.mtr.powered then s
  else
    let s := setMtr (fun m => { m.oldBank.foldl (fun m b => chnAdd b m) m with oldBank := [], lag := [] }) s
    wake (· == Wait.binding) (fun _ t => ok t) s

/-- A binding's entry in a response (Table 18-5). -/
def bindBytes (b : Binding) : Bytes :=
  le 1 b.port ++ le 1 b.dir ++ le 1 b.typ ++ le 1 1 ++ le 2 b.channel ++ le 1 (b2n b.per20) ++ zb 1 ++
    (if b.typ == 2 then be 8 b.key else le 8 b.key)

/-- MTR_BINDING_GET (0x0C11). -/
def mtrBindingGet (c : Cmd) (s : State) : Res :=
  let p := c.payload
  if s.mtr.st == 3 then fail stWrongState s
  else if p.length != 8 || 63 < u8 p 0 || 1 < u8 p 1 || 255 < u16 p 2 || !zeros p 4 4 then fail stInvalid s
  else
    let bs := ((s.mtr.binds.filter (fun (b : Binding) => b.port == u8 p 0 && b.dir == u8 p 1)).drop (u16 p 2)).take 254
    okWith (le 2 bs.length ++ le 4 s.mtr.gen.toNat ++ zb 2 ++ bs.flatMap bindBytes) s

/-! ### The meanings -/

/-- METER_POWER_UP. -/
def execMeterPowerUp (checksOk : Bool) (s : State) : Host.Outcome State Fault Refusal := .next (meterPowerUp checksOk s)
/-- METER_POWER_LOSS. -/
def execMeterPowerLoss (s : State) : Host.Outcome State Fault Refusal := .next (meterPowerLoss s)
/-- METER_SWEEP. -/
def execMeterSweep (port dir index : Nat) (s : State) : Host.Outcome State Fault Refusal :=
  .next (meterSweep port dir index s)
/-- MTR_STATUS_GET. -/
def execMtrStatusGet (mb : Nat) (s : State) : Host.Outcome State Fault Refusal := .next (fcpMeter 0x0C00 mb mtrStatusGet s)
/-- MTR_CHANNEL_GET. -/
def execMtrChannelGet (mb : Nat) (s : State) : Host.Outcome State Fault Refusal :=
  .next (fcpMeter 0x0C01 mb mtrChannelGet s)
/-- MTR_STATEMENT_GET. -/
def execMtrStatementGet (mb : Nat) (s : State) : Host.Outcome State Fault Refusal :=
  .next (fcpMeter 0x0C02 mb mtrStatementGet s)
/-- MTR_STATEMENT_LATCH. -/
def execMtrStatementLatch (s : State) : Host.Outcome State Fault Refusal := .next (mtrStatementLatch s)
/-- MTR_CERT_GET. -/
def execMtrCertGet (mb : Nat) (s : State) : Host.Outcome State Fault Refusal := .next (fcpMeter 0x0C03 mb mtrCertGet s)
/-- MTR_BINDING_SET. -/
def execMtrBindingSet (mb : Nat) (s : State) : Host.Outcome State Fault Refusal :=
  .next (fcpMeter 0x0C10 mb mtrBindingSet s)
/-- MTR_BANK_FINAL_SWEEP. -/
def execMtrBankFinalSweep (s : State) : Host.Outcome State Fault Refusal := .next (mtrBankFinalSweep s)
/-- MTR_BINDING_GET. -/
def execMtrBindingGet (mb : Nat) (s : State) : Host.Outcome State Fault Refusal :=
  .next (fcpMeter 0x0C11 mb mtrBindingGet s)

end Sys2Proof.Machine
end

