-- ==== Sys2Proof/Machine/Ports.lean ====
section
/-! DEFINITION. Ports: configuration, state machine, statistics (02_ports_frame_path.md). DEDUCED: log entries 72,
81. -/
namespace Sys2Proof.Machine

/-- The configuration a PORT_CONFIG_SET payload spells (Table 2-12). -/
def cfgOf (p : Bytes) : PortCfg :=
  { role := u8 p 1, peer := u8 p 2, lane := u8 p 3, fec := u8 p 4, flow := u8 p 5, preempt := u8 p 6,
    linkFollow := nbit (u8 p 7) 0, maxFrame := u16 p 8, missOrder := u8 p 10, evict := u8 p 11, rxPol := u8 p 12,
    txPol := u8 p 13, sci := beNat (sub p 16 8), pauseSa := beNat (sub p 24 6) }

/-- The 32-byte layout of Table 2-12. -/
def cfgBytes (p : Nat) (c : PortCfg) : Bytes :=
  [BitVec.ofNat 8 p, BitVec.ofNat 8 c.role, BitVec.ofNat 8 c.peer, BitVec.ofNat 8 c.lane, BitVec.ofNat 8 c.fec,
   BitVec.ofNat 8 c.flow, BitVec.ofNat 8 c.preempt, BitVec.ofNat 8 (b2n c.linkFollow)] ++ le 2 c.maxFrame ++
  [BitVec.ofNat 8 c.missOrder, BitVec.ofNat 8 c.evict, BitVec.ofNat 8 c.rxPol, BitVec.ofNat 8 c.txPol] ++ zb 2 ++
  be 8 c.sci ++ be 6 c.pauseSa ++ zb 2

/-- Each field against its own encoding, and the reserved fields (R56). -/
def cfgEncoded (p : Bytes) : Bool :=
  let c := cfgOf p
  let n := u8 p 0
  decide (n ≤ 64) && (if n == 64 then c.role == 0 || c.role == 4 else decide (c.role ≤ 3)) &&
  decide (1 ≤ c.lane ∧ c.lane ≤ 9) && decide (c.fec ≤ 2) && decide (c.flow ≤ 2) && decide (c.preempt ≤ 1) &&
  decide (u8 p 7 ≤ 1) && decide (64 ≤ c.maxFrame ∧ c.maxFrame ≤ 16383) && decide (c.missOrder ≤ 1) &&
  decide (c.evict ≤ 1) && zeros p 14 2 && zeros p 30 2 && !nbit (u8 p 24) 0 &&
  (if c.role == 0 || n == 64 then c.peer == 0xFF else decide (c.peer < 64))

/-- The FEC codes a lane mode allows (Table 2-1, R36). -/
def fecAllowed (mode fec : Nat) : Bool := match mode with
  | 1 => fec == 1 || fec == 0
  | 4 | 9 => fec == 1
  | _ => fec == 2

/-- The lanes `a` to `a + n - 1` on a side are held by another port that is not DISABLED (R36). -/
def lanesHeld (s : State) (p n : Nat) : Bool :=
  (List.range 32).any (fun k =>
    let q := 32 * (p / 32) + k
    let m := modeLanes (port s q).cfg.lane
    q != p && (port s q).st != .disabled && decide (q < p + n) && decide (p < q + m))

/-- A request with a role other than DISABLED suits the port, its side, its lanes and its peer (R36, R38, R56, R16). -/
def cfgSuits (s : State) (p : Nat) (c : PortCfg) : Bool :=
  let n := modeLanes c.lane
  let line := decide (32 ≤ p ∧ p < 64)
  fecAllowed c.lane c.fec &&
  (if p == 64 then c.role == 4 && (c.lane == 8 || c.lane == 9) && c.flow == 0 && c.preempt == 0
   else
    let q := c.peer
    decide (c.lane ≤ 7) && p % 32 % n == 0 && !lanesHeld s p n &&
    (if line then (c.role == 2 || c.role == 3) && decide (c.flow ≤ 1) else c.role == 1 && c.preempt == 0) &&
    (match c.role with
     | 1 => decide (32 ≤ q)
     | 2 => decide (q < 32)
     | _ => decide (32 ≤ q) && q != p) &&
    ((port s q).cfg.role == 0 || modeSpeed (port s q).cfg.lane == modeSpeed c.lane) &&
    (match pairOf s q with
     | some r => r == p
     | none => true) &&
    (match c.role with
     | 1 => (port s q).cfg.role == 0 || decide (c.maxFrame + 32 ≤ (port s q).cfg.maxFrame)
     | 2 => !((port s q).cfg.role == 1 && (port s q).cfg.peer == p) ||
            decide ((port s q).cfg.maxFrame + 32 ≤ c.maxFrame)
     | _ => decide (c.maxFrame ≤ 16375)))

/-- The port is administratively down: DISABLED or ADMIN_DOWN. -/
def adminDown (s : State) (p : Nat) : Bool := (port s p).st == .disabled || (port s p).st == .adminDown

/-- The change is allowed in the ports' states (R16, R56). -/
def cfgAllowed (s : State) (p : Nat) (c : PortCfg) : Bool :=
  let o := (port s p).cfg
  let same := { c with linkFollow := o.linkFollow, missOrder := o.missOrder, evict := o.evict } == o
  let pair := c.role != o.role || c.peer != o.peer
  (same || adminDown s p) &&
  (!pair || (adminDown s p &&
    (match pairOf s p with
     | some q => adminDown s q
     | none => true) &&
    (decide (64 ≤ c.peer) || adminDown s c.peer)))

/-- PORT_CONFIG_SET (R38, R40, R56). -/
def portConfigSet (c : Cmd) (s : State) : Res :=
  let p := c.payload
  let n := u8 p 0
  let cfg := cfgOf p
  if lcBad s then fail stWrongState s
  else if p.length != 32 || !cfgEncoded p || (cfg.role != 0 && !cfgSuits s n cfg) then fail stInvalid s
  else if !cfgAllowed s n cfg then fail stWrongState s
  else
    let st := (port s n).st
    let st' : PortSt := if cfg.role == 0 then .disabled else if st == .disabled then .adminDown else st
    let s := setPort n (fun x => { x with cfg := cfg }) s
    let s := if st' == st then s else enterPort n st' s
    ok (follow s)

/-- PORT_CONFIG_GET (R56). -/
def portConfigGet (c : Cmd) (s : State) : Res :=
  let p := c.payload
  if lcBad s then fail stWrongState s
  else if p.length != 4 || 64 < u8 p 0 || !zeros p 1 3 then fail stInvalid s
  else okWith (cfgBytes (u8 p 0) (port s (u8 p 0)).cfg) s

/-- The receiver stops: its conditions end, and preemption with it (log entry 9). -/
def linkIdle (x : Port) : Port :=
  { x with locked := 0, localFault := false, remoteFault := false, preemptOn := false, preemptFails := 0 }

/-- The transcrypted frames that have a port that leaves UP as their way out are dropped, and what waited behind them goes on
(Table 6-2, R118, R174, R184). -/
def leaveUp (p : Nat) (s : State) : State :=
  let held := (framesWith s (fun f => f.egress == p && onSharedPath f && f.stage == .kwb)).filterMap (frameOf s)
  held.foldl (fun t f => kwbLost f t) (cutShared p s)

/-- PORT_ADMIN_SET (R40, R57). -/
def portAdminSet (c : Cmd) (s : State) : Res :=
  let p := c.payload
  let n := u8 p 0
  let st := (port s n).st
  if lcBad s then fail stWrongState s
  else if p.length != 4 || 64 < n || 1 < u8 p 1 || !zeros p 2 2 then fail stInvalid s
  else if u8 p 1 == 1 then
    if st == .disabled || !pairedUp s n then fail stWrongState s
    else if st == .adminDown then ok (follow (enterPort n .linkWait s))
    else ok s
  else
    match st with
    | .linkWait => ok (follow (setPort n linkIdle (enterPort n .adminDown s)))
    | .up | .rfault => ok (follow (setPort n linkIdle (enterPort n .adminDown (leaveUp n (flushPort n s)))))
    | _ => ok s

/-- The flags of PORT_STATUS_GET (Table 2-13). -/
def portFlags (s : State) (p : Nat) : Nat :=
  let x := port s p
  mask [x.localFault, x.remoteFault, x.forcing, x.preemptOn, (pairOf s p).isSome, blocked s p]

/-- PORT_STATUS_GET (Table 2-13). -/
def portStatusGet (c : Cmd) (s : State) : Res :=
  let p := c.payload
  let n := u8 p 0
  let x := port s n
  if lcBad s then fail stWrongState s
  else if p.length != 4 || 64 < n || !zeros p 1 3 then fail stInvalid s
  else okWith ([BitVec.ofNat 8 n, BitVec.ofNat 8 x.st.code, BitVec.ofNat 8 x.locked, BitVec.ofNat 8 (portFlags s n)] ++
    le64 x.lastChange ++ zb 4) s

/-- PORT_STATS_GET (R58, Table 2-10). -/
def portStatsGet (c : Cmd) (s : State) : Res :=
  let p := c.payload
  let n := u8 p 0
  let x := port s n
  let k := if nbit (u8 p 1) 0 && x.cfg.role != 0 then modeLanes x.cfg.lane else 0
  if lcBad s then fail stWrongState s
  else if p.length != 4 || 64 < n || 1 < u8 p 1 || !zeros p 2 2 then fail stInvalid s
  else okWith ([BitVec.ofNat 8 n, BitVec.ofNat 8 k] ++ zb 6 ++ le64 s.tsu.ns ++ x.cnt.list.flatMap le64 ++
    (List.range k).flatMap (fun i => le64 (tget 0 x.fecSym i))) s

/-- All lanes of a mode. -/
def allLanes (m : Nat) : Nat := 2 ^ modeLanes m - 1

/-- LINK_UP: LINK_WAIT enters UP once all lanes are locked and aligned with no Local Fault; a Remote Fault that is received
still takes it on to RFAULT (R40, R55; log entry 121). -/
def linkUp (p : Nat) (s : State) : State :=
  if live s && (port s p).st == .linkWait then
    let s := setPort p (fun x => { x with locked := allLanes x.cfg.lane, localFault := false }) s
    let s := evH 0x1001 (le 1 p) (enterPort p .up s)
    follow (if (port s p).remoteFault then evH 0x1003 (le 1 p) (enterPort p .rfault s) else s)
  else s

/-- The lanes left with lock, and Local Fault, after a cause (R40). -/
def linkLoss (cause : LinkLoss) (x : Port) : Port := match cause with
  | .lock lanes => { x with locked := x.locked &&& (allLanes x.cfg.lane - (lanes &&& allLanes x.cfg.lane)),
                            localFault := false, remoteFault := false }
  | .alignment => x
  | .localFault => { x with localFault := true }

/-- LINK_DOWN: UP or RFAULT is left for LINK_WAIT (R40, R41, R55). In LINK_WAIT only the reported conditions change. -/
def linkDown (p : Nat) (cause : LinkLoss) (s : State) : State :=
  let st := (port s p).st
  if !live s then s
  else if st == .up || st == .rfault then
    let s := leaveUp p (cutSending p (flushPort p s))
    let s := setPort p (fun x => linkLoss cause { x with
      preemptOn := false, preemptFails := 0, cnt := { x.cnt with linkDown := x.cnt.linkDown + 1 } }) s
    follow (evH 0x1002 (le 1 p) (enterPort p .linkWait s))
  else if st == .linkWait then setPort p (linkLoss cause) s
  else s

/-- LINK_REMOTE_FAULT: UP enters RFAULT and sends no frame, the one in transmission included; the condition is reported from
then (R40, R41, R55). -/
def linkRemoteFault (p : Nat) (s : State) : State :=
  let st := (port s p).st
  if !live s || st == .disabled || st == .adminDown then s
  else
    let s := setPort p (fun x => { x with remoteFault := true }) s
    if st == .up then follow (evH 0x1003 (le 1 p) (enterPort p .rfault (leaveUp p (cutSending p (flushPort p s))))) else s

/-- RFAULT_CLEAR: Remote Fault absent for 128 ordered-set periods (R40, R55). -/
def rfaultClear (p : Nat) (s : State) : State :=
  let st := (port s p).st
  if !live s then s
  else
    let s := setPort p (fun x => { x with remoteFault := false }) s
    if st == .rfault then follow (evH 0x1001 (le 1 p) (enterPort p .up s)) else s

/-- PREEMPT_VERIFICATION: an 802.3br attempt ends on a line-side port set to AUTO (R38, R55). -/
def preemptVerification (p : Nat) (good : Bool) (s : State) : State :=
  let x := port s p
  if live s && x.cfg.preempt == 1 && (x.st == .up || x.st == .rfault) && !x.preemptOn && decide (x.preemptFails < 3) then
    if good then evH 0x1005 (le 1 p) (setPort p (fun x => { x with preemptOn := true }) s)
    else
      let s := setPort p (fun x => { x with preemptFails := x.preemptFails + 1 }) s
      if (port s p).preemptFails == 3 then evH 0x1006 (le 1 p) s else s
  else s

/-- Count a receive-MAC cause, the first of Table 2-9 that holds; `len` is DA to FCS. None when the frame passes. -/
def rxCause (c : RxCheck) (len maxFrame : Nat) : Option (PortCnt → PortCnt) :=
  if c.error then some (fun x => { x with rxErr := x.rxErr + 1 })
  else if maxFrame < len then some (fun x => { x with rxOversize := x.rxOversize + 1 })
  else if len < 64 then some (fun x => { x with rxUndersize := x.rxUndersize + 1 })
  else if c.stomped then some (fun x => { x with rxStomped := x.rxStomped + 1 })
  else if c.fcsBad then some (fun x => { x with rxFcs := x.rxFcs + 1 })
  else none

/-- The halted time up to now is counted (R202). -/
def haltCount (p : Nat) (s : State) : State :=
  setTmPort p (fun x => { x with pausedNs := pausedNow s x, haltSince := s.tsu.ns }) s

/-- Halt a class for a number of quanta at the port's rate, from 8 CCLK (5 ns) on, or from where its halt already began;
quanta 0 ends the halt (R202). -/
def haltClass (p t quanta : Nat) (s : State) : State :=
  let rate := portRate s p
  setTmPort p (fun x =>
    if quanta == 0 then haltOff t x
    else { x with
      halted := x.halted ||| 2 ^ t
      haltFrom := if nbit x.halted t then x.haltFrom else tset 0 x.haltFrom t (s.tsu.ns + 5)
      haltEnd := tset 0 x.haltEnd t (s.tsu.ns + BitVec.ofNat 64 (5 + quanta * 512 / rate)) }) s

/-- What a received flow-control frame halts (R202, R442). -/
def flowControl (p : Nat) (data : Bytes) (s : State) : State :=
  let c := (port s p).cfg
  let op := beNat (sub data 14 2)
  if 64 ≤ p then s
  else if op == 1 && c.flow == 1 then
    (List.range 8).foldl (fun t k => haltClass p k (beNat (sub data 16 2)) t) (haltCount p s)
  else if op == 0x0101 && c.flow == 2 && c.role == 1 then
    let en := beNat (sub data 16 2)
    (List.range 8).foldl (fun t k =>
      let named := (List.range 8).filter (fun q => nbit en q && nbit ((tmPort t p).pfc.getD k 0) q)
      if named.isEmpty then t
      else haltClass p k ((named.map (fun q => beNat (sub data (18 + 2 * q) 2))).foldl Nat.max 0) t) (haltCount p s)
  else s

/-- MAC_CONTROL_FRAME: consumed at the receive MAC; its effect is that of R202 alone (R442). -/
def macControlFrame (p : Nat) (data : Bytes) (check : RxCheck) (s : State) : State :=
  let x := port s p
  if !live s || !(x.st == .up || x.st == .rfault) || beNat (sub data 12 2) != 0x8808 then s
  else if check.mergeBad && x.preemptOn then cntPort p (fun c => { c with rxMerge := c.rxMerge + 1 }) s
  else match rxCause check (data.length + 4) x.cfg.maxFrame with
    | some f => cntPort p f s
    | none => flowControl p data (cntPort p (fun c => { c with rxPause := c.rxPause + 1 }) s)

/-! ### The meanings -/

def execPortConfigSet (mb : Nat) (s : State) : Host.Outcome State Fault Refusal := .next (fcp 0x0100 mb portConfigSet s)
def execPortConfigGet (mb : Nat) (s : State) : Host.Outcome State Fault Refusal := .next (fcp 0x0101 mb portConfigGet s)
def execPortAdminSet (mb : Nat) (s : State) : Host.Outcome State Fault Refusal := .next (fcp 0x0102 mb portAdminSet s)
def execPortStatusGet (mb : Nat) (s : State) : Host.Outcome State Fault Refusal := .next (fcp 0x0103 mb portStatusGet s)
def execPortStatsGet (mb : Nat) (s : State) : Host.Outcome State Fault Refusal := .next (fcp 0x0104 mb portStatsGet s)
def execLinkUp (port : Nat) (s : State) : Host.Outcome State Fault Refusal := .next (linkUp port s)
def execLinkDown (port : Nat) (cause : LinkLoss) (s : State) : Host.Outcome State Fault Refusal :=
  .next (linkDown port cause s)
def execLinkRemoteFault (port : Nat) (s : State) : Host.Outcome State Fault Refusal := .next (linkRemoteFault port s)
def execRfaultClear (port : Nat) (s : State) : Host.Outcome State Fault Refusal := .next (rfaultClear port s)
def execPreemptVerification (port : Nat) (ok : Bool) (s : State) : Host.Outcome State Fault Refusal :=
  .next (preemptVerification port ok s)
def execMacControlFrame (port : Nat) (data : Bytes) (check : RxCheck) (s : State) :
    Host.Outcome State Fault Refusal := .next (macControlFrame port data check s)

end Sys2Proof.Machine
end

