-- ==== Sys2Proof/Machine/ClsOps.lean ====
section
/-! DEFINITION. The classifier tables: hashing, the insertion engine, staging, parsing, lookup and merge
(03_classifier.md, R59 to R81). DEDUCED: log entry 74. -/
namespace Sys2Proof.Machine

/-- A side's classifier. -/
def clsOf (s : State) (side : Nat) : Cls := s.cls.get side
/-- Change a side's classifier. -/
def setCls (side : Nat) (f : Cls → Cls) (s : State) : State := { s with cls := s.cls.upd side f }
/-- The ingress side of a port: 0 host, 1 line. -/
def portSide (p : Nat) : Nat := if p < 32 then 0 else 1

/-! ### Results (Table 3-2) -/

/-- A result's 16 bytes are in range. -/
def resOk (b : Bytes) : Bool :=
  u16 b 0 < 64 && u8 b 2 ≤ 3 && u8 b 3 ≤ 7 && u16 b 6 ≤ 8191 && u16 b 8 ≤ 2047 && u16 b 10 ≤ 7 && zeros b 12 4

/-- The result that 16 bytes spell; a decision above 3 counts modulo 4 (log entry 104). -/
def resOf (b : Bytes) : ClsRes :=
  { valid := BitVec.ofNat 6 (u16 b 0), decision := u8 b 2 % 4, tc := u8 b 3 % 8, sch := u16 b 4, pol := u16 b 6 % 8192,
    queue := u16 b 8 % 2048, flags := BitVec.ofNat 3 (u16 b 10) }

/-- The 16 bytes of a result. -/
def resBytes (r : ClsRes) : Bytes :=
  le 2 r.valid.toNat ++ le 1 r.decision ++ le 1 r.tc ++ le 2 r.sch ++ le 2 r.pol ++ le 2 r.queue ++
    le 2 r.flags.toNat ++ zb 4

/-- Every field of `r` whose valid bit is 1 overwrites the merged one (R63). -/
def resMerge (m r : ClsRes) : ClsRes :=
  { valid := m.valid ||| r.valid
    decision := if r.valid.getLsbD 0 then r.decision else m.decision
    sch := if r.valid.getLsbD 1 then r.sch else m.sch
    pol := if r.valid.getLsbD 2 then r.pol else m.pol
    tc := if r.valid.getLsbD 3 then r.tc else m.tc
    queue := if r.valid.getLsbD 4 then r.queue else m.queue
    flags := if r.valid.getLsbD 5 then r.flags else m.flags }

/-- A result without its SC (R63). -/
def resNoSc (r : ClsRes) : ClsRes := { r with valid := r.valid &&& 0x3D#6 }

/-! ### Locations (R66) -/

/-- One bit of CRC-32C. -/
def crcStep (c : W32) : W32 := if c.getLsbD 0 then (c >>> 1) ^^^ 0x82F63B78 else c >>> 1
/-- One byte of CRC-32C. -/
def crcByte (c : W32) (b : Byte) : W32 :=
  let x := c ^^^ b.setWidth 32
  crcStep (crcStep (crcStep (crcStep (crcStep (crcStep (crcStep (crcStep x)))))))
/-- CRC-32C. -/
def crc32c (m : Bytes) : W32 := ~~~ (m.foldl crcByte 0xFFFFFFFF)

/-- An XT key: type, low six bits of the port, KEY, TAGGED. -/
structure XtKey where
  typ : Nat
  port : Nat
  key : Nat
  tagged : Bool
  deriving DecidableEq, Repr

/-- The key of a stored entry. -/
def XtEntry.xtKey (e : XtEntry) : XtKey := ⟨e.typ, e.port, e.key, e.tagged⟩

/-- A key's location in a way (R66; log entries 29 and 101). -/
def xtLoc (c : Cls) (k : XtKey) (w : Nat) : Nat :=
  w * 65536 + (crc32c (le 4 (tget 0 c.seeds w).toNat ++ le 1 k.typ ++ le 1 k.port ++
    be 8 (k.key + 32768 * b2n k.tagged))).toNat % 65536

/-- Where the stash begins. -/
abbrev stashBase : Nat := 262144
/-- The eight stash slots. -/
def stashLocs : List Nat := (List.range 8).map (262144 + ·)
/-- A key's candidates, lowest way first. -/
def xtCands (c : Cls) (k : XtKey) : List Nat := [0, 1, 2, 3].map (xtLoc c k)
/-- What a location holds in the table. -/
def xtAt (c : Cls) (l : Nat) : XtSlot := tget none c.xt l
/-- Write a location. -/
def xtPut (l : Nat) (e : XtSlot) (c : Cls) : Cls := { c with xt := tset none c.xt l e }
/-- A location in the CLS_TCU_LOC layout (Table 3-9). -/
def locWord (l : Nat) : W32 :=
  if l < stashBase then BitVec.ofNat 32 (l % 65536 + 65536 * (l / 65536))
  else BitVec.ofNat 32 (262144 + 524288 * (l - stashBase))

/-- A location holds a key. -/
def slotHolds (k : XtKey) (x : XtSlot) : Bool := match x with
  | some e => e.xtKey == k
  | none => false

/-- The location where the table holds a key, staged or not. -/
def xtHolds (c : Cls) (k : XtKey) : Option Nat := (xtCands c k ++ stashLocs).find? (fun l => slotHolds k (xtAt c l))

/-- What one staged change makes of what a location holds (R81): a staged insert becomes visible; a modify gives its
result and kind, and a delete empties, where the location still holds the entry they were recorded for. The version and
the age stamp stay (R77; log entry 114). -/
def stagedSlot (l : Nat) (v : XtSlot) (x : Staged) : XtSlot := match x with
  | .xtIns i => if i == l then v.map (fun e => { e with staged := false }) else v
  | .xtMod i f => if i == l then v.map (fun e =>
      if e.xtKey == f.xtKey then { e with learned := f.learned, res := f.res } else e) else v
  | .xtDel i f => if i == l && slotHolds f.xtKey v then none else v
  | _ => v

/-- What a location will hold once the staging buffer is written into the table. -/
def xtPending (c : Cls) (l : Nat) : XtSlot := c.staging.foldl (stagedSlot l) (xtAt c l)

/-- What a lookup sees at a location (R67, R81). -/
def xtView (c : Cls) (l : Nat) : XtSlot :=
  if c.committed then xtPending c l
  else match xtAt c l with
    | some e => if e.staged then none else some e
    | none => none

/-- What an operation works on at a location: with STAGE, what the batch so far will leave there. -/
def xtSeen (stage : Bool) (c : Cls) (l : Nat) : XtSlot := if stage then xtPending c l else xtAt c l

/-- The location and entry an operation finds for a key (R67). An operation without STAGE finds an entry that is staged and not
committed too (DESIGN CHOICE: log entry 133). -/
def xtFind (stage : Bool) (c : Cls) (k : XtKey) : Option (Nat × XtEntry) :=
  (xtCands c k ++ stashLocs).findSome? (fun l => match xtSeen stage c l with
    | some e => if e.xtKey == k then some (l, e) else none
    | none => none)

/-- The location a lookup of a key hits (R67). -/
def xtHit (c : Cls) (k : XtKey) : Option Nat :=
  (xtCands c k ++ stashLocs).find? (fun l => match xtView c l with
    | some e => e.xtKey == k
    | none => false)

/-- What a lookup sees in the DT. -/
def dtView (c : Cls) (port vid : Nat) : ClsRes :=
  let base := tget .reset c.dt (port % 32 * 4096 + vid)
  if c.committed then
    (c.staging.reverse.findSome? (fun x => match x with
      | .dt p v r => if p % 32 == port % 32 && v == vid then some r else none
      | _ => none)).getD base
  else base

/-- The PT as lookups see it. -/
def ptView (c : Cls) : Tab (Option PtEntry) :=
  if c.committed then
    c.staging.foldl (fun t x => match x with
      | .pt i e => tset none t i e
      | _ => t) c.pt
  else c.pt

/-! ### Stash events (R84) -/

/-- Stash slots in use. -/
def stashUse (c : Cls) : Nat := (stashLocs.filter (fun l => (xtAt c l).isSome)).length

/-- XT_STASH_HIGH at 6, XT_STASH_LOW at 2 after it (R84). -/
def stashEvents (side : Nat) (s : State) : State :=
  let c := clsOf s side
  if !c.stashHigh && decide (6 ≤ stashUse c) then evH 0x2001 (le 1 side) (setCls side (fun c => { c with stashHigh := true }) s)
  else if c.stashHigh && decide (stashUse c ≤ 2) then
    evH 0x2002 (le 1 side) (setCls side (fun c => { c with stashHigh := false }) s)
  else s

/-! ### The insertion engine (R68, R69) -/

/-- Where an insertion goes: the moves to make first (source, destination; the last one first), and the location. -/
structure Place where
  moves : List (Nat × Nat)
  loc : Nat
  deriving DecidableEq, Repr

/-- The other way offsets of the relocation search (R68). -/
def ways (o : Nat) : Nat := match o with
  | 1 => 2 | 2 => 1 | _ => 3

/-- The way-`v` location of what a location holds. -/
def residentLoc (c : Cls) (l v : Nat) : Option Nat := (xtAt c l).map (fun e => xtLoc c e.xtKey v)

/-- The location second-level access `j` reads in way `v`, with the candidate whose resident it is. -/
def level2 (c : Cls) (k : XtKey) (j v : Nat) : Option (Nat × Nat) :=
  let cand := xtLoc c k ((v + ways j) % 4)
  (residentLoc c cand v).map (fun l => (cand, l))

/-- The relocation path of one move: second-level accesses 1 to 3, lowest way first. -/
def path1 (c : Cls) (k : XtKey) : Option Place :=
  [1, 2, 3].findSome? (fun j => [0, 1, 2, 3].findSome? (fun v => match level2 c k j v with
    | some (cand, l) => if (xtAt c l).isNone then some ⟨[(cand, l)], cand⟩ else none
    | none => none))

/-- The path of two moves: third-level accesses (1, 1) to (3, 3), lowest way first. -/
def path2 (c : Cls) (k : XtKey) : Option Place :=
  [1, 2, 3].findSome? (fun j => [1, 2, 3].findSome? (fun n => [0, 1, 2, 3].findSome? (fun u =>
    match level2 c k j ((u + ways n) % 4) with
    | none => none
    | some (cand, l2) => match residentLoc c l2 u with
      | some l3 => if (xtAt c l3).isNone then some ⟨[(l2, l3), (cand, l2)], cand⟩ else none
      | none => none)))

/-- Steps 2 to 4 of R68: a free candidate, a relocation path, a stash slot. -/
def xtPlace (c : Cls) (k : XtKey) : Option Place :=
  match (xtCands c k).find? (fun l => (xtAt c l).isNone) with
  | some l => some ⟨[], l⟩
  | none => match path1 c k with
    | some p => some p
    | none => match path2 c k with
      | some p => some p
      | none => (stashLocs.find? (fun l => (xtAt c l).isNone)).map (fun l => ⟨[], l⟩)

/-- A staged change whose location moved (R81). -/
def stagedMove (a b : Nat) (x : Staged) : Staged := match x with
  | .xtIns l => .xtIns (if l == a then b else l)
  | .xtMod l e => .xtMod (if l == a then b else l) e
  | .xtDel l e => .xtDel (if l == a then b else l) e
  | y => y

/-- Relocate an entry: it is written with VERSION increased by 1, then its old location is cleared (R69). -/
def xtMove (a b : Nat) (c : Cls) : Cls :=
  match xtAt c a with
  | none => c
  | some e =>
    let c := xtPut a none (xtPut b (some { e with version := e.version + 1 }) c)
    { c with staging := c.staging.map (stagedMove a b), moveCnt := c.moveCnt + 1 }

/-- Make a placement's moves and write the entry. -/
def xtWrite (p : Place) (e : XtEntry) (c : Cls) : Cls :=
  let c := p.moves.foldl (fun c m => xtMove m.1 m.2 c) c
  let c := xtPut p.loc (some e) c
  { c with insertCnt := c.insertCnt + 1, stashCnt := if p.loc < stashBase then c.stashCnt else c.stashCnt + 1 }

/-- A new entry: VERSION 0, age 0 (R77). -/
def xtNew (c : Cls) (k : XtKey) (learned staged : Bool) (r : ClsRes) : XtEntry :=
  { typ := k.typ, port := k.port, key := k.key, tagged := k.tagged, learned := learned, staged := staged, version := 0,
    res := r, stamp := c.tick }

/-- What an XT operation did: code of Table 3-9, moves, stashed, location. -/
structure XtDone where
  code : Nat
  moves : Nat
  stashed : Bool
  loc : Nat
  deriving DecidableEq, Repr

/-- Room in the staging buffer (R81). -/
def stageRoom (c : Cls) : Bool := decide (c.staging.length < 256)

/-- Record a change in the staging buffer. -/
def stagePut (x : Staged) (c : Cls) : Cls := { c with staging := c.staging ++ [x] }

/-- A static insertion (R68, Table 3-8); with `stage`, into the staging buffer, whose room is looked at first (DESIGN CHOICE: log
entry 133). -/
def xtInsert (k : XtKey) (r : ClsRes) (stage : Bool) (c : Cls) : XtDone × Cls :=
  if stage && !stageRoom c then (⟨4, 0, false, 0⟩, c)
  else match xtFind stage c k with
    | some (l, e) =>
      if e.learned then
        let e' := { e with learned := false, res := r }
        (⟨0, 0, false, l⟩, if stage then stagePut (.xtMod l e') c else xtPut l (some e') c)
      else (⟨1, 0, false, l⟩, c)
    | none => match xtPlace c k with
      | none => (⟨3, 0, false, 0⟩, c)
      | some p =>
        let c' := xtWrite p (xtNew c k false stage r) c
        (⟨0, p.moves.length, decide (stashBase ≤ p.loc), p.loc⟩, if stage then stagePut (.xtIns p.loc) c' else c')

/-- TBL_MODIFY's rule: STATIC 0 is for a learned entry whose new result is empty (03_classifier.md, TBL_MODIFY). -/
def modifyFits (e : XtEntry) (static : Bool) (r : ClsRes) : Bool := static || (e.learned && r.valid == 0)

/-- A modification by key: NOT_FOUND (2), or 5 for one that does not fit. -/
def xtModify (k : XtKey) (static : Bool) (r : ClsRes) (stage : Bool) (c : Cls) : XtDone × Cls :=
  if stage && !stageRoom c then (⟨4, 0, false, 0⟩, c)
  else match xtFind stage c k with
    | none => (⟨2, 0, false, 0⟩, c)
    | some (l, e) =>
      if !modifyFits e static r then (⟨5, 0, false, l⟩, c)
      else
        let e' := { e with learned := e.learned && !static, res := r }
        (⟨0, 0, false, l⟩, if stage then stagePut (.xtMod l e') c else xtPut l (some e') c)

/-- A deletion by key. -/
def xtDelete (k : XtKey) (stage : Bool) (c : Cls) : XtDone × Cls :=
  if stage && !stageRoom c then (⟨4, 0, false, 0⟩, c)
  else match xtFind stage c k with
    | none => (⟨2, 0, false, 0⟩, c)
    | some (l, e) => (⟨0, 0, false, l⟩, if stage then stagePut (.xtDel l e) c else xtPut l none c)

/-- Learned entries of a port. -/
def learnedOf (c : Cls) (port : Nat) : Nat :=
  (c.xt.filter (fun e => e.2.any (fun x => x.learned && x.port == port % 64))).length

/-- Apply one staged change to the tables (R81). -/
def stageApply (x : Staged) (c : Cls) : Cls := match x with
  | .dt p v r => { c with dt := tset .reset c.dt (p % 32 * 4096 + v) r }
  | .xtIns l => xtPut l (stagedSlot l (xtAt c l) x) c
  | .xtMod l _ => xtPut l (stagedSlot l (xtAt c l) x) c
  | .xtDel l _ => xtPut l (stagedSlot l (xtAt c l) x) c
  | .pt i e => { c with pt := tset none c.pt i e }

/-! ### Keys (R46, R60, R71) -/

/-- The VID of the outer tag, 0 when untagged (Table 3-3). -/
def Parsed.vid (p : Parsed) : Nat := match p.outer with
  | some (_, tci) => tci % 4096
  | none => 0

/-- The SCI of a received frame (R46). -/
def rxSci (implicit : Nat) (p : Parsed) (t : SecTag) : Nat := match t.sci with
  | some x => x
  | none => if nbit t.tci 6 then p.sa * 65536 + 1 else implicit

/-- The XT key of a frame (Table 3-3). -/
def frameKey (s : State) (port' : Nat) (p : Parsed) : XtKey := match p.tag with
  | some t => ⟨1, port' % 64, rxSci (port s port').cfg.sci p t, false⟩
  | none => ⟨2, port' % 64, p.da * 65536 + p.vid, p.outer.isSome⟩

/-- The PT key of a frame (Table 3-7). -/
def ptKey (port' : Nat) (h : Bytes) (p : Parsed) : Bytes :=
  let multicast := nbit (u8 h 0) 0
  le 1 port' ++ le 1 (mask [p.outer.isSome, p.inner.isSome, p.tag.isSome, (p.outer.map (·.1)).getD false, multicast]) ++
    pad 6 (h.take 6) ++ pad 6 (sub h 6 6) ++ le 2 p.et ++ le 2 ((p.outer.map (·.2)).getD 0) ++ le 2 (p.inner.getD 0) ++
    le 1 ((p.tag.map (·.tci)).getD 0) ++ zb 1 ++ be 2 p.pay

/-- A PT entry matches a key (R71). -/
def ptMatch (e : PtEntry) (key : Bytes) : Bool := (List.zipWith (· &&& ·) key e.mask) == e.key

/-! ### Lookup, merge, completion (R62 to R64, R74, R75, R77) -/

/-- What classification decides. -/
inductive ClsOut where
  /-- Dropped and counted. -/
  | drop
  /-- The frame proceeds with its completed result. -/
  | go (r : ClsRes)
  deriving DecidableEq, Repr

/-- Count at a side's port. -/
def cntCls (p : Nat) (f : ClsPortCnt → ClsPortCnt) (s : State) : State :=
  setCls (portSide p) (fun c => { c with perPort := tmod .reset c.perPort (p % 32) f }) s

/-- A port's learned entries have reached its limit (R75). -/
def learnFull (c : Cls) (p : Nat) : Bool :=
  let lim := (tget .reset c.learn (p % 32)).limit
  lim != 0 && decide (lim ≤ learnedOf c p)

/-- A frame that reaches the fourth condition of Table 3-4 may start a learn request (R74, R75). -/
def learnStart (p sci : Nat) (flags : BitVec 3) (s : State) : State :=
  let c := clsOf s 1
  let cfg := tget .reset c.learn (p % 32)
  if !cfg.on || flags.getLsbD 2 then s
  else if c.learnQ.contains ⟨p, sci⟩ then s
  else if learnFull c p then setCls 1 (fun c => { c with limitCnt := c.limitCnt + 1 }) s
  else if 16 ≤ c.learnQ.length then setCls 1 (fun c => { c with dropCnt := c.dropCnt + 1 }) s
  else occur 3 5 p 1 (setCls 1 (fun c => { c with learnQ := c.learnQ ++ [⟨p, sci⟩] }) s)

/-- The XT lookup: its result, with the entry's age stamp written (R77). -/
def xtLookup (side : Nat) (k : XtKey) (s : State) : Option ClsRes × State :=
  let c := clsOf s side
  match xtHit c k with
  | none => (none, s)
  | some l =>
    ((xtView c l).map (·.res), setCls side (fun c => xtPut l ((xtAt c l).map (fun e => { e with stamp := c.tick })) c) s)

/-- Count a hit at a PT entry: in the table, or in the staging buffer where a committed batch writes the entry (R73). -/
def ptHit (i : Nat) (c : Cls) : Cls :=
  let up (e : PtEntry) : PtEntry := { e with hits := e.hits + 1 }
  if c.committed && c.staging.any (fun x => match x with
      | .pt j _ => j == i
      | _ => false) then
    { c with staging := c.staging.map (fun x => match x with
      | .pt j e => .pt j (if j == i then e.map up else e)
      | y => y) }
  else { c with pt := tset none c.pt i ((tget none c.pt i).map up) }

/-- The PT search: the winning result, its hit counted (R71, R73). -/
def ptLookup (side : Nat) (key : Bytes) (s : State) : Option ClsRes × State :=
  match (ptView (clsOf s side)).find? (fun e => match e.2 with
    | some x => ptMatch x key
    | none => false) with
  | some (i, some x) =>
    (some x.res, setCls side (ptHit i) s)
  | _ => (none, s)

/-- The merged result of a frame, and whether an XT entry supplied the SC (R63). -/
def clsMerge (p : Nat) (hdr : Bytes) (ps : Parsed) (s : State) : ClsRes × Bool × State :=
  let side := portSide p
  let sec := ps.tag.isSome
  let cut (r : ClsRes) : ClsRes := if sec then resNoSc r else r
  let d := cut (dtView (clsOf s side) p (if sec then 0 else ps.vid))
  let x := xtLookup side (frameKey s p ps) s
  let t := ptLookup side (ptKey p hdr ps) x.2
  let m := resMerge .reset d
  let m := match x.1 with
    | some r => resMerge m r
    | none => m
  let m := match t.1 with
    | some r => resMerge m (cut r)
    | none => m
  let s := occur (2 + side) (if x.1.isSome then 2 else 3) p 1 t.2
  (m, (x.1.map (fun r => r.valid.getLsbD 1)).getD false, if t.1.isSome then occur (2 + side) 4 p 1 s else s)

/-- The SCH is an SC of the direction and the port the ingress allows (R86). -/
def scFits (s : State) (p sch : Nat) : Bool := match scOf s sch with
  | none => false
  | some c => if p < 32 then !c.rx && pairOf s p == some c.port else c.rx && c.port == p

/-- Table 3-4: the first check that applies decides, before the policer (log entry 105). -/
def clsCheck (p : Nat) (ps : Parsed) (m : ClsRes) (scFromXt : Bool) (s : State) : ClsOut × State :=
  let line := decide (32 ≤ p)
  let ctl := m.decision == 0
  if !m.valid.getLsbD 0 then (.drop, cntCls p (fun c => { c with default := c.default + 1 }) s)
  else if m.decision == 2 then (.drop, cntCls p (fun c => { c with drop := c.drop + 1 }) s)
  else if ctl && line && ps.tag.isNone then (.drop, cntCls p (fun c => { c with untagged := c.untagged + 1 }) s)
  else if ctl && line && !scFromXt then
    let s := { s with chan := { s.chan with unknownSci := tmod 0 s.chan.unknownSci (p % 32) (· + 1) } }
    (.drop, learnStart p (frameKey s p ps).key m.flags s)
  else if ctl && ((!line && !m.valid.getLsbD 1) || !scFits s p m.sch) then
    (.drop, cntCls p (fun c => { c with nosc := c.nosc + 1 }) s)
  else (.go m, s)

/-- The completion of a frame that proceeds: TC, queue, flags (R64). -/
def clsComplete (p : Nat) (ps : Parsed) (m : ClsRes) (s : State) : ClsRes × State :=
  let tc := if m.valid.getLsbD 3 then m.tc else match ps.outer with
    | some (_, tci) => tci / 8192
    | none => 0
  let flags := if m.valid.getLsbD 5 then m.flags else 0
  let eg := (pairOf s p).getD p
  let side := tmSide eg
  let oor := m.valid.getLsbD 4 && !inRange (rangeOf (tmOf s side) side (eg % 32)) m.queue
  let m := { m with tc := tc, flags := flags, valid := if oor then m.valid &&& 0x2F#6 else m.valid }
  (m, if oor then setCls (portSide p) (fun c => { c with queueOorCnt := c.queueOorCnt + 1 }) s else s)

/-- The classification of a frame (R62 to R64). -/
def classify (p : Nat) (hdr : Bytes) (s : State) : ClsOut × State :=
  let ps := parse (decide (32 ≤ p)) hdr
  let (m, x, s) := clsMerge p hdr ps s
  match clsCheck p ps m x s with
  | (.go m, s) =>
    let r := clsComplete p ps m s
    (.go r.1, r.2)
  | o => o

end Sys2Proof.Machine
end

