-- ==== Sys2Proof/Machine/Tick.lean ====
section
/-! DEFINITION. TOD as a number, and what passes of it in TCLK cycles (R234, R237; log entry 24). -/
namespace Sys2Proof.Machine

/-- A TOD as one number of 2^-32 ns. -/
def timeNum (ns : W64) (frac : W32) : Int := (ns.toNat * 4294967296 + frac.toNat : Nat)
/-- A number of 2^-32 ns as a TOD, modulo 2^64 ns. -/
def timeOf (t : Int) : W64 × W32 :=
  let n := (t % (2 ^ 96 : Nat)).toNat
  (BitVec.ofNat 64 (n / 4294967296), BitVec.ofNat 32 (n % 4294967296))
/-- By how much one time is after another, both in 2^-32 ns: the signed difference modulo 2^64 ns (R236). -/
def timeGap (a b : Int) : Int := Int.bmod (a - b) (2 ^ 96)
/-- TOD in 2^-32 ns. -/
def todNow (s : State) : Int := timeNum s.tsu.ns s.tsu.frac

/-- Add a number of 2^-32 ns to TOD. -/
def todAdd (d : Int) (s : State) : State :=
  { s with tsu := { s.tsu with ns := (timeOf (todNow s + d)).1, frac := (timeOf (todNow s + d)).2 } }

/-- What a slew absorbs in `n` TCLK: TOD_INC / 1,024 in each, rounded towards zero, until it is used up (R237). -/
def slewPart (inc n : Nat) (slew : Int) : Int :=
  let most : Int := (n * (inc / 1024) : Nat)
  max (-most) (min most slew)

/-- The last instant, at or before a TOD, at which the PTP view's nanoseconds reach the PPS_OUT offset (R251). -/
def ppsInstant (t : Tsu) : W64 :=
  let off := (((t.ns.toNat : Int) - t.ppsOffset) % 1000000000).toNat
  t.ns - BitVec.ofNat 64 off

/-- The instant of an enabled PPS_OUT that TOD has reached by running on by `d`, in 2^-32 ns (R251). -/
def ppsReached (d : Int) (s : State) : Option W64 :=
  let i := ppsInstant s.tsu
  if s.tsu.ppsOut && decide (timeGap (todNow s) (timeNum i 0) < d) then some i else none

/-- `n` TCLK cycles: TOD and the count of R242 advance by TOD_INC each, the slew goes on, the meter's clock
runs, as do the times since the reset inputs were released, and the RTC. -/
def tclks (n : Nat) (s : State) : State :=
  let s := if s.mtr.powered then { s with mtr := { s.mtr with clocks := s.mtr.clocks + n } } else s
  let s := { s with
    tamper := { s.tamper with rtcDue := true }
    boot := { s.boot with
      porClk := if s.boot.por then 0 else s.boot.porClk + n, pinClk := if live s then s.boot.pinClk + n else 0 } }
  if !live s then s
  else
    let d := slewPart s.tsu.inc n s.tsu.slew
    let adv : Int := (n * s.tsu.inc : Nat) + d
    let t := todAdd adv s
    { t with tsu := { t.tsu with
      count := s.tsu.count + n * s.tsu.inc, slew := s.tsu.slew - d, ppsDue := ppsReached adv t } }

end Sys2Proof.Machine
end

