-- ==== Sys2Proof/Machine/PtpOps.lean ====
section
/-! DEFINITION. Timestamps, the timestamp FIFO and the recognition and correction of PTP messages (10_time.md, R241 to
R250). Times are counted in 2^-32 ns. DEDUCED: log entry 82. -/
namespace Sys2Proof.Machine

/-! ### Latencies -/

/-- Tenths of a ns in 2^-32 ns (log entry 31). -/
def tenths (n : Nat) : Int := (n * 4294967296 / 10 : Nat)
/-- Signed ps in 2^-32 ns, rounded towards zero (log entry 31). -/
def psUnits (p : Int) : Int := (p * 4294967296).tdiv 1000
/-- Fixed latencies of a lane mode: capture to transmit ball, receive ball to capture, in tenths of a ns (Tables 1-11
and 2-2; GP0 takes the 100GbE row of its lane rate). -/
def modeLatency (c : PortCfg) : Nat × Nat := match c.lane with
  | 1 => if c.fec == 0 then (384, 448) else (553, 1287)
  | 2 => (557, 1219)
  | 3 | 8 => (486, 963)
  | 4 | 9 => (610, 1402)
  | 5 => (589, 1315)
  | 6 => (512, 1120)
  | 7 => (526, 1184)
  | _ => (0, 0)

/-- PTP settings and counters of a port. -/
def ptpPort (s : State) (p : Nat) : PtpPort := tget .reset s.tsu.ports p
/-- Change a port's PTP record. -/
def setPtp (p : Nat) (f : PtpPort → PtpPort) (s : State) : State :=
  { s with tsu := { s.tsu with ports := tmod .reset s.tsu.ports p f } }

/-- L + A on transmit (R241). -/
def txDelay (s : State) (p : Nat) : Int :=
  tenths (modeLatency (port s p).cfg).1 + psUnits (signed 4 (ptpPort s p).asymTx.toNat)
/-- L + A on receive (R241). -/
def rxDelay (s : State) (p : Nat) : Int :=
  tenths (modeLatency (port s p).cfg).2 + psUnits (signed 4 (ptpPort s p).asymRx.toNat)

/-- A capture of the time-sync unit and its phase within its TCLK, in steps of 156.25 ps: how much later than the present TOD it is, in 2^-32 ns. The
phase is a free value (R241; log entry 123). -/
def capturePhase (s : State) : Nat × State :=
  ((drawFree 123 s).1.toNat % 8 * 671088640, occur 9 1 0 1 (drawFree 123 s).2)

/-- The receive timestamp of a capture made at a phase from now (R241). -/
def rxStamp (s : State) (p phase : Nat) : W64 × W32 := timeOf (todNow s + phase - rxDelay s p)
/-- The transmit timestamp of a capture made at a phase from now (R241). -/
def txStamp (s : State) (p phase : Nat) : W64 × W32 := timeOf (todNow s + phase + txDelay s p)

/-- 2^-32 ns to 2^-16 ns, to the nearest, ties away from zero (R242). -/
def toCorrection (t : Int) : Int := if 0 ≤ t then (t + 32768) / 65536 else -((-t + 32768) / 65536)

/-! ### The timestamp FIFO (R243) -/

/-- A record for firmware; one that finds the FIFO full is lost, with event 0x6008 once per episode. -/
def tsPush (r : TsRec) (s : State) : State :=
  if s.tsu.fifo.length < 4096 then { s with tsu := { s.tsu with fifo := s.tsu.fifo ++ [r] } }
  else
    let t := { s with tsu := { s.tsu with fifoLost := s.tsu.fifoLost + 1, overflow := true } }
    if s.tsu.overflow then t else evH 0x6008 [] t

/-! ### Modes and corrections (R245, R248) -/

/-- A port's PTP mode: ignored while it is the clock port (R248). -/
def ptpMode (s : State) (p : Nat) : Nat := if s.tsu.clockPort == p then 0 else (ptpPort s p).mode

/-- What is added to an event message that crosses from an ingress to an egress port in a residence: none when it is not
corrected (R245; log entry 32). -/
def ptpAmount (s : State) (ingress egress typ : Nat) (residence : Int) : Option Int :=
  match ptpMode s egress with
  | 1 => some (toCorrection residence)
  | 2 =>
    if typ == 0 then
      some (toCorrection residence + if ptpMode s ingress == 2 then (ptpPort s ingress).linkDelay else 0)
    else none
  | _ => none

/-- The residence of a frame captured for transmission at a count: t_tx - t_rx on the count of R242. -/
def residence (s : State) (f : Frame) (txCount : Nat) : Int :=
  (txCount : Int) - (f.rxCount : Int) + txDelay s f.egress + (match f.ingress with
    | some p => rxDelay s p
    | none => 0)

/-- The 56 bytes of a fallback notice (Table 10-5). -/
def fallbackBody (s : State) (f : Frame) (d : Bytes) (m : Nat) (t : W64 × W32 × Nat) : Bytes :=
  le 1 f.egress ++ le 1 (f.ingress.getD 0xFF) ++ le 1 (u8 d m % 16) ++ le 1 (u8 d (m + 4)) ++
    le 2 (beNat (sub d (m + 30) 2)) ++ zb 2 ++ pad 10 (sub d (m + 20) 10) ++ zb 6 ++ le64 f.tRx ++ le 4 f.tRxFrac.toNat ++
    le 4 t.2.1.toNat ++ le64 t.1 ++ leInt 8 (toCorrection (residence s f t.2.2))

/-! ### Frames -/

/-- The bytes of a frame in clear, as far as they are known: what its PTP message is read from. -/
def clearBytes (f : Frame) : Option Bytes := match f.kind with
  | .clear | .enc | .cp => some (f.data.getD f.hdr)
  | .xcEnc => none
  | _ => f.plain

/-- Decide what the egress MAC writes into a frame that leaves in clear, once its bytes are known and it is captured
(R246, R248); a one-step Sync injected in clear takes its originTimestamp here. -/
def ptpDecide (id : Nat) (s : State) : State :=
  match frameOf s id with
  | none => s
  | some f => match f.kind, f.tTx, clearBytes f with
    | .enc, _, _ | .xcEnc, _, _ => s
    | _, some t, some d =>
      if f.fix.isSome || f.stamp.isSome then s
      else match f.ingress, ptpEvent d with
        | some p, some typ => match ptpAmount s p f.egress typ (residence s f t.2.2) with
          | some k => setPtp f.egress (fun x => { x with corr := x.corr + 1 }) (setFrame id (some { f with fix := some k }) s)
          | none => s
        | none, some _ => if f.origin then setFrame id (some { f with stamp := some t.1 }) s else s
        | _, none => s
    | _, _, _ => s

/-- The transmit capture of a frame that begins to leave, `wait` from now (R241): requested captures and fallbacks go to the FIFO
(R243, R250), and what the egress MAC writes is decided. -/
def txCapture (id wait : Nat) (s : State) : State :=
  match frameOf s id with
  | none => s
  | some f =>
    let c := capturePhase s
    let x := txStamp s f.egress (wait + c.1)
    let t := (x.1, x.2, s.tsu.count + wait + c.1)
    let s := c.2
    let s := setFrame id (some { f with tTx := some t }) s
    let s := if f.express && f.slot.isNone then
        let s := setPtp f.egress (fun y => { y with fallback := y.fallback + 1 }) s
        let d := f.data.getD f.hdr
        match f.ingress, ptpAt d with
        | none, m => tsPush (.fallback f.egress (some ⟨f.tc, f.txSch, d⟩) (fallbackBody s f d (m.getD 14) t)) s
        | some _, some m =>
          if (ptpPort s f.egress).notify && (ptpEvent d).isSome then tsPush (.fallback f.egress none (fallbackBody s f d m t)) s
          else s
        | some _, none => s
      else if f.ingress.isNone && f.capture then tsPush (.tx f.egress x.1 x.2) s
      else s
    ptpDecide id s

end Sys2Proof.Machine
end

