-- ==== Sys2Proof/Machine/Policers.lean ====
section
/-! DEFINITION. Ingress policers (09_policing_gates.md, R213 to R220). Tokens are counted in 2^-24 byte. -/
namespace Sys2Proof.Machine

/-- A policer. -/
def polOf (s : State) (side i : Nat) : Policer := tget .reset (s.pol.get side) i
/-- Change a policer. -/
def setPol (side i : Nat) (f : Policer → Policer) (s : State) : State :=
  { s with pol := s.pol.upd side (fun t => tmod .reset t i f) }

/-- What a rate in kbit/s gains in 40 ns, rounded down to 2^-24 byte (R195, R215). -/
def refillOf (rate : Nat) : Int := (rate * 83886080 / 1000000 : Nat)

/-- Whole bytes as tokens. -/
def tok (bytes : Nat) : Int := (bytes * 16777216 : Nat)

/-- The refill of R215. -/
def polRefill (p : Policer) : Policer :=
  let c := p.c + refillOf p.cir
  let cap := tok p.cbs
  match p.mode with
  | 1 => { p with c := min c cap, e := if cap < c then min (p.e + (c - cap)) (tok p.ebs) else p.e }
  | 2 => { p with c := min c cap, e := min (p.e + refillOf p.pir) (tok p.ebs) }
  | _ => p

/-- POLICER_REFILL: every 64 CCLK (R215). -/
def policerRefill (s : State) : State :=
  if live s then
    { s with pol := ⟨tmap .reset polRefill s.pol.host, tmap .reset polRefill s.pol.line⟩ }
  else s

/-- The colour decision of Table 9-1: 0 green, 1 yellow, 2 red; and the buckets named, C then E or P (R216). -/
def polDecide (p : Policer) (yellow : Bool) : Nat × Bool × Bool :=
  let holdC := decide (0 < p.c)
  let holdE := decide (0 < p.e)
  let y := yellow && p.aware
  match p.mode with
  | 1 =>
    if !y && holdC then (0, true, false) else if holdE then (1, false, true) else (2, false, false)
  | 2 =>
    if !holdE then (2, false, false) else if y then (1, false, true)
    else if !holdC then (1, false, true) else (0, true, true)
  | _ => (0, false, false)

/-- The charged length, at least 1 byte (R218). -/
def polCharge (p : Policer) (len : Nat) : Int := tok (Int.toNat (max 1 ((len : Int) + p.adjust)))

/-- The debit of a frame at its last byte, unless a POL_SET committed since (R218, R220). -/
def polDebit (d : Debit) (len : Nat) (s : State) : State :=
  setPol d.side d.index (fun p =>
    if p.epoch != d.epoch then p
    else { p with c := if d.c then p.c - polCharge p len else p.c, e := if d.e then p.e - polCharge p len else p.e }) s

/-- Count a red frame where it is dropped (R219). -/
def polRed (side i : Nat) (s : State) : State := setPol side i (fun p => { p with red := p.red + 1 }) s

/-- Count a frame's colour and its octets at its last byte; a red frame is counted already (R219, Table 9-7). -/
def polCount (side i colour len : Nat) (s : State) : State :=
  setPol side i (fun p => match colour with
    | 0 => { p with green := p.green + 1, greenOct := p.greenOct + BitVec.ofNat 64 len }
    | 1 => { p with yellow := p.yellow + 1, yellowOct := p.yellowOct + BitVec.ofNat 64 len }
    | _ => { p with redOct := p.redOct + BitVec.ofNat 64 len }) s

/-- One entry of POL_SET (Table 9-11, R220). -/
def polEntry (e : Bytes) (s : State) : Nat × State :=
  let mode := u8 e 4
  let a := signed 1 (u8 e 6)
  if 1 < u8 e 0 || u8 e 1 != 0 || 8191 < u16 e 2 || 2 < mode || 1 < u8 e 5 || u8 e 7 != 0 || a < -64 ||
     !zeros e 24 8 || 16777215 < u32 e 16 || 16777215 < u32 e 20 || (mode != 2 && u32 e 12 != 0) ||
     (mode == 2 && u32 e 12 < u32 e 8) then (stInvalid, s)
  else
    (stOk, setPol (u8 e 0) (u16 e 2) (fun p =>
      { p with mode := mode, aware := nbit (u8 e 5) 0, adjust := a, cir := u32 e 8, pir := u32 e 12, cbs := u32 e 16,
               ebs := u32 e 20, c := tok (u32 e 16), e := tok (u32 e 20), epoch := p.epoch + 1 }) s)

/-- POL_SET (R233). -/
def polSet (d : DmaRead) (c : Cmd) (s : State) : Res :=
  if lcBad s then fail stWrongState s else batch 32 4096 polEntry c d s

/-- The 32-byte layout of Table 9-11. -/
def polBytes (side i : Nat) (p : Policer) : Bytes :=
  [BitVec.ofNat 8 side, 0] ++ le 2 i ++ [BitVec.ofNat 8 p.mode, BitVec.ofNat 8 (b2n p.aware)] ++ leInt 1 p.adjust ++
  zb 1 ++ le 4 p.cir ++ le 4 p.pir ++ le 4 p.cbs ++ le 4 p.ebs ++ zb 8

/-- Tokens in bytes, rounded towards zero. -/
def tokBytes (t : Int) : Int := t.tdiv 16777216

/-- POL_GET (R233). -/
def polGet (c : Cmd) (s : State) : Res :=
  let p := c.payload
  let x := polOf s (u8 p 0) (u16 p 2)
  if lcBad s then fail stWrongState s
  else if p.length != 4 || 1 < u8 p 0 || u8 p 1 != 0 || 8191 < u16 p 2 then fail stInvalid s
  else okWith (polBytes (u8 p 0) (u16 p 2) x ++ leInt 4 (tokBytes x.c) ++ leInt 4 (tokBytes x.e) ++ zb 8) s

/-- The statistics block of Table 9-7. -/
def polBlock (e : Bytes) (s : State) : Bytes :=
  let p := polOf s (u8 e 0) (u16 e 2)
  [BitVec.ofNat 8 (u8 e 0), BitVec.ofNat 8 p.mode] ++ le 2 (u16 e 2) ++ zb 4 ++ le64 p.green ++ le64 p.greenOct ++
  le64 p.yellow ++ le64 p.yellowOct ++ le64 p.red ++ le64 p.redOct

/-- POL_STATS_GET (R233). -/
def polStatsGet (d : DmaRead) (c : Cmd) (s : State) : Res :=
  if lcBad s then fail stWrongState s
  else statsCmd 4 8192 56 72 (fun e _ => decide (u8 e 0 ≤ 1) && u8 e 1 == 0 && decide (u16 e 2 ≤ 8191)) polBlock c d s

/-! ### The meanings -/

def execPolicerRefill (s : State) : Host.Outcome State Fault Refusal := .next (policerRefill s)
def execPolSet (mb : Nat) (dma : DmaRead) (s : State) : Host.Outcome State Fault Refusal :=
  .next (fcpDma 0x0510 mb dma polSet s)
def execPolGet (mb : Nat) (s : State) : Host.Outcome State Fault Refusal := .next (fcp 0x0511 mb polGet s)
def execPolStatsGet (mb : Nat) (dma : DmaRead) (s : State) : Host.Outcome State Fault Refusal :=
  .next (fcpDma 0x0512 mb dma polStatsGet s)

end Sys2Proof.Machine
end

