-- ==== Sys2Proof/Machine/TmCmd.lean ====
section
/-! DEFINITION. The commands of the traffic managers (08_scheduling_shaping.md, R195, R197, R211, R212). -/
namespace Sys2Proof.Machine

/-- A shaper, by level 0 queue, 1 class, 2 port, and index. -/
def shaperOf (s : State) (side level i : Nat) : Shaper :=
  let t := tmOf s side
  tget .reset (match level with | 0 => t.qShapers | 1 => t.cShapers | _ => t.pShapers) i
/-- Change a shaper. -/
def setShaper (side level i : Nat) (f : Shaper → Shaper) (s : State) : State :=
  setTm side (fun t => match level with
    | 0 => { t with qShapers := tmod .reset t.qShapers i f }
    | 1 => { t with cShapers := tmod .reset t.cShapers i f }
    | _ => { t with pShapers := tmod .reset t.pShapers i f }) s

/-- The 32-byte layout of Table 8-10. -/
def tmPortBytes (s : State) (p : Nat) : Bytes :=
  let x := tmPort s p
  let r := rangeOf (tmOf s (tmSide p)) (tmSide p) (p % 32)
  [BitVec.ofNat 8 p, 0] ++ le 2 r.1 ++ le 2 r.2 ++ le 2 x.headroom ++ le 2 x.xonGap ++ le 2 x.classXoff ++ le 2 x.lead ++
  le 2 x.expMax ++ x.pfc.map (BitVec.ofNat 8) ++ zb 8

/-- Two queue ranges overlap. -/
def rangesMeet (a b : Nat × Nat) : Bool := decide (a.1 < b.1 + b.2) && decide (b.1 < a.1 + a.2)

/-- A value lies between two bounds. -/
def within (v lo hi : Nat) : Bool := decide (lo ≤ v) && decide (v ≤ hi)

/-- The fields of a TM_PORT_SET are in range for the port's side (Table 8-10, R212). -/
def tmPortValid (s : State) (p : Bytes) : Bool :=
  let n := u8 p 0
  let side := tmSide n
  let r := (u16 p 2, u16 p 4)
  let f (off lo hi : Nat) := if side == 0 then u16 p off == 0 else within (u16 p off) lo hi
  p.length == 32 && decide (n < 64) && u8 p 1 == 0 && zeros p 24 8 && within r.2 8 2048 && r.2 % 8 == 0 &&
  decide (r.1 + r.2 ≤ 2048) &&
  !(List.range 32).any (fun k => k != n % 32 && rangesMeet r (rangeOf (tmOf s side) side k)) &&
  f 6 16 1024 && f 8 16 512 && f 10 32 8192 && f 12 100 65535 && f 14 64 1518 &&
  ((port s n).cfg.role != 3 || sub p 16 8 == [1, 2, 4, 8, 16, 32, 64, 128])

/-- TM_PORT_SET (R212). -/
def tmPortSet (c : Cmd) (s : State) : Res :=
  let p := c.payload
  let n := u8 p 0
  let r := (u16 p 2, u16 p 4)
  if lcBad s then fail stWrongState s
  else if !tmPortValid s p then fail stInvalid s
  else if r != rangeOf (tmOf s (tmSide n)) (tmSide n) (n % 32) &&
    !((port s n).st == .disabled || (port s n).st == .adminDown) then fail stWrongState s
  else
    ok (setTmPort n (fun x => { x with
      range := if r == (64 * (n % 32), 64) then none else some r
      headroom := u16 p 6, xonGap := u16 p 8, classXoff := u16 p 10, lead := u16 p 12, expMax := u16 p 14
      pfc := (sub p 16 8).map (·.toNat) }) s)

/-- TM_PORT_GET (R212). -/
def tmPortGet (c : Cmd) (s : State) : Res :=
  let p := c.payload
  if lcBad s then fail stWrongState s
  else if p.length != 4 || 63 < u8 p 0 || !zeros p 1 3 then fail stInvalid s
  else okWith (tmPortBytes s (u8 p 0)) s

/-- One entry of TM_QUEUE_SET (R212, Table 8-11). -/
def tmQueueEntry (e : Bytes) (s : State) : Nat × State :=
  let side := u8 e 0
  let q := u16 e 2
  if 1 < side || 7 < u8 e 1 || 2047 < q || u8 e 4 == 0 || !zeros e 5 3 || !within (u32 e 8) 1 98304 || !zeros e 12 4 then
    (stInvalid, s)
  else if u8 e 1 != queueTc q (queueOf s side q) && !(queueOf s side q).frames.isEmpty then (stWrongState, s)
  else
    (stOk, setQueue side q (fun x => { x with
      tc := if u8 e 1 == q % 8 then none else some (u8 e 1), weight := u8 e 4, limit := u32 e 8 }) s)

/-- TM_QUEUE_SET (R212). -/
def tmQueueSet (d : DmaRead) (c : Cmd) (s : State) : Res :=
  if lcBad s then fail stWrongState s else batch 16 4096 tmQueueEntry c d s

/-- The 16-byte layout of Table 8-11. -/
def tmQueueBytes (side q : Nat) (x : Queue) : Bytes :=
  [BitVec.ofNat 8 side, BitVec.ofNat 8 (queueTc q x)] ++ le 2 q ++ [BitVec.ofNat 8 x.weight] ++ zb 3 ++ le 4 x.limit ++
  zb 4

/-- TM_QUEUE_GET (Table 8-9). -/
def tmQueueGet (c : Cmd) (s : State) : Res :=
  let p := c.payload
  if lcBad s then fail stWrongState s
  else if p.length != 4 || 1 < u8 p 0 || u8 p 1 != 0 || 2047 < u16 p 2 then fail stInvalid s
  else okWith (tmQueueBytes (u8 p 0) (u16 p 2) (queueOf s (u8 p 0) (u16 p 2))) s

/-- The number of shapers of a level (R195). -/
def shaperCount (level : Nat) : Nat := match level with | 0 => 2048 | 1 => 256 | _ => 32

/-- What a committed TM_SHAPER_SET does to the credit: debt is kept, a credit of 0 or more is set by the new policy
(R197). -/
def shaperCommit (rate burst : Nat) (adjust : Int) (excl zero : Bool) (x : Shaper) : Shaper :=
  { rate := rate, burst := burst, adjust := adjust, excl := excl, zero := zero
    credit := if x.credit < 0 then x.credit else if zero then 0 else tok burst }

/-- One entry of TM_SHAPER_SET (R212, Table 8-12). -/
def tmShaperEntry (e : Bytes) (s : State) : Nat × State :=
  let a := signed 1 (u8 e 12)
  if 1 < u8 e 0 || 2 < u8 e 1 || shaperCount (u8 e 1) ≤ u16 e 2 || !within (u32 e 8) 2048 16777215 || a < -64 ||
     3 < u8 e 13 || !zeros e 14 2 then (stInvalid, s)
  else
    (stOk, setShaper (u8 e 0) (u8 e 1) (u16 e 2)
      (shaperCommit (u32 e 4) (u32 e 8) a (nbit (u8 e 13) 0) (nbit (u8 e 13) 1)) s)

/-- TM_SHAPER_SET (R197, R212). -/
def tmShaperSet (d : DmaRead) (c : Cmd) (s : State) : Res :=
  if lcBad s then fail stWrongState s else batch 16 4096 tmShaperEntry c d s

/-- TM_SHAPER_GET (Table 8-9). -/
def tmShaperGet (c : Cmd) (s : State) : Res :=
  let p := c.payload
  let x := shaperOf s (u8 p 0) (u8 p 1) (u16 p 2)
  if lcBad s then fail stWrongState s
  else if p.length != 4 || 1 < u8 p 0 || 2 < u8 p 1 || shaperCount (u8 p 1) ≤ u16 p 2 then fail stInvalid s
  else okWith (sub p 0 4 ++ le 4 x.rate ++ le 4 x.burst ++ leInt 1 x.adjust ++
    [BitVec.ofNat 8 (mask [x.excl, x.zero])] ++ zb 2 ++ leInt 4 (tokBytes x.credit) ++ zb 4) s

/-- TM_STATS_GET (Table 8-7). -/
def tmStatsGet (c : Cmd) (s : State) : Res :=
  let p := c.payload
  let n := u8 p 0
  let x := tmPort s n
  let t := tmOf s (tmSide n)
  let halted := haltMask s x
  if lcBad s then fail stWrongState s
  else if p.length != 4 || 63 < n || !zeros p 1 3 then fail stInvalid s
  else okWith ([BitVec.ofNat 8 n, BitVec.ofNat 8 (mask [x.xoff, halted != 0]), BitVec.ofNat 8 x.clsXoff,
    BitVec.ofNat 8 halted] ++ zb 4 ++ le64 s.tsu.ns ++ le 4 (rangeCells t (rangeOf t (tmSide n) (n % 32))) ++
    le 4 x.highWater ++ le64 x.stick ++ le64 x.expSent ++ le64 x.expMiss ++ le64 x.expRefused ++ le64 x.xoffCnt ++
    le64 (pausedNow s x) ++ le 4 (sharedFree s (tmSide n)) ++ zb 4) s

/-- The statistics block of Table 8-6. -/
def tmQueueBlock (e : Bytes) (s : State) : Bytes :=
  let x := queueOf s (u8 e 0) (u16 e 2)
  [BitVec.ofNat 8 (u8 e 0), BitVec.ofNat 8 (queueTc (u16 e 2) x)] ++ le 2 (u16 e 2) ++ le 4 x.cells ++ le64 x.sent ++
  le64 x.octets ++ le64 x.drops ++ le 4 x.highWater ++ zb 4

/-- TM_QUEUE_STATS_GET (R211). -/
def tmQueueStatsGet (d : DmaRead) (c : Cmd) (s : State) : Res :=
  if lcBad s then fail stWrongState s
  else statsCmd 4 2048 40 101 (fun e _ => decide (u8 e 0 ≤ 1) && u8 e 1 == 0 && decide (u16 e 2 ≤ 2047)) tmQueueBlock
    c d s

/-- The refill of a shaper (R195). -/
def shaperRefillOne (x : Shaper) : Shaper :=
  if x.rate == 0 then x else { x with credit := min (x.credit + refillOf x.rate) (tok x.burst) }

/-- The refill of a side's shapers. -/
def tmRefill (t : Tm) : Tm :=
  let f (l : Tab Shaper) : Tab Shaper := tmap .reset shaperRefillOne l
  { t with qShapers := f t.qShapers, cShapers := f t.cShapers, pShapers := f t.pShapers }

/-- SHAPER_REFILL: every 64 CCLK (R195). -/
def shaperRefill (s : State) : State :=
  if live s then { s with tm := ⟨tmRefill s.tm.host, tmRefill s.tm.line⟩ } else s

/-! ### The meanings -/

def execTmPortSet (mb : Nat) (s : State) : Host.Outcome State Fault Refusal := .next (fcp 0x0500 mb tmPortSet s)
def execTmPortGet (mb : Nat) (s : State) : Host.Outcome State Fault Refusal := .next (fcp 0x0501 mb tmPortGet s)
def execTmQueueSet (mb : Nat) (dma : DmaRead) (s : State) : Host.Outcome State Fault Refusal :=
  .next (fcpDma 0x0502 mb dma tmQueueSet s)
def execTmQueueGet (mb : Nat) (s : State) : Host.Outcome State Fault Refusal := .next (fcp 0x0503 mb tmQueueGet s)
def execTmShaperSet (mb : Nat) (dma : DmaRead) (s : State) : Host.Outcome State Fault Refusal :=
  .next (fcpDma 0x0504 mb dma tmShaperSet s)
def execTmShaperGet (mb : Nat) (s : State) : Host.Outcome State Fault Refusal := .next (fcp 0x0505 mb tmShaperGet s)
def execTmStatsGet (mb : Nat) (s : State) : Host.Outcome State Fault Refusal := .next (fcp 0x0506 mb tmStatsGet s)
def execTmQueueStatsGet (mb : Nat) (dma : DmaRead) (s : State) : Host.Outcome State Fault Refusal :=
  .next (fcpDma 0x0507 mb dma tmQueueStatsGet s)
def execShaperRefill (s : State) : Host.Outcome State Fault Refusal := .next (shaperRefill s)

end Sys2Proof.Machine
end

