-- ==== Sys2Proof/Machine/Tm.lean ====
section
/-! DEFINITION. The traffic managers at work (08_scheduling_shaping.md, R187 to R208): admission, selection, departure,
pause, express slots. DEDUCED: log entries 80, 81. -/
namespace Sys2Proof.Machine

/-! ### Lengths -/

/-- The length of a whole frame as transmitted, DA to FCS; none while it still arrives. -/
def wholeLen (f : Frame) : Option Nat := match f.kind with
  | .dec | .xcDec => f.data.map (fun d => d.length - rxOver d + 4)
  | .xcEnc => f.shared.map (fun d => 12 + d.a.length + macsecLen f + 4)
  | _ => f.data.map (fun d => d.length + macsecLen f + 4)

/-- The cells a frame needs at admission (R192). -/
def admitCells (s : State) (f : Frame) : Nat := match wholeLen f with
  | some n => cellsOf n
  | none => cellsOf (((f.ingress.map (fun p => (port s p).cfg.maxFrame)).getD f.hdr.length) +
      if f.kind == .enc || f.kind == .xcEnc then 32 else 0)

/-- At a frame's last word the cells it does not use are returned (R192). -/
def tmTrim (id : Nat) (s : State) : State :=
  match (frameOf s id).bind wholeLen with
  | none => s
  | some n => tmCut id n s

/-! ### Admission (R188 to R192) -/

/-- The queues of a range with entries of the table. -/
def rangeQueues (t : Tm) (r : Nat × Nat) : Tab Queue := t.queues.filter (fun e => inRange r e.1)

/-- The default queue of a TC on a port (R188). -/
def defaultQueue (s : State) (p tc : Nat) : Nat :=
  let side := tmSide p
  let r := rangeOf (tmOf s side) side (p % 32)
  (((List.range r.2).map (r.1 + ·)).find? (fun q => queueTc q (queueOf s side q) == tc)).getD r.1

/-- The queue of a frame before the binding rule (R189). -/
def chosenQueue (s : State) (f : Frame) : Nat := f.clsQueue.getD (defaultQueue s f.egress f.tc)

/-- The queue a TX SC is bound to, for a frame that leaves encrypted (R190). A binding whose last frame departs in the
CCLK of the admission lapses for it (Table 8-5). -/
def boundQueue (s : State) (f : Frame) (lapses : Bool) : Option Nat :=
  if f.kind == .enc || f.kind == .xcEnc then
    f.txSch.bind (fun c => if lapses && decide ((scFrames s c).length ≤ 1) then none else tget none (tmOf s 1).binds c)
  else none

/-- Admission's two conditions (R192). -/
def admits (s : State) (side k q c : Nat) : Bool :=
  let t := tmOf s side
  let x := queueOf s side q
  let held := rangeCells t (rangeOf t side k)
  let fromPool := c - (tmReserve s - held)
  decide (x.cells + c ≤ x.limit) &&
    (fromPool == 0 || decide (8 * (portShared s side k + fromPool) ≤ tmAlpha8 s * sharedFree s side))

/-- The start tag of a queue that becomes active (Table 8-2). -/
def startTag (v : W32) (fLast : Option W32) : W32 := match fLast with
  | some f => if 0 < (f - v).toInt then f else v
  | none => v

/-- TM_ADMISSION (R189 to R192): a frame for a port that sends nothing is counted in TX_DOWN_DROP_CNT (R41). `lapses`: the
last frame of its SC departs in the same CCLK, and is the command behind this one (Table 8-5). -/
def tmAdmission (id : Nat) (lapses : Bool) (s : State) : State :=
  match frameOf s id with
  | none => s
  | some f =>
    if !live s || f.stage != .arrive || 64 ≤ f.egress then s
    else if !canSend s f.egress then downDrop f.egress (cutFrame id s)
    else
      let side := tmSide f.egress
      let k := f.egress % 32
      let want := chosenQueue s f
      let bound := boundQueue s f lapses
      let q := bound.getD want
      let c := admitCells s f
      let s := if bound.any (· != want) then setTmPort f.egress (fun x => { x with stick := x.stick + 1 }) s else s
      if !admits s side k q c then
        cutFrame id (setQueue side q (fun x => { x with drops := x.drops + 1 }) (occur (7 + side) 2 f.egress 1 s))
      else
        let v := tget 0 (tmPort s f.egress).v (queueTc q (queueOf s side q))
        let s := occur (7 + side) 1 f.egress 1 s
        let s := setQueue side q (fun x =>
          { x with
            frames := x.frames ++ [id], cells := x.cells + c, highWater := Nat.max x.highWater (x.cells + c)
            start := if x.frames.isEmpty then startTag v x.fLast else x.start
            fLast := if x.frames.isEmpty then none else x.fLast }) s
        let s := setFrame id (some { f with stage := .queued, queue := some q, tmCells := c }) s
        let s := if f.kind == .enc || f.kind == .xcEnc then
            (match f.txSch with
             | some sc => setTm 1 (fun t => { t with binds := tset none t.binds sc (some q) }) s
             | none => s)
          else s
        let held := rangeCells (tmOf s side) (rangeOf (tmOf s side) side k)
        sharedEvents side (setTmPort f.egress (fun x => { x with highWater := Nat.max x.highWater held }) s)

/-! ### Selection (R193 to R206, R224, R225) -/

/-- A shaper allows a start: disabled, or a credit of at least 0. -/
def shaperOk (s : State) (side level i : Nat) : Bool :=
  let x := shaperOf s side level i
  x.rate == 0 || decide (0 ≤ x.credit)

/-- The gates of a port are run by a list. -/
def gateList (s : State) (p : Nat) : Option GateList :=
  let g := gateOf s p
  if g.st == 2 || g.st == 3 then g.oper else none

/-- The gate of a class allows a frame of a length (R224). -/
def gateAllows (s : State) (p tc len : Nat) : Bool := match gateList s p with
  | none => true
  | some l =>
    let g := gateOf s p
    nbit g.gates tc && (match gateCloses l (gateExtends g l (g.cycleTod + BitVec.ofNat 64 l.cycle)) tc
        (s.tsu.ns - g.cycleTod).toNat with
      | some n => wireFits (portRate s p) len n
      | none => true)

/-- The length by which the express guard judges a start (R205). -/
def guardLen (s : State) (f : Frame) : Nat := match wholeLen f with
  | some n => n
  | none => ((f.ingress.map (fun p => (port s p).cfg.maxFrame)).getD f.hdr.length) + 32

/-- The express guard allows a start (R205): without active preemption, a start ends before each slot that is still to
begin, and none is made while the frame of a slot that has begun still waits. -/
def guardAllows (s : State) (p len : Nat) : Bool :=
  (port s p).preemptOn || (tmPort s p).slots.all (fun e =>
    let gap := timeGap e.start (todNow s)
    if gap ≤ 0 then !((frameOf s e.frame).any (fun f => f.slot == some e.start && f.stage == .queued && !f.left))
    else decide ((len + 20) * 8 * 4294967296 ≤ portRate s p * gap.toNat))

/-- A frame leaves by an express slot. -/
def bySlot (f : Frame) : Bool := f.slot.isSome

/-- Gate and guard allow the head frame of a queue, and its class is not halted. -/
def headAllowed (s : State) (p tc : Nat) (f : Frame) : Bool :=
  !bySlot f && !nbit (haltMask s (tmPort s p)) tc && gateAllows s p tc (assumedLen s f (wholeLen f)) &&
    guardAllows s p (guardLen s f)

/-- A queue is eligible for R193. -/
def eligible (s : State) (p q : Nat) (x : Queue) : Bool :=
  let side := tmSide p
  let tc := queueTc q x
  match x.frames.head?.bind (frameOf s) with
  | none => false
  | some f => shaperOk s side 0 q && shaperOk s side 1 (p % 32 * 8 + tc) && shaperOk s side 2 (p % 32) &&
      headAllowed s p tc f

/-- A queue holds an express frame behind its head, and its head may start (R206). -/
def ahead (s : State) (p q : Nat) (x : Queue) : Bool :=
  match x.frames.head?.bind (frameOf s) with
  | none => false
  | some f => x.frames.any (fun i => (frameOf s i).any bySlot) && shaperOk s (tmSide p) 2 (p % 32) &&
      headAllowed s p (queueTc q x) f

/-- Of two queues, the one R193 takes: the higher TC, then the smaller start tag, then the lower queue ID. -/
def better (a b : Nat × Queue) : Nat × Queue :=
  let ta := queueTc a.1 a.2
  let tb := queueTc b.1 b.2
  if ta != tb then (if ta < tb then b else a)
  else if (b.2.start - a.2.start).toInt < 0 then b
  else a

/-- The queue R193 takes among those that meet a test. -/
def pick (l : Tab Queue) : Option (Nat × Queue) := match l with
  | [] => none
  | a :: t => some (t.foldl better a)

/-- The head frame of a queue whose assumed wire time exceeds its class's longest window is dropped; a class whose gate
never opens holds its frames (R225). -/
def gateHeadDrop (p q : Nat) : Nat → State → State
  | 0, s => s
  | n + 1, s =>
    let x := queueOf s (tmSide p) q
    let tc := queueTc q x
    match gateList s p, x.frames.head? with
    | some l, some id => match frameOf s id, gateWindow l tc with
      | some f, some w =>
        if w == 0 || bySlot f || f.left || wireFits (portRate s p) (assumedLen s f (wholeLen f)) w then s
        else gateHeadDrop p q n (cutFrame id (setGate p (fun g => { g with drops := tmod 0 g.drops tc (· + 1) }) s))
      | _, _ => s
    | _, _ => s

/-- Every queue of a port. -/
def gateDrops (p : Nat) (s : State) : State :=
  let side := tmSide p
  (rangeQueues (tmOf s side) (rangeOf (tmOf s side) side (p % 32))).foldl (fun t e =>
    gateHeadDrop p e.1 e.2.frames.length t) s

/-- A queue's head frame begins to leave, `wait` from now in 2^-32 ns. -/
def sendHead (p q id wait : Nat) (s : State) : State :=
  let s := setQueue (tmSide p) q (fun x => { x with serving := true }) s
  let s := setTmPort p (fun x => { x with sending := some id }) s
  txCapture id wait (modFrame id (fun f => { f with stage := .sending, left := true }) s)

/-- TM_SELECT: a port ready for its next frame (R193, R194, R206). -/
def tmSelect (p : Nat) (s : State) : State :=
  if !live s || 64 ≤ p || !canSend s p || (tmPort s p).sending.isSome || (tmPort s p).pauseDue then s
  else
    let s := gateDrops p s
    let side := tmSide p
    let qs := rangeQueues (tmOf s side) (rangeOf (tmOf s side) side (p % 32))
    match pick (qs.filter (fun e => ahead s p e.1 e.2)) with
    | some (q, x) => (match x.frames.head? with
      | some id => sendHead p q id 0 s
      | none => s)
    | none => match pick (qs.filter (fun e => eligible s p e.1 e.2)) with
      | none => s
      | some (q, x) => match x.frames.head? with
        | none => s
        | some id =>
          sendHead p q id 0 (setTmPort p (fun t => { t with v := tset 0 t.v (queueTc q x) x.start }) s)

/-! ### Departure (R50, R194, R196) -/

/-- The bytes a frame leaves with, DA to the last byte before the FCS. -/
def outBytes (f : Frame) : Option Bytes := match f.kind with
  | .enc | .xcEnc => f.cipher
  | .dec | .xcDec => if f.verified then f.plain.map (ptpApply f) else none
  | _ => f.data.map (ptpApply f)

/-- The bytes of SecTAG and ICV among what a frame left with: a stomped one may have ended before its ICV (R196). -/
def macsecSent (f : Frame) : Nat :=
  if f.stomp.isSome then (if f.cipher.isSome then tagLen f + (if f.data.isSome || f.shared.isSome then 16 else 0) else 0)
  else macsecLen f

/-- The charged length of a frame at a shaper, at least 1 byte (R196). -/
def chargeLen (x : Shaper) (line : Bool) (len macsec : Nat) : Int :=
  max 1 ((len : Int) + x.adjust - if x.excl && line then (macsec : Int) else 0)

/-- Debit a shaper, unless it is disabled (R196). -/
def shaperDebit (side level i len macsec : Nat) (s : State) : State :=
  setShaper side level i (fun x =>
    if x.rate == 0 then x else { x with credit := x.credit - chargeLen x (side == 1) len macsec * 16777216 }) s

/-- The cost of a frame in virtual units (R194). -/
def frameCost (len weight : Nat) : W32 := BitVec.ofNat 32 ((256 * (len + 20) + weight - 1) / Nat.max 1 weight)

/-- The tags and counters of a queue whose frame has left; under a port that is not UP, or BLOCKED, it keeps no F_last
(Table 8-2). -/
def queueLeft (side q len : Nat) (id : Nat) (keep : Bool) (s : State) : State :=
  setQueue side q (fun x =>
    let f := x.start + frameCost len x.weight
    let more := !(x.frames.erase id).isEmpty
    { x with start := if more then f else x.start, fLast := if more then x.fLast else if keep then some f else none,
             sent := x.sent + 1, octets := x.octets + BitVec.ofNat 64 len }) s

/-- A frame's last word leaves the TM: its shapers are debited, its queue's tags advance (R194, R196, Table 8-2). -/
def lastWord (id : Nat) (f : Frame) (len : Nat) (s : State) : State :=
  let p := f.egress
  let side := tmSide p
  let q := f.queue.getD 0
  let tc := queueTc q (queueOf s side q)
  let m := macsecSent f
  let keep := (port s p).st == .up && !blocked s p
  queueLeft side q len id keep (occur (7 + side) 3 p 1
    (shaperDebit side 2 (p % 32) len m (shaperDebit side 1 (p % 32 * 8 + tc) len m (shaperDebit side 0 q len m s))))

/-- Record what the port sent: a frame with a correct FCS is counted and tapped, a stomped one is not (R50, R52, R405). -/
def recordSent (p : Nat) (d : Bytes) (stomped : Bool) (s : State) : State :=
  let s := { s with flow := { s.flow with sent := tset none s.flow.sent p (some ⟨d, stomped⟩) } }
  if stomped then s
  else meterTap p 1 d (cntPort p (fun c =>
    { c with txFrames := c.txFrames + 1, txOctets := c.txOctets + BitVec.ofNat 64 (d.length + 4) }) s)

/-- TM_FRAME_DEPARTED: the last word of the port's frame leaves the TM (R194, R196); a stomp for an ICV failure or a receive error
is counted now (R52). -/
def tmFrameDeparted (p : Nat) (s : State) : State :=
  if !live s || 64 ≤ p then s
  else match (tmPort s p).sending with
    | none => s
    | some id =>
      let s := ptpDecide id s
      match frameOf s id with
      | none => s
      | some f =>
        let out := outBytes f
        if f.stomp.isNone && out.isNone then s
        else
          let d := if f.stomp.isSome then stompBytes f else out.getD []
          let s := if f.verified then sliceLeave id s else s
          let s := recordSent p d f.stomp.isSome (lastWord id f (d.length + 4) s)
          let s := match f.stomp with
            | some 1 | none => s
            | some c => cntStomp p c s
          let s := tmRemove id s
          setFrame id ((frameOf s id).bind remains) s

/-- F_LAST_EXPIRY: 65,536 CCLK after a queue became EMPTY (Table 8-2). -/
def fLastExpiry (side q : Nat) (s : State) : State :=
  if live s && decide (side < 2) && decide (q < 2048) && (queueOf s side q).frames.isEmpty then
    setQueue side q (fun x => { x with fLast := none }) s
  else s

/-! ### Pause and PFC towards the host (R198 to R201) -/

/-- R_p of a line-egress port, in bytes (R198). -/
def portRoom (s : State) (p : Nat) : Nat :=
  let t := tmOf s 1
  let held := rangeCells t (rangeOf t 1 (p % 32))
  256 * (tmReserve s - held) + (32 * tmAlpha8 s * sharedFree s 1 - 256 * portShared s 1 (p % 32))

/-- Bytes a class of a line-egress port holds (R200). -/
def classHeld (s : State) (p tc : Nat) : Nat :=
  let t := tmOf s 1
  256 * ((rangeQueues t (rangeOf t 1 (p % 32))).map (fun e => if queueTc e.1 e.2 == tc then e.2.cells else 0)).sum

/-- The flow control of the peer HOST port of a line port: 0 none, 1 PAUSE, 2 PFC. -/
def peerFlow (s : State) (p : Nat) : Nat := match pairOf s p with
  | some h => if (port s h).cfg.role == 1 then (port s h).cfg.flow else 0
  | none => 0

/-- The class XOFF mask of a line port whose peer has PFC; CLASS_XOFF below XON_GAP gives a return at 0 bytes (R200; log entry
122). -/
def classXoffs (s : State) (p : Nat) (xoff : Bool) : Nat :=
  let x := tmPort s p
  if peerFlow s p != 2 then 0
  else mask ((List.range 8).map (fun t =>
    let held := classHeld s p t
    xoff || decide (x.classXoff * 1024 ≤ held) ||
      (nbit x.clsXoff t && decide ((x.classXoff - x.xonGap) * 1024 < held))))

/-- A bit-by-bit union of masks. -/
def orAll (l : List Nat) : Nat := l.foldl (· ||| ·) 0

/-- What a HOST port's pause or PFC frames pause now: all eight bits for PAUSE, the priorities for PFC. -/
def pauseWant (s : State) (h : Nat) : Nat := match pairOf s h with
  | none => 0
  | some p =>
    let x := tmPort s p
    match peerFlow s p with
    | 1 => if x.xoff then 255 else 0
    | 2 => orAll ((List.range 8).map (fun t => if nbit x.clsXoff t then x.pfc.getD t 0 else 0))
    | _ => 0

/-- A line port's XOFF state after a check (R198, R210). -/
def roomCheck (s : State) (p : Nat) : State :=
  let x := tmPort s p
  let r := portRoom s p
  let xoff := if x.xoff then decide (r < (x.headroom + x.xonGap) * 1024) else decide (r < x.headroom * 1024)
  let cls := classXoffs s p xoff
  let t := if xoff == x.xoff && cls == x.clsXoff then s
    else
    let t := setTmPort p (fun y => { y with
      xoff := xoff, clsXoff := cls, stuck := y.stuck && xoff
      xoffSince := if xoff && !y.xoff then s.tsu.ns else y.xoffSince
      xoffCnt := if xoff && !y.xoff then y.xoffCnt + 1 else y.xoffCnt }) s
    if x.stuck && !xoff then evH 0x5004 (le 1 p ++ le 4 ((s.tsu.ns - x.xoffSince).toNat / 1000000)) t else t
  match pairOf t p with
    | some h => if pauseWant t h != (tmPort t h).pauseSent then setTmPort h (fun y => { y with pauseDue := true }) t else t
    | none => t

/-- TM_ROOM_CHECK: every 8 CCLK (R198, R200). -/
def tmRoomCheck (s : State) : State :=
  if live s then ((List.range 32).map (32 + ·)).foldl roomCheck s else s

/-- TM_XOFF_STUCK: 10 ms in XOFF without a break (R210). -/
def tmXoffStuck (p : Nat) (s : State) : State :=
  let x := tmPort s p
  if live s && x.xoff && !x.stuck && reached s.tsu.ns (x.xoffSince + 10000000) then
    evH 0x5003 (le 1 p) (setTmPort p (fun y => { y with stuck := true }) s)
  else s

/-- A pause or PFC frame (R199, R200): IEEE 802.3 MAC Control, padded to 60 bytes before the FCS. -/
def pauseFrame (s : State) (h want : Nat) : Bytes :=
  let c := (port s h).cfg
  let sa := if c.pauseSa == 0 then 0x021B44AA0000 + h else c.pauseSa
  let quanta (b : Bool) := if b then be 2 0xFFFF else be 2 0
  pad 60 (be 6 0x0180C2000001 ++ be 6 sa ++ be 2 0x8808 ++
    if c.flow == 1 then be 2 1 ++ quanta (want != 0)
    else be 2 0x0101 ++ be 2 (want ||| (tmPort s h).pauseSent) ++ (List.range 8).flatMap (fun q => quanta (nbit want q)))

/-- PAUSE_FRAME_SEND: the due pause or PFC frame is the HOST port's next frame (R201). -/
def pauseFrameSend (h : Nat) (s : State) : State :=
  let x := tmPort s h
  if !live s || 32 ≤ h || !x.pauseDue || x.sending.isSome || !canSend s h then s
  else if (port s h).cfg.flow == 0 then setTmPort h (fun y => { y with pauseDue := false, pauseSent := 0 }) s
  else
    let want := pauseWant s h
    let s := { s with flow := { s.flow with sent := tset none s.flow.sent h (some ⟨pauseFrame s h want, false⟩) } }
    cntPort h (fun c => { c with txPause := c.txPause + 1 })
      (setTmPort h (fun y => { y with pauseDue := false, pauseSent := want }) s)

/-- PAUSE_REPEAT: 32,768 quanta times after a frame, while the XOFF lasts (R199, R200). -/
def pauseRepeat (h : Nat) (s : State) : State :=
  if live s && decide (h < 32) && pauseWant s h != 0 then setTmPort h (fun y => { y with pauseDue := true }) s else s

/-- PAUSE_HALT_EXPIRY: the quanta a class was halted for have passed (R202). -/
def pauseHaltExpiry (p t : Nat) (s : State) : State :=
  let x := tmPort s p
  if live s && decide (p < 64) && decide (t < 8) && nbit x.halted t && reached s.tsu.ns (tget 0 x.haltEnd t) then
    setTmPort p (haltOff t) (haltCount p s)
  else s

/-! ### Express departure slots (R203 to R205) -/

/-- A slot's duration on a port in 2^-32 ns (R203). -/
def slotLen (s : State) (p : Nat) : Nat := ((tmPort s p).expMax + 20) * 8 * 4294967296 / portRate s p

/-- Reserve a slot for a frame on its LINE egress port, from the TOD view with its fraction; none for a port not UP or one that
holds 16 (R203). -/
def slotReserve (id p : Nat) (s : State) : Option Int × State :=
  let s := setTmPort p (fun x => { x with slots := x.slots.filter (fun e => decide (0 < timeGap e.fin (todNow s))) }) s
  let x := tmPort s p
  if (port s p).st != .up || 16 ≤ x.slots.length then
    (none, setTmPort p (fun x => { x with expRefused := x.expRefused + 1 }) s)
  else
    let a : Int := todNow s + (x.lead * 4294967296 : Nat)
    let b := match x.slotEnd with
      | some e => if 0 < timeGap e a then e else a
      | none => a
    let e := b + (slotLen s p : Int)
    (some b, setTmPort p (fun x => { x with slots := x.slots ++ [⟨b, e, id⟩], slotEnd := some e }) s)

/-- An express frame is dropped whole (R204). -/
def expressMiss (id : Nat) (f : Frame) (s : State) : State :=
  cutFrame id (setTmPort f.egress (fun x => { x with expMiss := x.expMiss + 1 }) s)

/-- An express frame is dropped at its slot's start: the TM has released it to the MAC, so a whole one has left the TM and is charged
(R28, R196, R204). -/
def expressLate (id : Nat) (f : Frame) (s : State) : State :=
  expressMiss id f (match outBytes f with
    | some d => lastWord id f (d.length + 4) s
    | none => s)

/-- The frame is the head of its queue. -/
def isHead (s : State) (id : Nat) (f : Frame) : Bool :=
  f.stage == .queued && (f.queue.map (fun q => (queueOf s (tmSide f.egress) q).frames.head? == some id)) == some true

/-- Bytes of a frame that have come by now: those of its header operand, or what its port's rate has brought since its first byte
(DEDUCED: log entry 132). -/
def arrivedLen (s : State) (f : Frame) : Nat := match f.ingress with
  | some p => Nat.max (f.hdr.length + 4) ((s.tsu.count - f.rxCount) * portRate s p / 34359738368)
  | none => f.hdr.length + 4

/-- The length of an express frame against EXPRESS_MAX: of what has arrived, for one that still arrives (R204). -/
def expressLong (s : State) (f : Frame) : Bool :=
  decide ((tmPort s f.egress).expMax < (wholeLen f).getD (arrivedLen s f + macsecLen f))

/-- EXPRESS_HEAD_CHECK: 64 CCLK (40 ns) before the slot starts (R204). -/
def expressHeadCheck (id : Nat) (s : State) : State :=
  match frameOf s id with
  | none => s
  | some f => match f.slot with
    | none => s
    | some b =>
      if !live s || f.left || decide (40 * 4294967296 < timeGap b (todNow s)) then s
      else if !isHead s id f || expressLong s f || haltMask s (tmPort s f.egress) != 0 ||
        (port s f.egress).st != .up then expressMiss id f s
      else s

/-- A frame in transmission without an express slot is preempted at a fragment boundary (R205). -/
def preempt (p : Nat) (s : State) : State :=
  match (tmPort s p).sending with
  | none => s
  | some o =>
    let s := modFrame o (fun f => { f with fragments := f.fragments + 1 }) s
    cntPort p (fun c => { c with txPreempt := c.txPreempt + 1 })
      (setTmPort p (fun x => { x with sending := none, resume := some o }) s)

/-- A captured departure that lies more than 1 ns from D is counted (R249). -/
def expressSkew (id : Nat) (s : State) : State :=
  match (frameOf s id).bind (fun f => f.tTx.bind (fun t => f.depart.map (fun d => (f.egress, t, d)))) with
  | some (p, t, d) =>
    if 4294967296 < (timeGap (timeNum t.1 t.2.1) (timeNum d.1 d.2)).natAbs then setPtp p (fun x => { x with skew := x.skew + 1 }) s
    else s
  | none => s

/-- The frame in transmission on a port cannot be preempted: preemption is not active, another frame is preempted already, or it
is an express frame (R205). -/
def keepsPort (s : State) (p : Nat) : Bool :=
  match (tmPort s p).sending with
  | none => false
  | some o => !(port s p).preemptOn || (tmPort s p).resume.isSome || (frameOf s o).any bySlot

/-- EXPRESS_SLOT_START: the slot starts and the MAC releases the frame's first block, at the block boundary on which D rests; a
captured departure more than 1 ns from D is counted (R28, R204, R205, R249). -/
def expressSlotStart (id : Nat) (s : State) : State :=
  match frameOf s id with
  | none => s
  | some f => match f.slot with
    | none => s
    | some b =>
      let p := f.egress
      if !live s || f.left || decide (0 < timeGap b (todNow s)) then s
      else if !isHead s id f then expressMiss id f s
      else if expressLong s f || haltMask s (tmPort s p) != 0 || !canSend s p then expressLate id f s
      else if keepsPort s p then s
      else
        let s := setTmPort p (fun x => { x with expSent := x.expSent + 1 }) (preempt p s)
        let wait := timeGap (b + (Sys2Proof.Config.blockWait p b : Int)) (todNow s)
        expressSkew id (sendHead p (f.queue.getD 0) id (max 0 wait).toNat s)

/-! ### Gate lists that become operating -/

/-- GCL_CHANGE_TIME, with the drops of the new list's windows (R225, R227). -/
def gclChange (p : Nat) (s : State) : State :=
  let t := gclChangeTime p s
  if live s && decide (p < 64) then gateDrops p t else t

/-! ### The meanings -/

def execTmAdmission (id : Nat) (lapses : Bool) (s : State) : Host.Outcome State Fault Refusal :=
  .next (tmAdmission id lapses s)
def execTmSelect (port : Nat) (s : State) : Host.Outcome State Fault Refusal := .next (tmSelect port s)
def execTmFrameDeparted (port : Nat) (s : State) : Host.Outcome State Fault Refusal := .next (tmFrameDeparted port s)
def execTmRoomCheck (s : State) : Host.Outcome State Fault Refusal := .next (tmRoomCheck s)
def execPauseFrameSend (port : Nat) (s : State) : Host.Outcome State Fault Refusal := .next (pauseFrameSend port s)
def execPauseRepeat (port : Nat) (s : State) : Host.Outcome State Fault Refusal := .next (pauseRepeat port s)
def execPauseHaltExpiry (port tc : Nat) (s : State) : Host.Outcome State Fault Refusal := .next (pauseHaltExpiry port tc s)
def execFLastExpiry (side queue : Nat) (s : State) : Host.Outcome State Fault Refusal := .next (fLastExpiry side queue s)
def execTmXoffStuck (port : Nat) (s : State) : Host.Outcome State Fault Refusal := .next (tmXoffStuck port s)
def execExpressHeadCheck (id : Nat) (s : State) : Host.Outcome State Fault Refusal := .next (expressHeadCheck id s)
def execExpressSlotStart (id : Nat) (s : State) : Host.Outcome State Fault Refusal := .next (expressSlotStart id s)
def execGclChangeTime (port : Nat) (s : State) : Host.Outcome State Fault Refusal := .next (gclChange port s)

end Sys2Proof.Machine
end

