-- ==== Sys2Proof/Machine/Time.lean ====
section
/-! DEFINITION. The time-sync unit, the servo, PPS and the commands of 10_time.md (R234 to R258). DEDUCED: log entry
82. -/
namespace Sys2Proof.Machine

/-! ### Changes of TOD (R237) -/

/-- An express frame with its departure time fixed and its first block not yet left (Table 10-6). -/
def expressFixed (f : Frame) : Bool := f.slot.isSome && !f.left && f.stage != .gone

/-- What every step brings: the slew is discarded, TOD_STEP_CNT and event 0x6001, the frames written against the old
timescale are dropped, the gates realign, the first since boot anchors the RTC (R228, R237, R367, Table 10-6). -/
def stepped (d : W64) (s : State) : State :=
  let s := setTsu (fun t => { t with
    slew := 0, stepped := true, timeSet := true, stepCnt := t.stepCnt + 1, ppsFrom := t.ppsFrom + d }) s
  let s := evH 0x6001 (le64 d) s
  let s := (framesWith s expressFixed).foldl (fun t id => match frameOf t id with
    | some f => expressMiss id f t
    | none => t) s
  timeAnchor (realignAll s)

/-- A step by a signed number of ns. -/
def todStepBy (d : W64) (s : State) : State := stepped d (setTsu (fun t => { t with ns := t.ns + d }) s)

/-- A load: a step of the difference. -/
def todLoadTo (v : W64) (frac : W32) (s : State) : State :=
  stepped (v - s.tsu.ns) (setTsu (fun t => { t with ns := v, frac := frac }) s)

/-- Start a slew of a signed number of ns; it replaces what remains of another. -/
def todSlewBy (ns : Int) (s : State) : State := setTsu (fun t => { t with slew := ns * 4294967296 }) s

/-- A TOD_INC kept within 500 ppm of 1.25 ns: clamped to the nearer limit, the limits in 2^-32 ns rounded inwards
(R234; DESIGN CHOICE: log entry 82). -/
def incClamp (n : Int) : Nat := (max 5366024766 (min 5371393474 n)).toNat

/-- TOD_STEP and TOD_LOAD: TOD_CTRL, at once or armed for the next PPS_IN edge. A TOD_SET that waits for that edge keeps
waiting. -/
def todCtrl (load atPps : Bool) (s : State) : State :=
  if !cpRuns s then s
  else if atPps then
    let c := s.tsu.armed.any (·.command)
    let d := (s.tsu.armed.map (·.deadline)).getD 0
    setTsu (fun t => { t with armed := some ⟨load, t.adj, 0, c, d⟩ }) s
  else if load then todLoadTo s.tsu.adj 0 s
  else todStepBy s.tsu.adj s

/-- TOD_SLEW: ignored above 1,000,000 ns. -/
def todSlew (s : State) : State :=
  if cpRuns s && decide (s.tsu.adj.toInt.natAbs ≤ 1000000) then todSlewBy s.tsu.adj.toInt s else s

/-- TOD_SLEW_ABORT. -/
def todSlewAbort (s : State) : State := if cpRuns s then setTsu (fun t => { t with slew := 0 }) s else s

/-- TOD_INC_APPLY: a write of TOD_INC_NS applies both fields. -/
def todIncApply (v : W32) (s : State) : State :=
  if cpRuns s then
    setTsu (fun t => { t with incNs := v.setWidth 4,
                              inc := incClamp ((v.setWidth 4).toNat * 4294967296 + t.incFrac.toNat : Nat) }) s
  else s

/-- TOD_FRAC_READ: the latched view. -/
def todFracRead (s : State) : State :=
  if cpRuns s then setTsu (fun t => { t with latched := t.ns, latchedFrac := t.frac }) s else s

/-! ### The servo (R238 to R240) -/

/-- The first sample of a fresh acquisition: stepped beyond STEP_LIMIT, slewed otherwise (R239). -/
def servoFirst (offset : Int) (s : State) : State :=
  let ns := offset.tdiv 65536
  if s.tsu.stepLimit * 65536 < offset.natAbs then todStepBy (BitVec.ofInt 64 (-ns)) s
  else setTsu (fun t => { t with slew := -(offset * 65536) }) s

/-- A later sample: the firmware steers by a slew and a TOD_INC that the spec does not state (log entry 34). -/
def servoSteer (s : State) : State :=
  let a := drawFree 34 s
  let b := drawFree 34 a.2
  let inc := incClamp (b.1.toNat % 8589934592 : Nat)
  setTsu (fun t => { t with slew := a.1.toInt.tmod 4294967296000001, inc := inc, incNs := BitVec.ofNat 4 (inc / 4294967296)
                            incFrac := BitVec.ofNat 32 (inc % 4294967296) }) b.2

/-- Count a sample against LOCK_THRESHOLD: LOCKED at the 16th in a row, event 0x6002 (Table 10-2). -/
def servoCount (offset : Int) (s : State) : State :=
  let inside := decide (offset.natAbs ≤ s.tsu.lockThr * 65536)
  let s := setTsu (fun t => { t with inLock := if inside then Nat.min 16 (t.inLock + 1) else 0 }) s
  if s.tsu.servo == 1 && 16 ≤ s.tsu.inLock then evF 0x6002 (le 1 s.tsu.source) (servoTo 2 s) else s

/-- SERVO_SAMPLE: an offset sample from the source, in 2^-16 ns (Table 10-2). -/
def servoSample (offset pathDelay : Int) (parent : Bytes) (s : State) : State :=
  let t := s.tsu
  if !fwRuns s || t.external || t.source == 0 || (t.source == 3 && isLead s) then s
  else
    let named := t.source == 1 || t.source == 3
    let differs := named && parent != t.parent && t.servo != 0
    let fresh := t.servo == 0 || t.servo == 3 || differs || t.fresh
    let s := setTsu (fun t => { t with offset := offset, pathDelay := pathDelay,
                                       parent := if named then pad 10 parent else t.parent }) s
    let s := if differs then evF 0x6004 (pad 10 parent) s else s
    let s := if differs && t.servo != 3 then
        setTsu (fun t => { t with masterCnt := t.masterCnt + 1, masterTod := some t.ns }) s
      else s
    if fresh then
      servoCount offset (setTsu (fun t => { t with inLock := 0, fresh := false }) (servoFirst offset (servoTo 1 s)))
    else servoCount offset (servoSteer s)

/-- A number of intervals of 2^log s, in ns. -/
def intervals (n : Nat) (log : Int) : Nat :=
  n * (if 0 ≤ log then 1000000000 * 2 ^ log.toNat else 1000000000 / 2 ^ (-log).toNat)

/-- No message of a type has come from the parent for a number of its intervals (R240). -/
def masterSilent (typ n : Nat) (s : State) : Bool :=
  match s.tsu.heard.find? (fun h => h.id == s.tsu.parent && h.typ == typ) with
  | some h => reached s.tsu.ns (h.tod + BitVec.ofNat 64 (intervals n h.log))
  | none => true

/-- The source has been lost for this cause: 0 Announce timeout, 1 Sync timeout, 2 PPS_IN_OK fell to 0, 3 no SYNC accepted
for 46.875 ms (R240, R269, R440). -/
def sourceLost (cause : Nat) (s : State) : Bool := match cause with
  | 0 => s.tsu.source == 1 && masterSilent 11 Config.announceReceiptTimeout s
  | 1 => s.tsu.source == 1 && masterSilent 0 3 s
  | 2 => s.tsu.source == 2 && !s.tsu.ppsOk
  | 3 => s.tsu.source == 3 && reached s.tsu.ns (s.pack.syncAccepted + 46875000)
  | _ => false

/-- SERVO_SOURCE_LOST. -/
def servoSourceLost (cause : Nat) (s : State) : State :=
  if fwRuns s && sourceLost cause s then servoLost cause s else s

/-- HOLDOVER_LIMIT: HOLDOVER_LIMIT of TOD since entry (Table 10-2). -/
def holdoverLimit (s : State) : State :=
  let t := s.tsu
  if fwRuns s && !t.external && t.servo == 3 && !t.limitFlag &&
    reached t.ns (t.since + BitVec.ofNat 64 (t.holdLimit * 1000000000)) then
    evF 0x6005 (le 4 ((t.ns - t.since).toNat / 1000000000)) (setTsu (fun t => { t with limitFlag := true }) s)
  else s

/-! ### PPS and 10 MHz (R251 to R253) -/

/-- The spacing of two captures is 1 s within 1 us (R252). -/
def ppsSpaced (a b : W64 × W32) : Bool :=
  decide (((b.1 - a.1 - 1000000000).toInt * 4294967296 + ((b.2.toNat : Int) - a.2.toNat)).natAbs ≤ 4294967296000)

/-- PPS_IN_EDGE: an edge of the selected polarity is captured; the armed change is applied first, and the capture has the
value after it (R252, Table 10-6). -/
def ppsInEdge (falling : Bool) (s : State) : State :=
  if !live s || falling != s.tsu.ppsFalling then s
  else
    let p := capturePhase s
    let s := p.2
    let cap (s : State) : W64 × W32 := timeOf (todNow s + p.1 - psUnits s.tsu.ppsDelay)
    let good := match s.tsu.ppsInLast with
      | some l => ppsSpaced (l, s.tsu.ppsInFrac) (cap s)
      | none => false
    let s := match s.tsu.armed with
      | none => s
      | some a =>
        let s := setTsu (fun t => { t with armed := none }) s
        let s := if a.load then todLoadTo a.value a.frac s else todStepBy a.value s
        wake (· == Wait.pps) (fun _ t => ok t) s
    let c := cap s
    tsPush (.pps c.1 c.2) (setTsu (fun t => { t with
      ppsEdge := true, ppsInLast := some c.1, ppsInFrac := c.2, ppsOk := t.ppsOk || good }) s)

/-- PPS_IN_LOST: 1.5 s without an edge; the PPS_IN servo source is lost with it (R240, R252). -/
def ppsInLost (s : State) : State :=
  match s.tsu.ppsInLast with
  | none => s
  | some l =>
    if live s && s.tsu.ppsOk && reached s.tsu.ns (l + 1500000000) then
      let s := evH 0x6006 (le64 l) (setTsu (fun t => { t with ppsOk := false }) s)
      if s.tsu.source == 2 && fwRuns s then
        servoLost 2 s
      else s
    else s

/-- TOD_SET_PPS_TIMEOUT: no edge within 2 s of TOD (Table 10-6). -/
def todSetPpsTimeout (s : State) : State :=
  match s.tsu.armed with
  | none => s
  | some a =>
    if live s && a.command && reached s.tsu.ns a.deadline then
      wake (· == Wait.pps) (fun _ t => fail stTimeout t) (setTsu (fun t => { t with armed := none }) s)
    else s

/-- PPS_OUT_EDGE: TOD has reached the instant by running in the cycle that ends now (R251). Where a backward step repeats it
while the pin is high, a new pulse begins (DESIGN CHOICE: log entry 144). -/
def ppsOutEdge (s : State) : State :=
  match s.tsu.ppsDue with
  | some i =>
    if live s && s.tsu.ppsOut then
      setTsu (fun t => { t with ppsHigh := true, ppsOutLast := i, ppsFrom := i, ppsDue := none }) s
    else s
  | none => s

/-- PPS_OUT_FALL: after its width, which no step lengthens or shortens (R251; log entry 144). -/
def ppsOutFall (s : State) : State :=
  if live s && s.tsu.ppsHigh && reached s.tsu.ns (s.tsu.ppsFrom + BitVec.ofNat 64 s.tsu.ppsWidth) then
    setTsu (fun t => { t with ppsHigh := false }) s
  else s

/-- REF10M_WINDOW: the edges counted over 1 ms (R253). -/
def ref10mWindow (n : Nat) (s : State) : State :=
  if !live s then s
  else if 9990 ≤ n && n ≤ 10010 then
    setTsu (fun t => { t with refGood := Nat.min 16 (t.refGood + 1), ref10m := t.ref10m || decide (15 ≤ t.refGood) }) s
  else
    let had := s.tsu.ref10m
    let s := setTsu (fun t => { t with refGood := 0, ref10m := false }) s
    if had then evH 0x6007 (le 4 n) s else s

/-! ### Commands (R257, R258) -/

/-- The servo forbids the host to steer TOD (R257). -/
def servoHolds (s : State) : Bool := !s.tsu.external && s.tsu.servo != 0

/-- TOD_GET (Table 10-9). -/
def todGet (c : Cmd) (s : State) : Res :=
  let t := s.tsu
  if !c.payload.isEmpty then fail stInvalid s
  else okWith (le64 t.ns ++ le 4 t.frac.toNat ++ zb 4 ++ le 8 (t.ns.toNat / 1000000000) ++
    le 4 (t.ns.toNat % 1000000000) ++ le 1 t.servo ++
    le 1 (mask [t.slew != 0, t.ppsOk, t.ref10m, t.timeSet, t.armed.isSome]) ++ zb 2 ++ le64 t.ppsOutLast ++
    le64 (t.ppsInLast.getD 0)) s

/-- TOD_SET (0x0601). -/
def todSet (c : Cmd) (s : State) : Res :=
  let p := c.payload
  let v := BitVec.ofNat 64 (u64 p 0)
  let frac := BitVec.ofNat 32 (u32 p 8)
  if lcBad s || servoHolds s then fail stWrongState s
  else if p.length != 16 || 1 < u8 p 12 || !zeros p 13 3 then fail stInvalid s
  else if u8 p 12 == 1 then
    .wait .pps (setTsu (fun t => { t with armed := some ⟨true, v, frac, true, t.ns + 2000000000⟩ }) s)
  else ok (todLoadTo v frac s)

/-- TOD_ADJUST (0x0602). -/
def todAdjust (c : Cmd) (s : State) : Res :=
  let p := c.payload
  let off := s64 p 0
  let slew := u8 p 8 == 1 || (u8 p 8 == 0 && decide (off.natAbs ≤ s.tsu.stepLimit))
  if lcBad s || servoHolds s then fail stWrongState s
  else if p.length != 16 || 2 < u8 p 8 || !zeros p 9 7 || (u8 p 8 == 1 && decide (1000000 < off.natAbs)) then
    fail stInvalid s
  else if slew then okWith (le 1 1 ++ zb 7) (todSlewBy off s)
  else okWith (le 1 2 ++ zb 7) (todStepBy (BitVec.ofNat 64 (u64 p 0)) s)

/-- Nearest integer of a quotient, ties away from zero. -/
def divRound (a : Int) (b : Nat) : Int := if 0 ≤ a then (2 * a + b) / (2 * b) else -((-(2 * a) + b) / (2 * b))

/-- TOD_FREQ_SET (0x0603). -/
def todFreqSet (c : Cmd) (s : State) : Res :=
  let p := c.payload
  let off := s64 p 0
  let inc := incClamp (5368709120 + divRound (5368709120 * off) 65536000000000)
  if lcBad s || servoHolds s then fail stWrongState s
  else if p.length != 8 || decide (32768000000 < off.natAbs) then fail stInvalid s
  else ok (setTsu (fun t => { t with inc := inc, incNs := BitVec.ofNat 4 (inc / 4294967296),
                                     incFrac := BitVec.ofNat 32 (inc % 4294967296) }) s)

/-- TOD_PPS_SET (0x0604). -/
def todPpsSet (c : Cmd) (s : State) : Res :=
  let p := c.payload
  if lcBad s then fail stWrongState s
  else if p.length != 16 || 1 < u8 p 0 || 1 < u8 p 1 || !zeros p 2 2 || !within (u32 p 4) 100 500000000 ||
    decide (500000000 < (s32 p 8).natAbs) || decide (100000 < (s32 p 12).natAbs) then fail stInvalid s
  else ok (setTsu (fun t => { t with
    ppsOut := u8 p 0 == 1, ppsHigh := t.ppsHigh && u8 p 0 == 1, ppsFalling := u8 p 1 == 1, ppsWidth := u32 p 4
    ppsOffset := s32 p 8, ppsDelay := s32 p 12 }) s)

/-- The PT entries the firmware holds in indices 0 to 63 of a side (R72, R247, R248; log entry 35): EAPOL, the clock
port's PTP frames, Pdelay on TC_P2P ports, two entries a port or, where both of an even port and the next are TC_P2P, for
the two together. At most 34 are used. -/
def ptReserved (s : State) (side : Nat) : List (Bytes × Bytes) :=
  let e (port portMask et pay payMask : Nat) : Bytes × Bytes :=
    (le 1 port ++ zb 13 ++ le 2 et ++ zb 6 ++ be 2 pay, le 1 portMask ++ zb 13 ++ le 2 0xFFFF ++ zb 6 ++ be 2 payMask)
  let mine := (List.range 32).map (32 * side + ·)
  let clock := (mine.filter (· == s.tsu.clockPort)).map (fun p => e p 0xFF 0x88F7 0x0002 0x000F)
  let pdelay (p m : Nat) : List (Bytes × Bytes) := [e p m 0x88F7 0x0202 0x0E0F, e p m 0x88F7 0x0A02 0x0F0F]
  let pairs := (List.range 16).flatMap (fun k =>
    let p := 32 * side + 2 * k
    match ptpMode s p == 2, ptpMode s (p + 1) == 2 with
    | true, true => pdelay p 0xFE
    | true, false => pdelay p 0xFF
    | false, true => pdelay (p + 1) 0xFF
    | false, false => [])
  e 0 0 0x888E 0 0 :: (clock ++ pairs)

/-- The result of a reserved entry: TO_CP. -/
def toCpRes : ClsRes := { ClsRes.reset with valid := 1, decision := 3 }

/-- Rewrite the reserved entries of a side; an entry that is already there keeps its hit count. -/
def ptRewriteSide (side : Nat) (s : State) : State :=
  let want := ptReserved s side
  (List.range 64).foldl (fun t i =>
    let new := (want[i]?).map (fun e => (⟨e.1, e.2, toCpRes, 0⟩ : PtEntry))
    let old := tget none (clsOf t side).pt i
    if old.map (fun x => (x.key, x.mask)) == new.map (fun x => (x.key, x.mask)) then t
    else setCls side (fun c => { c with pt := tset none c.pt i new }) t) s

/-- Both sides. -/
def ptRewrite (s : State) : State := ptRewriteSide 1 (ptRewriteSide 0 s)

/-- The 24 bytes of Table 10-10. -/
def ptpPortBytes (s : State) (p : Nat) : Bytes :=
  let x := ptpPort s p
  le 1 p ++ le 1 x.mode ++ bit8 x.notify ++ zb 1 ++ le 4 x.asymRx.toNat ++ le 4 x.asymTx.toNat ++ zb 4 ++
    leInt 8 x.linkDelay

/-- PTP_PORT_SET (0x0610). -/
def ptpPortSet (c : Cmd) (s : State) : Res :=
  let p := c.payload
  let n := u8 p 0
  if lcBad s then fail stWrongState s
  else if p.length != 24 || 64 < n || 2 < u8 p 1 || 1 < u8 p 2 || u8 p 3 != 0 || !zeros p 12 12 ||
    (n == 64 && (u8 p 1 != 0 || u8 p 2 != 0)) || decide (100000 < (s32 p 4).natAbs) ||
    decide (100000 < (s32 p 8).natAbs) then fail stInvalid s
  else ok (ptRewrite (setPtp n (fun x => { x with
    mode := u8 p 1, notify := u8 p 2 == 1, asymRx := BitVec.ofNat 32 (u32 p 4), asymTx := BitVec.ofNat 32 (u32 p 8) }) s))

/-- PTP_PORT_GET (0x0611). -/
def ptpPortGet (c : Cmd) (s : State) : Res :=
  let p := c.payload
  if lcBad s then fail stWrongState s
  else if p.length != 4 || 64 < u8 p 0 || !zeros p 1 3 then fail stInvalid s
  else okWith (ptpPortBytes s (u8 p 0)) s

/-- A field of Table 10-11 that 0 sets to a default. -/
def orDefault (v d : Nat) : Nat := if v == 0 then d else v

/-- PTP_CLOCK_SET (0x0612): the servo starts again in FREERUN, or stops in EXTERNAL (Table 10-2). -/
def ptpClockSet (c : Cmd) (s : State) : Res :=
  let p := c.payload
  let port := u8 p 2
  if lcBad s then fail stWrongState s
  else if p.length != 32 || 1 < u8 p 0 || 3 < u8 p 1 || !(port < 64 || port == 0xFF) || 1 < u8 p 3 || 127 < u8 p 4 ||
    7 < u8 p 5 || !zeros p 6 2 || !zeros p 20 12 || 1000000 < u32 p 8 || 10000 < u32 p 12 || 604800 < u32 p 16 ||
    (u8 p 1 == 1 && port == 0xFF) || (u8 p 3 == 1 && !within (u8 p 4) 24 43) then fail stInvalid s
  else
    let s := setTsu (fun t => { t with
      external := u8 p 0 == 1, source := u8 p 1, clockPort := port, profile := u8 p 3, domain := u8 p 4
      clockFlags := u8 p 5, stepLimit := orDefault (u32 p 8) 1000, lockThr := orDefault (u32 p 12) 100
      holdLimit := orDefault (u32 p 16) 14400, inLock := 0, fresh := true, offset := 0, pathDelay := 0
      parent := Tsu.reset.zeroId, heard := [] }) s
    ok (ptRewrite (servoTo (if u8 p 0 == 1 then 4 else 0) s))

/-- PTP_STATUS_GET (Table 10-12); the IEEE 1588 state of the clock port is a free value (log entry 36). -/
def ptpStatusGet (c : Cmd) (s : State) : Res :=
  let t := s.tsu
  if lcBad s then fail stWrongState s
  else if !c.payload.isEmpty then fail stInvalid s
  else
    let r := drawFree 36 s
    okWith (le 1 t.servo ++ le 1 t.source ++ le 1 t.clockPort ++ le 1 (r.1.toNat % 256) ++ zb 4 ++ le64 t.ns ++
      pad 10 t.parent ++ zb 6 ++ leInt 8 t.offset ++ leInt 8 t.pathDelay ++
      le 4 ((t.ns - t.since).toNat / 1000000000) ++ le 4 (b2n t.limitFlag) ++ zb 8) r.2

/-- PTP_STATS_GET (0x0614). -/
def ptpStatsGet (c : Cmd) (s : State) : Res :=
  let p := c.payload
  if lcBad s then fail stWrongState s
  else if p.length != 4 || !zeros p 0 4 then fail stInvalid s
  else okWith (le64 s.tsu.ns ++ le64 s.tsu.stepCnt ++ le64 s.tsu.fifoLost ++ le64 s.tsu.masterCnt ++ zb 8 ++
    (List.range 64).flatMap (fun n =>
      let x := ptpPort s n
      le64 x.corr ++ le64 x.write ++ le64 x.fallback ++ le64 x.skew)) s

/-! ### The meanings -/

def execTodGet (mb : Nat) (s : State) : Host.Outcome State Fault Refusal := .next (fcp 0x0600 mb todGet s)
def execTodSet (mb : Nat) (s : State) : Host.Outcome State Fault Refusal := .next (fcp 0x0601 mb todSet s)
def execTodAdjust (mb : Nat) (s : State) : Host.Outcome State Fault Refusal := .next (fcp 0x0602 mb todAdjust s)
def execTodFreqSet (mb : Nat) (s : State) : Host.Outcome State Fault Refusal := .next (fcp 0x0603 mb todFreqSet s)
def execTodPpsSet (mb : Nat) (s : State) : Host.Outcome State Fault Refusal := .next (fcp 0x0604 mb todPpsSet s)
def execPtpPortSet (mb : Nat) (s : State) : Host.Outcome State Fault Refusal := .next (fcp 0x0610 mb ptpPortSet s)
def execPtpPortGet (mb : Nat) (s : State) : Host.Outcome State Fault Refusal := .next (fcp 0x0611 mb ptpPortGet s)
def execPtpClockSet (mb : Nat) (s : State) : Host.Outcome State Fault Refusal := .next (fcp 0x0612 mb ptpClockSet s)
def execPtpStatusGet (mb : Nat) (s : State) : Host.Outcome State Fault Refusal := .next (fcp 0x0613 mb ptpStatusGet s)
def execPtpStatsGet (mb : Nat) (s : State) : Host.Outcome State Fault Refusal := .next (fcp 0x0614 mb ptpStatsGet s)
def execTodStep (atPps : Bool) (s : State) : Host.Outcome State Fault Refusal := .next (todCtrl false atPps s)
def execTodLoad (atPps : Bool) (s : State) : Host.Outcome State Fault Refusal := .next (todCtrl true atPps s)
def execTodSlew (s : State) : Host.Outcome State Fault Refusal := .next (todSlew s)
def execTodSlewAbort (s : State) : Host.Outcome State Fault Refusal := .next (todSlewAbort s)
def execTodIncApply (value : W32) (s : State) : Host.Outcome State Fault Refusal := .next (todIncApply value s)
def execTodFracRead (s : State) : Host.Outcome State Fault Refusal := .next (todFracRead s)
def execPpsInEdge (falling : Bool) (s : State) : Host.Outcome State Fault Refusal := .next (ppsInEdge falling s)
def execPpsInLost (s : State) : Host.Outcome State Fault Refusal := .next (ppsInLost s)
def execTodSetPpsTimeout (s : State) : Host.Outcome State Fault Refusal := .next (todSetPpsTimeout s)
def execPpsOutEdge (s : State) : Host.Outcome State Fault Refusal := .next (ppsOutEdge s)
def execPpsOutFall (s : State) : Host.Outcome State Fault Refusal := .next (ppsOutFall s)
def execRef10mWindow (count : Nat) (s : State) : Host.Outcome State Fault Refusal := .next (ref10mWindow count s)
def execServoSample (offset pathDelay : Int) (parent : Bytes) (s : State) : Host.Outcome State Fault Refusal :=
  .next (servoSample offset pathDelay parent s)
def execServoSourceLost (cause : Nat) (s : State) : Host.Outcome State Fault Refusal := .next (servoSourceLost cause s)
def execHoldoverLimit (s : State) : Host.Outcome State Fault Refusal := .next (holdoverLimit s)

end Sys2Proof.Machine
end

