-- ==== Sys2Proof/Machine/PackRx.lean ====
section
/-! DEFINITION. The Gwynlen engine's checks of a received message, the pack key, members, lead, quorum and claims
(11_pack.md, R260 to R272). DEDUCED: log entries 83, 84, 85. -/
namespace Sys2Proof.Machine

/-! ### Reception (R260, R261) -/

/-- In a pack: ACTIVE or ISOLATED. -/
def inPack (s : State) : Bool := s.pack.st == .active || s.pack.st == .isolated

/-- Drop into GWL_FOREIGN_DROP_CNT. -/
def dropForeign (s : State) : State := setPack (fun p => { p with foreign := p.foreign + 1 }) s

/-- GP0 receives frames. -/
def gwlLive (s : State) : Bool := live s && ((port s 64).st == .up || (port s 64).st == .rfault)
/-- A message is addressed to this member. -/
def gwlMine (h : PackHeader) (s : State) : Bool := h.dest == 0xFFFF || h.dest == s.pack.me
/-- GP0 receives a frame addressed to this member. -/
def gwlHears (h : PackHeader) (s : State) : Bool := gwlLive s && gwlMine h s

/-- The frame is foreign: its header, or a member that does not take it yet; a member in no pack takes only JOIN messages, and one
that is not even joining has no pack ID to compare (R260; log entry 83). -/
def gwlForeign (join : Bool) (h : PackHeader) (s : State) : Bool :=
  h.etherType != 0x88B5 || h.version != 1 || (s.pack.st != .none && h.packId != s.pack.packId) || (!join && !inPack s)

/-- The key of a message, where it is accepted now: the current one, or a previous one within its 100 ms (R266). `lost`: a
HELLO of a member that was LOST when the key changed is still heard under the key it has (log entry 41). -/
def gwlKey (lost : Bool) (h : PackHeader) (s : State) : Option Bytes :=
  if h.keyNumber == s.pack.keyNumber then s.pack.key
  else match s.pack.olds.find? (fun o => o.number == h.keyNumber && !reached s.tsu.ns o.til) with
    | some o => some o.key
    | none => if lost then ((peerOf s h.source).lacks.filter (fun x => x.1 == h.keyNumber)).map (·.2) else none

/-- The ICV of a message of a type, whose body is given decrypted, verifies under a key (R261). -/
def gwlOpens (key : Bytes) (typ : Nat) (body : Bytes) (h : PackHeader) : Bool :=
  h.icv == (gcmSeal key (packIv h.source h.sequence)
    (packHead h.version typ body.length h.packId h.source h.dest h.sequence h.keyNumber) body).2

/-- The message is authentic (R261). -/
def gwlAuthentic (lost : Bool) (typ : Nat) (body : Bytes) (h : PackHeader) (s : State) : Bool :=
  (gwlKey lost h s).any (fun k => gwlOpens k typ body h)

/-- A JOIN message at GWL, then the firmware's act (R260). -/
def gwlJoin (len : Nat) (h : PackHeader) (act : State → State) (s : State) : State :=
  if !gwlLive s then s
  else
    let s := gpFrame false len s
    if gwlForeign true h s then dropForeign s
    else if !gwlMine h s then s
    else if fwRuns s then act s else s

/-- A message of a type at GWL, its body given decrypted: GP0 counts it, whomever it is addressed to (R54); checked in the order of
R260 and R261, then acted on by the firmware. -/
def gwlMsg (lost : Bool) (typ : Nat) (body : Bytes) (h : PackHeader) (act : State → State) (s : State) : State :=
  if !gwlLive s then s
  else
    let s := gpFrame false body.length s
    if gwlForeign false h s then dropForeign s
    else if !gwlMine h s then s
    else if !gwlAuthentic lost typ body h s then setPack (fun p => { p with authFail := p.authFail + 1 }) s
    else if h.sequence ≤ tget 0 s.pack.rxSeq (512 * h.keyNumber + h.source) then
      setPack (fun p => { p with replayDrop := p.replayDrop + 1 }) s
    else
      let s := setPack (fun p => { p with
        rxCnt := p.rxCnt + 1, rxSeq := tset 0 p.rxSeq (512 * h.keyNumber + h.source) h.sequence }) s
      if fwRuns s then act s else s

/-- A protected message. -/
def gwl (typ : Nat) (body : Bytes) (h : PackHeader) (act : State → State) (s : State) : State := gwlMsg false typ body h act s

/-- A protected message from the lead. -/
def gwlLead (typ : Nat) (body : Bytes) (h : PackHeader) (act : State → State) (s : State) : State :=
  gwl typ body h (fun t => if t.pack.lead == some h.source then act t else t) s

/-- A protected message to the lead. -/
def gwlAtLead (typ : Nat) (body : Bytes) (h : PackHeader) (act : State → State) (s : State) : State :=
  gwl typ body h (fun t => if leads t then act t else t) s

/-! ### Claims in waiting (R271) -/

/-- The waiting command's answer: the claim was granted (0), denied (1) or failed (2). -/
def claimRes (e : DirEntry) (v : Nat) (c : Cmd) (s : State) : Res :=
  match c.wait with
  | .claim es lost bad =>
    if c.opcode == 0x0300 then
      (match v with
      | 0 => scCommit c s
      | 1 => fail stExists s
      | _ => fail stInvalid s)
    else installResume bad es (match v with
      | 0 => lost
      | 1 => lost ++ [e.ssci]
      | _ => lost ++ [e.ssci + 2 ^ 32]) c s
  | _ => .wait c.wait s

/-- A claim is answered: it no longer waits, and its command goes on. -/
def claimEnd (x : Claim) (v : Nat) (s : State) : State :=
  let s := setPack (fun p => { p with claims := p.claims.erase x }) s
  (s.hif.cmds.filter (fun c => c.mb == x.mb && (match c.wait with
    | .claim _ _ _ => true
    | _ => false))).foldl (fun t c => settle c (claimRes x.entry v c t)) s

/-- The claims of a value are answered. -/
def claimAnswer (e : DirEntry) (v : Nat) (s : State) : State :=
  (s.pack.claims.filter (fun x => dirSame x.entry e)).foldl (fun t x => claimEnd x v t) s

/-- Every claim in waiting fails (R271). -/
def claimsFail (s : State) : State := s.pack.claims.foldl (fun t x => claimEnd x 2 t) s

/-- The member leaves its pack: event 0x7005 with the cause 0 leave, 1 expelled, 2 rotated out, 3 departed. -/
def packLeft (cause : Nat) (s : State) : State := packGone (evF 0x7005 (le 1 cause) (claimsFail s))

/-! ### The pack key (R266) -/

/-- The configured other members. -/
def members (s : State) : List Nat := tkeys (fun _ x => x.configured) s.pack.peers

/-- A new pack key is received, or drawn by the lead: sent under after 1 ms, the previous one accepted for 100 ms. A member that
is LOST now keeps the key it has until it is heard again. -/
def keyInstall (key : Bytes) (number : Nat) (s : State) : State :=
  let now := s.tsu.ns
  let old := (s.pack.keyNumber, s.pack.key.getD [])
  let s := (members s).foldl (fun t m => if (peerOf t m).heard || (peerOf t m).lacks.isSome then t
    else setPeer m (fun x => { x with lacks := some old }) t) s
  evF 0x7010 (le 4 number) (setPack (fun p => { p with
    olds := p.olds ++ [⟨old.1, old.2, now + 100000000⟩]
    switches := p.switches ++ [(number, now + 1000000)]
    key := some key, keyNumber := number, gone := [] }) s)

/-- The link key shared with a member: of the exchange of R264 where the two have run one; between other pairs, which a change of
lead brings together, the spec states none and it is a free value (log entry 41). -/
def linkKey (m : Nat) (s : State) : Bytes :=
  match (peerOf s m).link.bind (fun i => tget none s.km.sym i) with
  | some k => k.key
  | none => pad 32 (Config.linkKey s.pack.packId (Nat.min m s.pack.me) (Nat.max m s.pack.me))

/-- The pack key sealed under a link key (R264, R266; nonce and layout: log entry 40). -/
def keySealed (link : Bytes) (s : State) : Bytes :=
  let r := sivSeal link (zb 12) [] (s.pack.key.getD [])
  r.1 ++ r.2

/-- The pack key that a link key unseals. -/
def keyUnsealed (link wrapped : Bytes) : Option Bytes :=
  if wrapped.length == 48 then sivOpen link (zb 12) [] (wrapped.take 32) (wrapped.drop 32) else none

/-- KEY_ROTATE to one member, under the key it has (R266). -/
def keySend (m : Nat) (s : State) : State :=
  let body := rotateBody s.pack.keyNumber 0 (keySealed (linkKey m s) s)
  match (peerOf s m).lacks with
  | some (n, k) => packSendUnder n k 0x06 m body s
  | none => packSend 0x06 m body s

/-- The lead rotates the pack key: every remaining heard member is sent the new one, a LOST one when it is heard again. -/
def keyRotateAll (s : State) : State :=
  let r := drawBytes 32 s
  let s := keyInstall r.1 (r.2.pack.keyNumber + 1) r.2
  (members s).foldl (fun t m => if (peerOf t m).heard then keySend m t else t) s

/-- PACK_KEY_SWITCH. -/
def packKeySwitch (s : State) : State :=
  if !fwRuns s then s
  else match s.pack.switches with
    | [] => s
    | (n, t) :: rest =>
      if reached s.tsu.ns t then
        setPack (fun p => { p with oldSeq := tset 1 p.oldSeq p.sendNow p.txSeq, sendNow := n, txSeq := 1, switches := rest }) s
      else s

/-- PACK_OLD_KEY_EXPIRY. -/
def packOldKeyExpiry (s : State) : State :=
  if fwRuns s then setPack (fun p => { p with olds := p.olds.filter (fun o => !reached s.tsu.ns o.til) }) s else s

/-! ### Members and quorum (R262, R263) -/

/-- Members heard, itself included. -/
def heardCount (s : State) : Nat := 1 + (tkeys (fun _ x => x.configured && x.heard) s.pack.peers).length
/-- Configured members, itself included. -/
def confCount (s : State) : Nat := 1 + (members s).length

/-- The lead releases every entry of a member (R272). -/
def releaseAll (m : Nat) (s : State) : State :=
  (s.pack.dir.filter (fun e => e.owner == m)).foldl (fun t e => leadRelease e t) s

/-- A lead that acts does what the members gone while none did have left: their entries and a new key (R263, R266, R267, R272). -/
def goneDue (s : State) : State :=
  if leads s && !s.pack.gone.isEmpty then keyRotateAll (s.pack.gone.foldl (fun t m => releaseAll m t) s) else s

/-! ### Epoch bits that a change of lead needs (R268, R274) -/

/-- An epoch by its number. -/
def epochOf (s : State) (n : Nat) : Option Epoch := s.pack.epochs.find? (fun e => e.par.number == n)
/-- Change an epoch. -/
def setEpoch (n : Nat) (f : Epoch → Epoch) (s : State) : State :=
  setPack (fun p => { p with epochs := p.epochs.map (fun e => if e.par.number == n then f e else e) }) s
/-- Ts + V. -/
def epochEnd (e : Epoch) : W64 := e.par.ts + BitVec.ofNat 64 e.par.overlap
/-- Ts - 1 ms. -/
def epochDoubt (e : Epoch) : W64 := e.par.ts - 1000000
/-- The participants. -/
def epochMembers (e : Epoch) : List Nat := (List.range 512).filter (fun m => nbit e.par.members m)

/-- Disarm an enlisted TX_NEW (R275). -/
def disarm (sah : Nat) (s : State) : State :=
  match saOf s sah with
  | some a => if a.st == .armed then setSa sah (fun x => { x with mode := 0, tod := 0 }) (saSet sah .installed s) else s
  | none => s

/-- Switch an enlisted TX_NEW at once, where it has not switched already (R275, R278). -/
def switchNow (sah : Nat) (s : State) : State :=
  match saOf s sah with
  | some a => if a.st == .armed || a.st == .installed then saSwitchTo sah false s else s
  | none => s

/-- Retire an enlisted RX_OLD with a not-before (R275). -/
def retireOld (sah : Nat) (nb : W64) (s : State) : State :=
  match saOf s sah with
  | some a => if a.st == .active then saRetireAt sah nb 0 s else s
  | none => s

/-- Each enlisted SA of a role. -/
def eachRole (e : Epoch) (role : Nat) (f : Nat → State → State) (s : State) : State :=
  (e.entries.filter (fun x => x.2 == role)).foldl (fun t x => f x.1 t) s

/-- A READY participant without a decision at Ts - 1 ms (Table 11-5). -/
def epochDoubtNow (e : Epoch) (s : State) : State :=
  evF 0x700E (le 4 e.par.number) (setEpoch e.par.number (fun x => { x with st := 4 }) (eachRole e 1 disarm s))

/-- The participant's READY epoch, with Ts - 1 ms taken first where it has been reached (R278). -/
def epochSettled (n : Nat) (s : State) : State :=
  match epochOf s n with
  | some e => if e.st == 1 && reached s.tsu.ns (epochDoubt e) then epochDoubtNow e s else s
  | none => s

/-- COMMIT at a participant (Table 11-5). -/
def epochCommit (e : Epoch) (s : State) : State :=
  let n := e.par.number
  if e.st == 1 then
    setEpoch n (fun x => { x with st := 3 }) (eachRole e 2 (fun i => retireOld i (epochEnd e)) s)
  else if e.st == 4 && !reached s.tsu.ns (epochEnd e) then
    let s := eachRole e 2 (fun i => retireOld i (epochEnd e)) (eachRole e 1 switchNow s)
    let s := setPack (fun p => { p with lateCnt := p.lateCnt + 1 }) s
    evF 0x700F (le 4 n ++ le64 s.tsu.ns) (setEpoch n (fun x => { x with st := 6, switchTod := s.tsu.ns }) s)
  else s

/-- ABORT at a participant (Table 11-5). -/
def epochAborted (e : Epoch) (s : State) : State :=
  let n := e.par.number
  if e.st == 1 then setEpoch n (fun x => { x with st := 5 }) (eachRole e 1 disarm s)
  else if e.st == 4 then setEpoch n (fun x => { x with st := 5 }) s
  else s

/-- A member receives a decision: counted the first time, with event 0x700C or 0x700D; the epoch follows; a vote still
unacknowledged is acknowledged with it (R274, R275, R278). -/
def epochReceive (n : Nat) (commit : Bool) (cause : Nat) (s : State) : State :=
  let s := epochSettled n s
  match epochOf s n with
  | none => s
  | some e =>
    let now := s.tsu.ns
    let s := if e.received then s else
      let s := setPack (fun p => if commit then { p with commitCnt := p.commitCnt + 1 }
        else { p with abortCnt := p.abortCnt + 1 }) s
      let s := evF (if commit then 0x700C else 0x700D) (le 4 n ++ if commit then [] else le 1 cause) s
      setEpoch n (fun x => { x with
        decision := if commit then 1 else 2, decisionTod := now, cause := cause, received := true }) s
    let s := if commit then epochCommit e s else epochAborted e s
    wake (· == Wait.vote n) (fun _ t => ok t) s

/-- Send the decision to the participants that have not acknowledged it. -/
def epochSendDecision (n : Nat) (s : State) : State :=
  match epochOf s n with
  | none => s
  | some e =>
    let s := setEpoch n (fun x => { x with sentTod := s.tsu.ns }) s
    ((epochMembers e).filter (fun m => m != s.pack.me && !nbit e.acks m)).foldl
      (fun t m => packSend 0x32 m (be 4 n ++ le 1 e.decision ++ le 1 e.cause) t) s

/-! ### Copies to the deputy (R268) -/

/-- A vote is acknowledged: to its sender, or to this member's own EPOCH_ENLIST. -/
def voteAck (n m : Nat) (s : State) : State :=
  if m == s.pack.me then wake (· == Wait.vote n) (fun _ t => ok t) s else packSend 0x31 m (be 4 n) s

/-- The item takes effect: the vote is acknowledged, the claim granted, the decision sent and received here. -/
def copyEffect (x : CopyItem) (s : State) : State :=
  match x with
  | .vote n m _ => voteAck n m s
  | .grant e =>
    let s := leadGrant e s
    if e.owner == s.pack.me then claimAnswer e 0 s else packSend 0x21 e.owner (dirWire e ++ be 4 s.pack.dirVersion) s
  | .decision n commit =>
    match epochOf s n with
    | none => s
    | some e =>
      let s := epochSendDecision n (setEpoch n (fun x => { x with copied := true }) s)
      let s := if nbit e.par.members s.pack.me && !e.received then epochReceive n commit e.cause s else s
      wake (· == Wait.deputy n) (fun _ t => ok t) s

/-- Copy an item to the deputy first; with no deputy it takes effect at once. -/
def copyStart (x : CopyItem) (s : State) : State :=
  match deputy s with
  | none => copyEffect x s
  | some d => packSend 0x34 d (copyBytes x) (setPack (fun p => { p with copies := p.copies ++ [x] }) s)

/-- What a deputy must know of an epoch: its parameters, the votes recorded and the decision (R268). -/
def epochCopies (d : Nat) (e : Epoch) (s : State) : State :=
  let n := e.par.number
  let vote (m : Nat) : CopyItem := .vote n m (nbit e.votes m)
  let s := if nbit e.par.members d then s else packSend 0x30 d (prepBody e.par) s
  let s := ((epochMembers e).filter (fun m => nbit e.voted m && !s.pack.copies.contains (vote m))).foldl
    (fun t m => packSend 0x34 d (copyBytes (vote m)) t) s
  if e.decision != 0 && e.copied then packSend 0x34 d (copyBytes (.decision n (e.decision == 1))) s else s

/-- A new deputy is told of the epochs that have not ended. -/
def deputyTold (s : State) : State :=
  match deputy s with
  | none => s
  | some d => (s.pack.epochs.filter (fun e => !reached s.tsu.ns (epochEnd e))).foldl (fun t e => epochCopies d e t) s

/-- The deputy has changed: the next one is told of the epochs, and what the last one had not acknowledged is copied to it, or takes
effect where there is none (R268). -/
def copiesAgain (s : State) : State :=
  let s := deputyTold s
  s.pack.copies.foldl (fun t x => copyStart x t) (setPack (fun p => { p with copies := [] }) s)

/-! ### Quorum and departure (R262, R263, R266, R268) -/

/-- ACTIVE and ISOLATED follow the members heard (Table 11-3). A lead that acts again copies what its deputy has not acknowledged
and makes the releases owed; the members gone meanwhile are seen to. -/
def quorum (s : State) : State :=
  let n := heardCount s
  if s.pack.st == .active && 2 * n ≤ confCount s then
    claimsFail (packTimeLost (evF 0x7007 (le 2 n) (setPack (fun p => { p with st := .isolated }) s)))
  else if s.pack.st == .isolated && confCount s < 2 * n then
    let s := evF 0x7008 (le 2 n) (setPack (fun p => { p with st := .active }) s)
    goneDue (releasesDue (if leads s then copiesAgain s else s))
  else s

/-- Change what is known of a member, with what follows from it for the quorum, and for the copies where this member acted and still
acts as lead and has another deputy now (R268). -/
def peerChange (m : Nat) (f : Peer → Peer) (s : State) : State :=
  let dep := deputy s
  let led := leads s
  let s := quorum (setPeer m f s)
  if led && leads s && deputy s != dep then copiesAgain s else s

/-- A member is no longer configured: the lead tells it so where it is put out, releases its entries and rotates the pack key
(R263, R266, R272), as soon as a lead acts (R267). The cause is 0 where it left by itself. -/
def memberGone (cause m : Nat) (s : State) : State :=
  let s := if leads s && cause != 0 then packSend 0x06 m (rotateBody s.pack.keyNumber cause []) s else s
  let s := peerChange m (fun _ => .reset) s
  if leads s then keyRotateAll (releaseAll m s) else setPack (fun p => { p with gone := p.gone ++ [m] }) s

/-- A member is configured: nothing of an earlier membership is left to do. -/
def memberNew (m : Nat) (s : State) : State := setPack (fun p => { p with gone := p.gone.filter (· != m) }) s

/-- The lead's view of the configured members: the differences to its last one are taken over (R263; log entry 40). -/
def viewTake (view : Nat) (s : State) : State :=
  let old := s.pack.view
  let s := (List.range 512).foldl (fun t m =>
    if m == t.pack.me || nbit view m == nbit old m || nbit view m == (peerOf t m).configured then t
    else if nbit view m then
      evF 0x7002 (le 2 m) (peerChange m (fun _ => { Peer.reset with configured := true, heard := true, lastHello := t.tsu.ns })
        (memberNew m t))
    else memberGone 0 m t) s
  setPack (fun p => { p with view := view }) s

/-- DEPUTY_ACKNOWLEDGEMENT: the deputy has the copy, and the item takes effect. -/
def deputyAcknowledgement (h : PackHeader) (x : CopyItem) (s : State) : State :=
  gwlAtLead 0x34 (copyBytes x) h (fun s =>
    if deputy s == some h.source && s.pack.copies.contains x then
      copyEffect x (setPack (fun p => { p with copies := p.copies.erase x }) s)
    else s) s

/-! ### The lead's decisions (R274) -/

/-- The lead decides: 1 COMMIT, 2 ABORT with its cause. -/
def epochDecideAs (n : Nat) (commit : Bool) (cause : Nat) (s : State) : State :=
  let s := setEpoch n (fun x => { x with
    decision := if commit then 1 else 2, decisionTod := s.tsu.ns, cause := cause, acks := 0, copied := false }) s
  copyStart (.decision n commit) s

/-- What the votes recorded decide: ABORT at a REFUSE, COMMIT when every participant is READY. -/
def epochEvaluate (n : Nat) (s : State) : State :=
  match epochOf s n with
  | none => s
  | some e =>
    if e.decision != 0 then s
    else if (epochMembers e).any (fun m => nbit e.voted m && !nbit e.votes m) then epochDecideAs n false 0 s
    else if (epochMembers e).all (fun m => nbit e.votes m) then epochDecideAs n true 0 s
    else s

/-- The lead records a vote, once; it is acknowledged when the deputy has it, and after the decision with the decision (R268,
R278). -/
def epochVoteAt (n m : Nat) (ready : Bool) (s : State) : State :=
  match epochOf s n with
  | none => s
  | some e =>
    if !nbit e.par.members m then s
    else if e.decision != 0 then
      (if !e.copied then s
      else if m == s.pack.me then epochReceive n (e.decision == 1) e.cause s
      else packSend 0x32 m (be 4 n ++ le 1 e.decision ++ le 1 e.cause) s)
    else if nbit e.voted m then voteAck n m s
    else
      let s := setEpoch n (fun x => { x with
        voted := x.voted + 2 ^ m, votes := x.votes + if ready then 2 ^ m else 0 }) s
      epochEvaluate n (copyStart (.vote n m ready) s)

/-- A member's vote goes to the lead. -/
def epochSendVote (n : Nat) (ready : Bool) (s : State) : State :=
  if leads s then epochVoteAt n s.pack.me ready s
  else match s.pack.lead with
    | some l => packSend 0x31 l (be 4 n ++ bit8 ready) s
    | none => s

/-! ### Change of lead (R267, R268, R269) -/

/-- The new lead takes over an epoch: a decision copied to it is decided, the votes copied to it are evaluated, and one
it has received itself is copied to the next deputy and sent again (R268). -/
def epochTakeOver (n : Nat) (s : State) : State :=
  match epochOf s n with
  | none => s
  | some e =>
    if reached s.tsu.ns (epochEnd e) then s
    else if e.decision != 0 then
      copyStart (.decision n (e.decision == 1)) (setEpoch n (fun x => { x with copied := false, acks := 0 }) s)
    else if e.held == 1 then epochDecideAs n true 0 s
    else if e.held == 2 then
      epochDecideAs n false (if e.voted != e.votes then 0 else if reached s.tsu.ns e.par.tp then 2 else 1) s
    else epochEvaluate n s

/-- A vote not yet acknowledged goes to the new lead. -/
def voteAgain (s : State) : State :=
  s.pack.epochs.foldl (fun t e => if t.hif.cmds.any (fun c => c.wait == Wait.vote e.par.number) then
    epochSendVote e.par.number (e.st == 1) t else t) s

/-- The parent identity of a PACK source: the lead's member ID (log entry 39). -/
def packParent (lead : Option Nat) : Bytes := pad 10 (be 2 (lead.getD 0xFFFF))

/-- The change of lead is a master change of a servo that follows pack time: ACQUIRING afresh (R269, Table 10-2). -/
def packMaster (s : State) : State :=
  let t := s.tsu
  if t.source == 3 && !t.external && !isLead s && s.pack.lead.isSome && (t.servo == 1 || t.servo == 2) then
    let p := packParent s.pack.lead
    evF 0x6004 p (setTsu (fun t => { t with
      fresh := true, inLock := 0, parent := p, masterCnt := t.masterCnt + 1, masterTod := some t.ns }) (servoTo 1 s))
  else s

/-- A lead whose source is PACK runs as if it were NONE (R269). -/
def leadTime (s : State) : State := if s.tsu.source == 3 && !s.tsu.external then servoTo 0 s else s

/-- The lead changes: event 0x7006; claims the old lead has not answered fail; PACK time starts afresh; the new lead
takes over the grants and the epochs, and tells its deputy of them; releases that the old lead has not confirmed, and those owed,
are made (R267 to R272). -/
def leadChange (new : Option Nat) (s : State) : State :=
  let old := s.pack.lead
  if new == old then s
  else
    let s := setPack (fun p => { p with
      lead := new, copies := [], owed := p.owed ++ p.releasing, releasing := [], syncRx := none, delayTx := none, syncDelta := none, packDelay := none }) s
    let s := evF 0x7006 (le 2 (old.getD 0xFFFF) ++ le 2 (new.getD 0xFFFF)) s
    let s := packMaster (claimsFail s)
    let s := if isLead s then
        let s := leadTime s
        let s := if leads s then deputyTold s else s
        let s := s.pack.held.foldl (fun t e => if leads t then copyStart (.grant e) t else t)
          (setPack (fun p => { p with held := [] }) s)
        (s.pack.epochs.map (·.par.number)).foldl (fun t n => if leads t then epochTakeOver n t else t) s
      else s
    voteAgain (goneDue (releasesDue s))

end Sys2Proof.Machine
end

