-- ==== Sys2Proof/Machine/Pack.lean ====
section
/-! DEFINITION. The Gwynlen pack: commands, messages, timers, joins, directory and epochs (11_pack.md, R259 to R282).
DEDUCED: log entries 83, 85. -/
namespace Sys2Proof.Machine

/-! ### Commands (R281, R282) -/

/-- The 440 bytes of a policy are in range (Table 11-12). -/
def policyOk (p : Bytes) : Bool :=
  let n := u8 p 0
  p.length == 440 && decide (1 ≤ n) && decide (n ≤ 8) && zeros p 1 7 && zeros p (56 + 48 * n) (48 * (8 - n))

/-- The policy of Table 11-12. -/
def policyOf (p : Bytes) : PackPolicy := { owner := sub p 8 48, digests := pieces 48 (u8 p 0) (sub p 56 384) }

/-- GP0 is UP (R282). -/
def gp0Up (s : State) : Bool := (port s 64).st == .up

/-- PACK_CREATE. -/
def packCreate (c : Cmd) (s : State) : Res :=
  let p := c.payload
  let id := u64 p 0
  let me := u16 p 8
  let hold := u16 p 12
  if lcBad s then fail stWrongState s
  else if p.length != 456 || 511 < me || u8 p 10 != 1 || u8 p 11 != 0 || hold == 0 || 3600 < hold || !zeros p 14 2 ||
    id == 0 || !policyOk (p.drop 16) then fail stInvalid s
  else if s.pack.st != .none || !gp0Up s then fail stWrongState s
  else
    let r := drawBytes 32 s
    let s := setPack (fun x => { x with
      st := .active, packId := id, me := me, eligible := true, lead := some me, dirHold := hold
      policy := policyOf (p.drop 16), key := some r.1, keyNumber := 1, sendNow := 1, txSeq := 1 }) r.2
    ok (evF 0x7001 (le 8 id ++ le 2 me) (leadTime s))

/-- A part of a message with its length before it. -/
def part (b : Bytes) : Bytes := be 4 b.length ++ b

/-- What a JOIN_REQ carries: the requested member, the owner scheme, the nonce, M1, then as parts the IDevID and LDevID certificates,
the owner key and the quote over the nonce (R264; log entry 40). -/
def joinBody (me : Nat) (eligible : Bool) (nonce m1 : Bytes) (s : State) : Bytes :=
  be 2 me ++ bit8 eligible ++ le 1 s.boot.ownerScheme ++ nonce ++ m1 ++
    ((List.range 4).flatMap (fun i => part ((certOf s i).getD []))) ++ part s.boot.ownerKey ++ part (quote nonce 3 false s)

/-- PACK_JOIN: JOIN_REQ is sent with a fresh nonce and M1; the answer completes it (Table 11-3). -/
def packJoin (c : Cmd) (s : State) : Res :=
  let p := c.payload
  let id := u64 p 0
  let me := u16 p 8
  if lcBad s then fail stWrongState s
  else if p.length != 16 || 511 < me || 1 < u8 p 10 || !zeros p 11 5 || id == 0 then fail stInvalid s
  else if s.pack.st != .none || !gp0Up s then fail stWrongState s
  else
    let n := drawBytes 32 s
    let k := drawMany 4 n.2
    let m1 := pad (m1Len 1) (pkePublic 1 k.1)
    let d := k.2.hif.nextDeferred
    let s := deferAdd d (deferOpen c k.2)
    let s := setPack (fun x => { x with
      st := .joining, packId := id, me := me, eligible := nbit (u8 p 10) 0, joinDeferred := some d, joinNonce := n.1
      joinSecret := k.1, joinM1 := m1, joinTod := s.tsu.ns, txSeq := 1, exchange := x.exchange + 1 }) s
    .done ⟨stDeferred, 0, []⟩ (packSend 0x02 0xFFFF (joinBody me (nbit (u8 p 10) 0) n.1 m1 s) s)

/-- A command whose payload is exactly `n` bytes of which those from `r` are reserved. -/
def shape (n r : Nat) (p : Bytes) : Bool := p.length == n && zeros p r (n - r)

/-- PACK_LEAVE. -/
def packLeave (c : Cmd) (s : State) : Res :=
  if lcBad s then fail stWrongState s
  else if !shape 4 0 c.payload then fail stInvalid s
  else if !inPack s || s.chan.scs.any (fun e => e.2.any (fun x => x.group)) ||
    s.pack.epochs.any (fun e => e.st == 1 || e.st == 4) then fail stWrongState s
  else
    let s := if leads s then releaseAll s.pack.me s else s
    ok (packLeft 0 (packSend 0x05 0xFFFF [] s))

/-- PACK_EXPEL: the entries are released and the key is rotated without the member (R266, R272). -/
def packExpel (c : Cmd) (s : State) : Res :=
  let m := u16 c.payload 0
  if lcBad s || !leads s then fail stWrongState s
  else if !shape 4 2 c.payload || 511 < m || m == s.pack.me then fail stInvalid s
  else if !(peerOf s m).configured then fail stNotFound s
  else ok (memberGone 1 m s)

/-- PACK_POLICY_SET. -/
def packPolicySet (c : Cmd) (s : State) : Res :=
  if lcBad s || !leads s then fail stWrongState s
  else if !policyOk c.payload then fail stInvalid s
  else ok (setPack (fun p => { p with policy := policyOf c.payload }) s)

/-- A 64-byte bitmap of members. -/
def memberMap (f : Nat → Bool) : Bytes := le 64 (mask ((List.range 512).map f))

/-- PACK_STATUS_GET (Table 11-13). -/
def packStatusGet (c : Cmd) (s : State) : Res :=
  let p := s.pack
  let self (m : Nat) : Bool := p.st != .none && m == p.me
  let dep := if inPack s then deputy s else none
  if lcBad s then fail stWrongState s
  else if !c.payload.isEmpty then fail stInvalid s
  else okWith (le 8 p.packId ++ le 2 p.me ++ le 1 p.st.code ++
    le 1 (mask [isLead s, dep == some p.me, p.eligible]) ++ le 2 (p.lead.getD 0xFFFF) ++ le 2 (dep.getD 0xFFFF) ++
    le 4 p.keyNumber ++ le 4 p.dirVersion ++ le64 s.tsu.ns ++ memberMap (fun m => self m || (peerOf s m).configured) ++
    memberMap (fun m => self m || ((peerOf s m).configured && (peerOf s m).heard))) s

/-- PACK_DIR_GET: entries of Table 11-4 to host memory. -/
def packDirGet (c : Cmd) (s : State) : Res :=
  let p := c.payload
  let n := u32 p 12
  if lcBad s then fail stWrongState s
  else if p.length != 16 || !dmaRange (u64 p 0) (24 * n) then fail stInvalid s
  else
    let es := (s.pack.dir.drop (u32 p 8)).take n
    okWith (le 4 es.length ++ le 4 s.pack.dirVersion)
      (if es.isEmpty then s else dmaPut (u64 p 0) (es.flatMap dirBytes) s)

/-- The counters of Table 11-9, in order. -/
def packCounters (p : Pack) : List W64 :=
  [p.txCnt, p.rxCnt, p.authFail, p.replayDrop, p.foreign, p.claimCnt, p.denyCnt, p.commitCnt, p.abortCnt, p.lateCnt,
   p.lostCnt]

/-- PACK_STATS_GET (Table 11-9). -/
def packStatsGet (c : Cmd) (s : State) : Res :=
  fourZero c s (okWith (le64 s.tsu.ns ++ (packCounters s.pack).flatMap le64) s)

/-- Epochs between EPOCH_PREPARE and Ts + V (R273). -/
def epochsOpen (s : State) : List Epoch := s.pack.epochs.filter (fun e => !reached s.tsu.ns (epochEnd e))

/-- EPOCH_PREPARE: the epoch is made; every participant is told, and the deputy (R268, R273, R282). -/
def epochPrepare (c : Cmd) (s : State) : Res :=
  let p := c.payload
  let n := u32 p 0
  let ts := BitVec.ofNat 64 (u64 p 8)
  let tp := BitVec.ofNat 64 (u64 p 16)
  let v := u64 p 24
  let ms := leNat (sub p 32 64)
  let active (m : Nat) : Bool := m == s.pack.me || ((peerOf s m).configured && (peerOf s m).heard)
  if lcBad s || !leads s then fail stWrongState s
  else if p.length != 96 || !zeros p 4 4 || !reached ts (tp + 10000000) || v < 1000000 || 3600000000000 < v || ms == 0 then
    fail stInvalid s
  else if s.pack.lastEpoch == 0xFFFFFFFF then fail stNoRoom s
  else if n ≤ s.pack.lastEpoch then fail stExists s
  else if reached s.tsu.ns tp then fail stLate s
  else if (epochsOpen s).any (fun e => e.decision == 0) then fail stBusy s
  else if 4 ≤ (epochsOpen s).length then fail stNoRoom s
  else if !(List.range 512).all (fun m => !nbit ms m || active m) then fail stWrongState s
  else
    let par : EpochParams := { number := n, ts := ts, tp := tp, overlap := v, members := ms }
    let e : Epoch :=
      { par := par, st := if nbit ms s.pack.me then 0 else 0xFF, decision := 0, decisionTod := 0, switchTod := 0,
        votes := 0, voted := 0, copied := false, cause := 0, acks := 0, sentTod := 0, received := false, held := 0,
        entries := [], enlisted := false }
    let s := setPack (fun x => { x with epochs := x.epochs ++ [e], lastEpoch := n }) s
    let s := if nbit ms s.pack.me then evF 0x7009 (le 4 n ++ le64 ts) s else s
    let told := (List.range 512).filter (fun m => m != s.pack.me && (nbit ms m || deputy s == some m))
    ok (told.foldl (fun t m => packSend 0x30 m (prepBody par) t) s)

/-- One entry of EPOCH_ENLIST against its epoch: the status of R282. -/
def enlistCheck (e : Epoch) (b : Bytes) (s : State) : Nat :=
  let role := u8 b 4
  match saOf s (u32 b 0) with
  | none => stNotFound
  | some a =>
    if a.st == .free then stNotFound
    else if role == 1 then
      (if a.rx || a.st != .armed then stWrongState
      else if a.mode != 2 || a.tod != e.par.ts then stInvalid else stOk)
    else if a.rx && a.st == .active then stOk else stWrongState

/-- EPOCH_ENLIST once its entries are read: atomic; it waits for the lead's acknowledgement of the vote (R273, R282). -/
def enlistRun (vote : Nat) (es : List Bytes) (c : Cmd) (s : State) : Res :=
  let n := u32 c.payload 0
  if es.any (fun b => 131071 < u32 b 0 || u8 b 4 == 0 || 2 < u8 b 4 || !zeros b 5 3) then fail stInvalid s
  else match epochOf s n with
    | none => fail stNotFound s
    | some e =>
      if e.st == 0xFF || e.enlisted || s.pack.st != .active then fail stWrongState s
      else if reached s.tsu.ns e.par.tp then fail stLate s
      else if e.st != 0 then fail stWrongState s
      else match es.find? (fun b => enlistCheck e b s != stOk) with
        | some b => fail (enlistCheck e b s) s
        | none =>
          let s := setEpoch n (fun x => { x with
            enlisted := true, st := if vote == 0 then 1 else 2
            entries := es.map (fun b => (u32 b 0, u8 b 4)) }) s
          let s := epochSendVote n (vote == 0) s
          let waits := !leads s || s.pack.copies.any (fun x => match x with
            | .vote k m _ => k == n && m == s.pack.me
            | _ => false)
          if waits then .wait (.vote n) s else ok s

/-- EPOCH_ENLIST: entries inline, or by the descriptor of Table 12-8. -/
def epochEnlist (d : DmaRead) (c : Cmd) (s : State) : Res :=
  let p := c.payload
  let k := u16 p 4
  if lcBad s then fail stWrongState s
  else if p.length < 8 || 4096 < k || 1 < u8 p 6 || u8 p 7 != 0 then fail stInvalid s
  else if nbit c.flags 3 then
    if p.length != 32 || !zeros p 28 4 || u32 p 24 != 8 * k || !dmaRange (u64 p 8) (8 * k) || u64 p 16 == 0 ||
      !dmaRange (u64 p 16) 0 then fail stInvalid s
    else match dmaBytes (8 * k) d with
      | .error st => fail st s
      | .ok bs => enlistRun (u8 p 6) (pieces 8 k bs) c s
  else if p.length != 8 + 8 * k then fail stInvalid s
  else enlistRun (u8 p 6) (pieces 8 k (p.drop 8)) c s

/-- EPOCH_ABORT: of an undecided epoch; it waits while the decision goes to the deputy (R268, R274). -/
def epochAbort (c : Cmd) (s : State) : Res :=
  let n := u32 c.payload 0
  if lcBad s || !leads s then fail stWrongState s
  else if c.payload.length != 4 then fail stInvalid s
  else match epochOf s n with
    | none => fail stNotFound s
    | some e =>
      if e.decision != 0 then fail stWrongState s
      else
        let s := epochDecideAs n false 1 s
        if s.pack.copies.contains (.decision n false) then .wait (.deputy n) s else ok s

/-- EPOCH_STATUS_GET (Table 11-14). -/
def epochStatusGet (c : Cmd) (s : State) : Res :=
  let n := u32 c.payload 0
  if lcBad s then fail stWrongState s
  else if c.payload.length != 4 then fail stInvalid s
  else match epochOf s n with
    | none => fail stNotFound s
    | some e =>
      okWith (le 4 n ++ le 1 e.st ++ le 1 e.decision ++ zb 2 ++ le64 e.par.ts ++ le64 e.par.tp ++ le 8 e.par.overlap ++
        le64 e.decisionTod ++ le64 (if e.st == 6 then e.switchTod else 0) ++ le 64 e.par.members ++
        le 64 (if isLead s then e.votes else 0)) s

/-! ### Joining (R262, R264, R265) -/

/-- Discard a message in reassembly: counted once, and swallowed until its timeout. -/
def reasmKill (h : PackHeader) (f : Fragment) (s : State) : State :=
  dropForeign (setPack (fun p => { p with reasm := p.reasm.map (fun r =>
    if r.source == h.source && r.exchange == f.exchange && r.request == f.request then { r with dead := true, parts := [] }
    else r) }) s)

/-- The bytes of a message whose fragments are all there. -/
def reasmBytes (count : Nat) (parts : List (Nat × Bytes)) : Bytes :=
  (List.range count).flatMap (fun i => ((parts.find? (fun x => x.1 == i)).map (·.2)).getD [])

/-- A message whose fragments are all there: its data must add up to the total. -/
def reasmDone (h : PackHeader) (f : Fragment) (parts : List (Nat × Bytes)) (s : State) : State :=
  if parts.length < f.count then
    setPack (fun p => { p with reasm := p.reasm.map (fun r =>
      if r.source == h.source && r.exchange == f.exchange && r.request == f.request then { r with parts := parts }
      else r) }) s
  else if (parts.map (fun x => x.2.length)).sum != f.total then reasmKill h f s
  else setPack (fun p => { p with
    reasm := p.reasm.filter (fun r => !(r.source == h.source && r.exchange == f.exchange && r.request == f.request))
    ready := p.ready ++ [(h.source, f.exchange, reasmBytes f.count parts)], rxCnt := p.rxCnt + 1 }) s

/-- A fragment for this member: a JOIN_REQ at a lead, a JOIN_ACCEPT at a joiner. -/
def fragmentIn (h : PackHeader) (f : Fragment) (s : State) : State :=
  let bad := f.count == 0 || 64 < f.count || f.count ≤ f.index || 1416 < f.data.length
  match s.pack.reasm.find? (fun r => r.source == h.source && r.exchange == f.exchange && r.request == f.request) with
  | some r =>
    if r.dead then s
    else if bad || r.count != f.count || r.total != f.total then reasmKill h f s
    else if r.parts.any (fun x => x.1 == f.index) then s
    else reasmDone h f (r.parts ++ [(f.index, f.data)]) s
  | none =>
    let full := f.request && 4 ≤ (s.pack.reasm.filter (fun r => r.request && !r.dead)).length
    let r : Reasm := { source := h.source, exchange := f.exchange, request := f.request, count := f.count,
                       total := f.total, parts := [], first := s.tsu.ns, dead := false }
    let s := setPack (fun p => { p with reasm := p.reasm ++ [r] }) s
    if bad || full then reasmKill h f s else reasmDone h f [(f.index, f.data)] s

/-- PACK_FRAGMENT. -/
def packFragment (h : PackHeader) (f : Fragment) (s : State) : State :=
  gwlJoin (8 + f.data.length) h (fun t =>
    if (if f.request then leads t else t.pack.st == .joining) then fragmentIn h f t else t) s

/-- PACK_REASSEMBLY_TIMEOUT: 100 ms of TOD after the first fragment. -/
def packReassemblyTimeout (source exchange : Nat) (s : State) : State :=
  let late (r : Reasm) : Bool :=
    r.source == source && r.exchange == exchange && reached s.tsu.ns (r.first + 100000000)
  if !fwRuns s then s
  else
    let n := (s.pack.reasm.filter (fun r => late r && !r.dead)).length
    setPack (fun p => { p with
      reasm := p.reasm.filter (fun r => !late r), foreign := p.foreign + BitVec.ofNat 64 n }) s

/-- Take a reassembled message: its bytes. -/
def readyTake (source exchange : Nat) (s : State) : Option (Bytes × State) :=
  if fwRuns s then
    (s.pack.ready.find? (fun r => r.1 == source && r.2.1 == exchange)).map (fun r =>
      (r.2.2, setPack (fun p => { p with ready := p.ready.erase r }) s))
  else none

/-- The parts of a message, each with its length before it. -/
def partsOf : Nat → Bytes → List Bytes
  | 0, _ => []
  | k + 1, bs => sub bs 4 (beNat (bs.take 4)) :: partsOf k (bs.drop (4 + beNat (bs.take 4)))

/-- What a reassembled JOIN_REQ carries (R264; log entry 40). -/
structure JoinRequest where
  member : Nat
  eligible : Bool
  scheme : Nat
  nonce : Bytes
  m1 : Bytes
  /-- The IDevID certificates, and the LDevID certificates. -/
  idev : List Bytes
  ldev : List Bytes
  ownerKey : Bytes
  quote : Bytes
  deriving DecidableEq, Repr

/-- Read a JOIN_REQ. -/
def joinRead (b : Bytes) : JoinRequest :=
  let ps := partsOf 6 (b.drop (36 + m1Len 1))
  { member := beNat (sub b 0 2), eligible := u8 b 2 % 2 == 1, scheme := u8 b 3, nonce := sub b 4 32, m1 := sub b 36 (m1Len 1)
    idev := ps.take 2, ldev := (ps.drop 2).take 2, ownerKey := ps.getD 4 [], quote := ps.getD 5 [] }

/-- The LDevID certificates that there are verify under the owner key, and there is one (R264). -/
def ldevOk (q : JoinRequest) : Bool :=
  let cs := q.ldev.filter (fun c => !c.isEmpty)
  !cs.isEmpty && cs.all (fun c => signedBy q.scheme q.ownerKey (Config.certParts c).1 (Config.certParts c).2)

/-- The quote is signed by both of the joiner's IDevID keys, covers the nonce, and reports a manifest digest of the list in MEAS1
(R264, R337, R345). -/
def quoteOk (q : JoinRequest) (digests : List Bytes) : Bool :=
  let msg := ascii "PK3200-QUOTE" ++ q.quote.take 496
  verify 1 (Config.certKey (q.idev.getD 0 [])) msg (sub q.quote 496 (sigLen 1)) &&
  verify 2 (Config.certKey (q.idev.getD 1 [])) msg (sub q.quote (496 + sigLen 1) (sigLen 2)) &&
  sub q.quote 64 32 == q.nonce && digests.any (fun d => sub q.quote 144 48 == sha384 (zb 48 ++ d))

/-- Conditions 1 to 5 of R264: the refusal code, or stOk. -/
def joinCheck (q : JoinRequest) (s : State) : Nat :=
  let owner := s.pack.policy.owner
  if !q.idev.all Config.chains then stDenied
  else if !zeros owner 0 48 && (sha384 (le 1 q.scheme ++ q.ownerKey) != owner || !ldevOk q) then stDenied
  else if !quoteOk q s.pack.policy.digests then stDenied
  else if q.member == s.pack.me || (peerOf s q.member).configured || 511 < q.member then stExists
  else if 512 ≤ confCount s then stNoRoom
  else stOk

/-- Refuse a join: JOIN_REFUSE, event 0x700B. -/
def joinRefused (m code : Nat) (s : State) : State := evF 0x700B (le 2 code ++ le 2 m) (packSend 0x04 m (be 2 code) s)

/-- The CKN of the exchange of a join (log entry 40). -/
def joinCkn (packId m : Nat) : Bytes := le 8 packId ++ le 2 m

/-- The members' bitmap of a predicate, as a number. -/
def memberBits (f : Nat → Bool) : Nat := mask ((List.range 512).map f)

/-- The configured members, this one included. -/
def confBits (s : State) : Nat := memberBits (fun m => m == s.pack.me || (peerOf s m).configured)
/-- The members heard, this one included. -/
def heardBits (s : State) : Nat := memberBits (fun m => m == s.pack.me || ((peerOf s m).configured && (peerOf s m).heard))
/-- The eligible members among them. -/
def eligibleBits (s : State) : Nat :=
  memberBits (fun m => if m == s.pack.me then s.pack.eligible else (peerOf s m).configured && (peerOf s m).eligible)

/-- JOIN_REQ: the lead admits or refuses (R264). On admission it answers the exchange, signs T, and sends the pack key sealed under
the link key, and the member list. -/
def joinReq (source exchange : Nat) (s : State) : State :=
  match readyTake source exchange s with
  | none => s
  | some (b, s) =>
    let q := joinRead b
    if !leads s then s
    else if joinCheck q s != stOk then joinRefused q.member (joinCheck q s) s
    else
      let d := drawMany 3 s
      match pkeRespond 1 d.1 q.m1 with
      | none => joinRefused q.member stDenied s
      | some (m2, ze, zk) =>
        let s := d.2
        let m2 := pad (m2Len 1) m2
        let ckn := joinCkn s.pack.packId q.member
        let t := pkeT 1 2 32 ckn q.m1 m2
        let slot := tfree 0x1000 s.km.sym
        let s := putSym slot 2 (pkeResult 2 32 ze zk t ckn) s
        let dep := deputy s
        let s := setPeer q.member (fun _ => { Peer.reset with
          configured := true, heard := true, eligible := q.eligible, lastHello := s.tsu.ns, link := some slot }) (memberNew q.member s)
        let s := setPack (fun p => { p with exchange := p.exchange + 1 }) s
        let body := be 2 s.pack.me ++ be 4 s.pack.keyNumber ++ be 4 s.pack.dirVersion ++
          be 2 s.pack.dirHold ++ m2 ++ keySealed (linkKey q.member s) s ++
          be 64 (confBits s) ++ be 64 (eligibleBits s) ++ part ((certOf s 0).getD []) ++ part ((certOf s 1).getD []) ++
          idSign false 3 t s
        let s := packSend 0x03 q.member body s
        evF 0x7002 (le 2 q.member) (if deputy s != dep then copiesAgain s else s)

/-- What a reassembled JOIN_ACCEPT carries (R262, R264; log entry 40). -/
structure JoinAccept where
  lead : Nat
  keyNumber : Nat
  version : Nat
  dirHold : Nat
  m2 : Bytes
  wrapped : Bytes
  members : Nat
  eligible : Nat
  /-- The lead's IDevID certificates, and its signatures over T. -/
  certs : List Bytes
  sig : Bytes
  deriving DecidableEq, Repr

/-- Read a JOIN_ACCEPT. -/
def acceptRead (b : Bytes) : JoinAccept :=
  let n := 12 + m2Len 1
  let ps := partsOf 2 (b.drop (n + 176))
  { lead := beNat (sub b 0 2), keyNumber := beNat (sub b 2 4), version := beNat (sub b 6 4), dirHold := beNat (sub b 10 2)
    m2 := sub b 12 (m2Len 1)
    wrapped := sub b n 48, members := beNat (sub b (n + 48) 64), eligible := beNat (sub b (n + 112) 64), certs := ps
    sig := b.drop (n + 184 + (ps.map List.length).sum) }

/-- The lead's identity: its certificates chain to the device root and both its signatures over T verify (R261, R264). -/
def acceptOk (a : JoinAccept) (t : Bytes) : Bool :=
  a.certs.all Config.chains && verify 1 (Config.certKey (a.certs.getD 0 [])) t (a.sig.take (sigLen 1)) &&
    verify 2 (Config.certKey (a.certs.getD 1 [])) t (a.sig.drop (sigLen 1))

/-- The join ends with a completion; the member is in no pack. -/
def joinEnds (st : Nat) (s : State) : State :=
  packGone (match s.pack.joinDeferred with
    | some d => deferEnd d st 0 s
    | none => s)

/-- The joiner's members after a JOIN_ACCEPT, and the link key's slot with the lead. -/
def joinPeers (a : JoinAccept) (slot : Nat) (s : State) : State :=
  ((List.range 512).filter (fun m => nbit a.members m && m != s.pack.me)).foldl (fun t m =>
    setPeer m (fun _ => { Peer.reset with
      configured := true, heard := true, eligible := nbit a.eligible m, lastHello := t.tsu.ns
      link := if m == a.lead then some slot else none }) t) s

/-- JOIN_ACCEPT: verified, the joiner takes the link key, unseals the pack key, loads the replica and becomes ACTIVE; it signs T
too (R264, Table 11-3). One that does not verify, or whose key does not unseal, changes nothing. `dir` is the replica that comes
with it (log entry 40). -/
def joinAccept (source exchange : Nat) (dir : List DirEntry) (s : State) : State :=
  match readyTake source exchange s with
  | none => s
  | some (b, s) =>
    let a := acceptRead b
    let p := s.pack
    let ckn := joinCkn p.packId p.me
    let t := pkeT 1 2 32 ckn p.joinM1 a.m2
    if p.st != .joining || !acceptOk a t then s
    else match pkeFinish 1 p.joinSecret a.m2 with
      | none => s
      | some (ze, zk) =>
        let link := pkeResult 2 32 ze zk t ckn
        match keyUnsealed link a.wrapped with
        | none => s
        | some key =>
          let slot := tfree 0x1000 s.km.sym
          let s := putSym slot 2 link s
          let s := setPack (fun p => { p with
            st := .active, lead := some a.lead, key := some key, keyNumber := a.keyNumber, sendNow := a.keyNumber
            txSeq := 1, dirHold := a.dirHold, view := a.members, joinSig := idSign false 3 t s, dir := dir, dirVersion := a.version
            joinDeferred := none, joinNonce := [], joinSecret := [], joinM1 := [] }) s
          let s := evF 0x7001 (le 8 p.packId ++ le 2 p.me) (joinPeers a slot s)
          match p.joinDeferred with
          | some d => deferEnd d stOk 0 s
          | none => s

/-- JOIN_REFUSE: with one of the three codes of R264 it ends the join. -/
def joinRefuse (h : PackHeader) (code : Nat) (s : State) : State :=
  gwlJoin 2 h (fun t =>
    let t := setPack (fun p => { p with rxCnt := p.rxCnt + 1 }) t
    if t.pack.st == .joining && (code == stDenied || code == stExists || code == stNoRoom) then joinEnds code t else t) s

/-- PACK_JOIN_TIMEOUT: 1 s of TOD without an answer. -/
def packJoinTimeout (s : State) : State :=
  if fwRuns s && s.pack.st == .joining && reached s.tsu.ns (s.pack.joinTod + 1000000000) then joinEnds stTimeout s else s

/-! ### Members (R263, R266, R267) -/

/-- HELLO: its sender, a configured member, is heard; one that was LOST has returned, and has the current pack key sent where it
lacks it; of two leads the lower ID stays; the lead's view says who is configured (R263, R266, R267). -/
def hello (h : PackHeader) (claims eligible : Bool) (version view heard : Nat) (s : State) : State :=
  gwlMsg true 0x01 (helloBody claims eligible version view heard) h (fun s =>
    let m := h.source
    let o := peerOf s m
    if !o.configured then s
    else
      let current := h.keyNumber == s.pack.keyNumber
      let s := peerChange m (fun x => { x with
        heard := true, eligible := eligible, claims := claims, lastHello := s.tsu.ns
        lacks := if current then none else x.lacks }) s
      let s := if !o.heard then evF 0x7004 (le 2 m ++ le 4 ((s.tsu.ns - o.lastHello).toNat / 1000000)) s else s
      let s := if leads s && (peerOf s m).lacks.isSome then keySend m s else s
      let s := if claims && (match s.pack.lead with
          | some l => decide (m < l)
          | none => true) then leadChange (some m) s else s
      if s.pack.lead == some m then viewTake view s else s) s

/-- LEAVE: its sender is no longer configured. -/
def leave (h : PackHeader) (s : State) : State := gwl 0x05 [] h (memberGone 0 h.source) s

/-- KEY_ROTATE: the new pack key under this member's link key, or the member is put out for a cause (R266, Table 11-3). A member
that was out of contact takes the key from whoever leads now (log entry 41). -/
def keyRotate (h : PackHeader) (number cause : Nat) (wrapped : Bytes) (s : State) : State :=
  gwl 0x06 (rotateBody number cause wrapped) h (fun s =>
    if cause != 0 then (if s.pack.lead == some h.source then packLeft cause s else s)
    else match keyUnsealed (linkKey h.source s) wrapped with
      | some key => if s.pack.keyNumber < number then keyInstall key number s else s
      | none => s) s

/-- HELLO_TIMER: every 1 ms. -/
def helloTimer (s : State) : State :=
  if fwRuns s && inPack s && reached s.tsu.ns (s.pack.helloTod + 1000000) then
    packSend 0x01 0xFFFF (helloBody (isLead s) s.pack.eligible s.pack.dirVersion (confBits s) (heardBits s))
      (setPack (fun p => { p with helloTod := s.tsu.ns }) s)
  else s

/-- A member's HELLO has been missing for 10 ms. -/
def silent (m : Nat) (s : State) : Bool := reached s.tsu.ns ((peerOf s m).lastHello + 10000000)

/-- MEMBER_UNHEARD: the member is LOST (R263). -/
def memberUnheard (m : Nat) (s : State) : State :=
  let o := peerOf s m
  if !(fwRuns s && inPack s && o.configured && o.heard && silent m s) then s
  else
    let s := evF 0x7003 (le 2 m) (setPack (fun p => { p with lostCnt := p.lostCnt + 1 }) s)
    let s := if s.pack.lead == some m then claimsFail s else s
    peerChange m (fun x => { x with heard := false, claims := false, lostAt := s.tsu.ns }) s

/-- MEMBER_DEPART: DIR_HOLD has passed since the member became LOST (R263). -/
def memberDepart (m : Nat) (s : State) : State :=
  let o := peerOf s m
  if fwRuns s && inPack s && o.configured && !o.heard &&
    reached s.tsu.ns (o.lostAt + BitVec.ofNat 64 (s.pack.dirHold * 1000000000)) then memberGone 3 m s
  else s

/-- The lowest-ID lead-eligible member heard, itself included, other than one. -/
def nextLead (but : Option Nat) (s : State) : Option Nat :=
  (List.range 512).find? (fun m => but != some m &&
    (if m == s.pack.me then s.pack.eligible else
      (peerOf s m).configured && (peerOf s m).heard && (peerOf s m).eligible))

/-- LEAD_TIMEOUT: the lead has not been heard for 10 ms (R267). -/
def leadTimeout (s : State) : State :=
  if !(fwRuns s && inPack s) then s
  else match s.pack.lead with
    | none => leadChange (nextLead none s) s
    | some l =>
      if l == s.pack.me || !silent l s then s
      else
        leadChange (nextLead (some l) s) s

/-! ### Pack time (R269) -/

/-- The difference of two times, in 2^-32 ns (R236). -/
def timeDiff (a b : W64 × W32) : Int := (a.1 - b.1).toInt * 4294967296 + ((a.2.toNat : Int) - b.2.toNat)

/-- PACK_SYNC_TIMER: SYNC and FOLLOW_UP, every 15.625 ms. FOLLOW_UP names its SYNC by the sequence. -/
def packSyncTimer (s : State) : State :=
  if fwRuns s && leads s && reached s.tsu.ns (s.pack.syncTod + 15625000) then
    let c := capturePhase s
    let s := setPack (fun p => { p with syncTod := s.tsu.ns }) c.2
    packSend 0x11 0xFFFF (be 8 s.pack.txSeq ++ timeWire (txStamp s 64 c.1)) (packSend 0x10 0xFFFF [] s)
  else s

/-- The member follows pack time: its servo source is PACK and it is not the lead. -/
def followsPack (s : State) : Bool := s.pack.st == .active && s.tsu.source == 3 && !leads s

/-- PACK_DELAY_REQ_TIMER: every 15.625 ms. -/
def packDelayReqTimer (s : State) : State :=
  match s.pack.lead with
  | some l =>
    if fwRuns s && followsPack s && reached s.tsu.ns (s.pack.delayTod + 15625000) then
      let c := capturePhase s
      packSend 0x12 l [] (setPack (fun p => { p with
        delayTod := s.tsu.ns, delayTx := some (txStamp c.2 64 c.1, p.txSeq) }) c.2)
    else s
  | none => s

/-- SYNC: its receive time at GP0. -/
def sync (h : PackHeader) (s : State) : State :=
  gwlLead 0x10 [] h (fun s =>
    let c := capturePhase s
    setPack (fun p => { p with
      syncRx := some (rxStamp c.2 64 c.1, h.sequence), syncAccepted := s.tsu.ns }) c.2) s

/-- FOLLOW_UP: t_rx - t_tx of the SYNC it names, less the path delay measured, is a sample for the servo. -/
def followUp (h : PackHeader) (sequence : Nat) (tx : W64 × W32) (s : State) : State :=
  gwlLead 0x11 (be 8 sequence ++ timeWire tx) h (fun s =>
    match s.pack.syncRx with
    | none => s
    | some (rx, n) =>
      if n != sequence then s
      else
        let d := timeDiff rx tx
        let s := setPack (fun p => { p with syncRx := none, syncDelta := some d }) s
        match s.pack.packDelay with
        | some path => if followsPack s then servoSample (toCorrection d - path) path (packParent s.pack.lead) s else s
        | none => s) s

/-- DELAY_REQ: the lead answers with its receive time. -/
def delayReq (h : PackHeader) (s : State) : State :=
  gwlAtLead 0x12 [] h (fun s =>
    let c := capturePhase s
    packSend 0x13 h.source (be 8 h.sequence ++ timeWire (rxStamp c.2 64 c.1)) c.2) s

/-- DELAY_RESP: with the last SYNC it gives the path delay. -/
def delayResp (h : PackHeader) (sequence : Nat) (rx : W64 × W32) (s : State) : State :=
  gwlLead 0x13 (be 8 sequence ++ timeWire rx) h (fun s =>
    match s.pack.delayTx, s.pack.syncDelta with
    | some (tx, n), some d =>
      if n != sequence then s
      else setPack (fun p => { p with delayTx := none, packDelay := some (toCorrection ((d + timeDiff rx tx).tdiv 2)) }) s
    | _, _ => s) s

/-! ### The directory (R270 to R272) -/

/-- DIR_CLAIM at the lead. -/
def dirClaim (h : PackHeader) (e : DirEntry) (s : State) : State :=
  gwlAtLead 0x20 (dirWire e) h (fun s =>
    let e := { e with owner := h.source }
    if dirOwned s e then packSend 0x21 h.source (dirWire e ++ be 4 s.pack.dirVersion) s
    else if dirGrants s e then copyStart (.grant e) s
    else
      let full := !dirTaken s e
      let s := packSend 0x22 h.source (dirWire e) s
      if full then evF 0x700A (le 1 e.typ) s else s) s

/-- DIR_GRANT. -/
def dirGrant (h : PackHeader) (e : DirEntry) (version : Nat) (s : State) : State :=
  gwlLead 0x21 (dirWire e ++ be 4 version) h (fun s =>
    if s.pack.claims.any (fun x => dirSame x.entry e) && e.owner == s.pack.me then
      claimAnswer e 0 (dirAdd e s.pack.dirVersion s)
    else s) s

/-- DIR_DENY. -/
def dirDeny (h : PackHeader) (e : DirEntry) (s : State) : State :=
  gwlLead 0x22 (dirWire e) h (fun s =>
    if s.pack.claims.any (fun x => dirSame x.entry e) then
      claimAnswer e 1 (setPack (fun p => { p with denyCnt := p.denyCnt + 1 }) s)
    else s) s

/-- DIR_UPDATE: a change of the replica, in version order. -/
def dirUpdate (h : PackHeader) (e : DirEntry) (add : Bool) (version : Nat) (s : State) : State :=
  gwlLead 0x23 (dirWire e ++ bit8 add ++ be 4 version) h (fun s =>
    let s := setPack (fun p => { p with held := p.held.filter (fun x => !dirSame x e) }) s
    if version ≤ s.pack.dirVersion then s
    else if add then dirAdd e version s else dirRemove e version s) s

/-- DIR_RELEASE at the lead: of a value its sender owns. -/
def dirReleaseIn (h : PackHeader) (e : DirEntry) (s : State) : State :=
  gwlAtLead 0x24 (dirWire e) h (fun s =>
    let e := { e with owner := h.source }
    if dirOwned s e then leadRelease e s else s) s

/-! ### Epochs (R273 to R275, R278) -/

/-- EPOCH_PREP: a participant, or a deputy that is none, takes the parameters and acknowledges them. -/
def epochPrep (h : PackHeader) (par : EpochParams) (s : State) : State :=
  gwlLead 0x30 (prepBody par) h (fun s =>
    if (epochOf s par.number).isSome then s
    else
      let mine := nbit par.members s.pack.me
      let e : Epoch :=
        { par := par, st := if mine then 0 else 0xFF, decision := 0, decisionTod := 0, switchTod := 0, votes := 0, voted := 0, copied := false,
          cause := 0, acks := 0, sentTod := 0, received := false, held := 0, entries := [], enlisted := false }
      let s := setPack (fun p => { p with
        epochs := p.epochs ++ [e], lastEpoch := Nat.max p.lastEpoch par.number }) s
      packSend 0x30 h.source (be 4 par.number)
        (if mine then evF 0x7009 (le 4 par.number ++ le64 par.ts) s else s)) s

/-- EPOCH_VOTE at the lead: recorded; for an epoch already decided, answered with the decision (R278). -/
def epochVote (h : PackHeader) (n : Nat) (ready : Bool) (s : State) : State :=
  gwlAtLead 0x31 (be 4 n ++ bit8 ready) h (epochVoteAt n h.source ready) s

/-- VOTE_ACKNOWLEDGEMENT: the waiting EPOCH_ENLIST completes. -/
def voteAcknowledgement (h : PackHeader) (n : Nat) (s : State) : State :=
  gwlLead 0x31 (be 4 n) h (wake (· == Wait.vote n) (fun _ t => ok t)) s

/-- The member can store a copy: it knows the epoch of a vote or decision. -/
def copyFits (x : CopyItem) (s : State) : Bool := match x with
  | .grant _ => true
  | .vote n _ _ | .decision n _ => (epochOf s n).isSome

/-- STATE_COPY: stored, then acknowledged (R268). -/
def stateCopy (h : PackHeader) (x : CopyItem) (s : State) : State :=
  gwlLead 0x34 (copyBytes x) h (fun s =>
    if !copyFits x s then s
    else
    let s := match x with
      | .vote n m ready => setEpoch n (fun e => if nbit e.voted m then e else { e with
          voted := e.voted + 2 ^ m, votes := e.votes + if ready then 2 ^ m else 0 }) s
      | .grant e => setPack (fun p => { p with held := p.held.filter (fun y => !dirSame y e) ++ [e] }) s
      | .decision n commit => setEpoch n (fun e => { e with held := if commit then 1 else 2 }) s
    packSend 0x34 h.source (copyBytes x) s) s

/-- EPOCH_DECIDE: received, and acknowledged each time. -/
def epochDecide (h : PackHeader) (n : Nat) (commit : Bool) (cause : Nat) (s : State) : State :=
  gwlLead 0x32 (be 4 n ++ le 1 (if commit then 1 else 2) ++ le 1 cause) h (fun s =>
    if (epochOf s n).isSome then packSend 0x33 h.source (be 4 n) (epochReceive n commit cause s) else s) s

/-- EPOCH_ACK at the lead. -/
def epochAck (h : PackHeader) (n : Nat) (s : State) : State :=
  gwlAtLead 0x33 (be 4 n) h (setEpoch n (fun e => if nbit e.acks h.source then e else { e with acks := e.acks + 2 ^ h.source })) s

/-- EPOCH_DECIDE_RESEND: every 1 ms until acknowledged or Ts + V. -/
def epochDecideResend (n : Nat) (s : State) : State :=
  match epochOf s n with
  | none => s
  | some e =>
    if fwRuns s && leads s && e.decision != 0 && e.copied && !reached s.tsu.ns (epochEnd e) &&
      reached s.tsu.ns (e.sentTod + 1000000) then epochSendDecision n s
    else s

/-- EPOCH_TP_REACHED: the lead aborts without every vote; a PREPARED participant votes REFUSE (R274, Table 11-5). -/
def epochTpReached (n : Nat) (s : State) : State :=
  match epochOf s n with
  | none => s
  | some e =>
    if !(fwRuns s && inPack s && reached s.tsu.ns e.par.tp) then s
    else
      let s := if leads s && e.decision == 0 then epochDecideAs n false 2 s else s
      if e.st == 0 then
        let s := setEpoch n (fun x => { x with st := 2 }) s
        if isLead s then s else epochSendVote n false s
      else s

/-- EPOCH_IN_DOUBT: Ts - 1 ms without a decision. -/
def epochInDoubt (n : Nat) (s : State) : State := if fwRuns s then epochSettled n s else s

/-- EPOCH_TS_REACHED: a COMMITTED epoch is SWITCHED; its TX_NEW SAs switch by their arming. -/
def epochTsReached (n : Nat) (s : State) : State :=
  match epochOf s n with
  | none => s
  | some e =>
    if fwRuns s && e.st == 3 && reached s.tsu.ns e.par.ts then
      setEpoch n (fun x => { x with st := 6, switchTod := s.tsu.ns }) s
    else s

/-- EPOCH_OVERLAP_END: at Ts + V an IN_DOUBT participant switches at once; the others' epochs close. -/
def epochOverlapEnd (n : Nat) (s : State) : State :=
  match epochOf s n with
  | none => s
  | some e =>
    if !(fwRuns s && reached s.tsu.ns (epochEnd e)) then s
    else match e.st with
      | 4 =>
        let nb := epochEnd e + BitVec.ofNat 64 e.par.overlap
        let s := eachRole e 2 (fun i => retireOld i nb) (eachRole e 1 switchNow s)
        evF 0x7011 (le 4 n) (setEpoch n (fun x => { x with st := 6, switchTod := s.tsu.ns }) s)
      | 2 | 3 | 5 | 6 => setEpoch n (fun x => { x with st := 7 }) s
      | _ => s

/-! ### The meanings -/

def execPackCreate (mb : Nat) (s : State) : Host.Outcome State Fault Refusal := .next (fcp 0x0700 mb packCreate s)
def execPackJoin (mb : Nat) (s : State) : Host.Outcome State Fault Refusal := .next (fcp 0x0701 mb packJoin s)
def execPackLeave (mb : Nat) (s : State) : Host.Outcome State Fault Refusal := .next (fcp 0x0702 mb packLeave s)
def execPackExpel (mb : Nat) (s : State) : Host.Outcome State Fault Refusal := .next (fcp 0x0703 mb packExpel s)
def execPackPolicySet (mb : Nat) (s : State) : Host.Outcome State Fault Refusal := .next (fcp 0x0704 mb packPolicySet s)
def execPackStatusGet (mb : Nat) (s : State) : Host.Outcome State Fault Refusal := .next (fcp 0x0705 mb packStatusGet s)
def execPackDirGet (mb : Nat) (reads : List (Nat × Nat)) (s : State) : Host.Outcome State Fault Refusal :=
  .next (fcpOut 0x0706 mb reads packDirGet s)
def execPackStatsGet (mb : Nat) (s : State) : Host.Outcome State Fault Refusal := .next (fcp 0x0707 mb packStatsGet s)
def execEpochPrepare (mb : Nat) (s : State) : Host.Outcome State Fault Refusal := .next (fcp 0x0710 mb epochPrepare s)
def execEpochEnlist (mb : Nat) (dma : DmaRead) (s : State) : Host.Outcome State Fault Refusal :=
  .next (fcpDma 0x0711 mb dma epochEnlist s)
def execEpochAbort (mb : Nat) (s : State) : Host.Outcome State Fault Refusal := .next (fcp 0x0712 mb epochAbort s)
def execEpochStatusGet (mb : Nat) (s : State) : Host.Outcome State Fault Refusal :=
  .next (fcp 0x0713 mb epochStatusGet s)
def execPackFragment (hdr : PackHeader) (frag : Fragment) (s : State) : Host.Outcome State Fault Refusal :=
  .next (packFragment hdr frag s)
def execPackReassemblyTimeout (source exchange : Nat) (s : State) : Host.Outcome State Fault Refusal :=
  .next (packReassemblyTimeout source exchange s)
def execHello (hdr : PackHeader) (claimsLead eligible : Bool) (version view heard : Nat) (s : State) : Host.Outcome State Fault Refusal :=
  .next (hello hdr claimsLead eligible version view heard s)
def execJoinReq (source exchange : Nat) (s : State) : Host.Outcome State Fault Refusal :=
  .next (joinReq source exchange s)
def execJoinAccept (source exchange : Nat) (dir : List DirEntry) (s : State) : Host.Outcome State Fault Refusal :=
  .next (joinAccept source exchange dir s)
def execJoinRefuse (hdr : PackHeader) (code : Nat) (s : State) : Host.Outcome State Fault Refusal :=
  .next (joinRefuse hdr code s)
def execPackJoinTimeout (s : State) : Host.Outcome State Fault Refusal := .next (packJoinTimeout s)
def execLeave (hdr : PackHeader) (s : State) : Host.Outcome State Fault Refusal := .next (leave hdr s)
def execKeyRotate (hdr : PackHeader) (keyNumber cause : Nat) (wrapped : Bytes) (s : State) : Host.Outcome State Fault Refusal :=
  .next (keyRotate hdr keyNumber cause wrapped s)
def execPackKeySwitch (s : State) : Host.Outcome State Fault Refusal := .next (packKeySwitch s)
def execPackOldKeyExpiry (s : State) : Host.Outcome State Fault Refusal := .next (packOldKeyExpiry s)
def execHelloTimer (s : State) : Host.Outcome State Fault Refusal := .next (helloTimer s)
def execMemberUnheard (member : Nat) (s : State) : Host.Outcome State Fault Refusal := .next (memberUnheard member s)
def execMemberDepart (member : Nat) (s : State) : Host.Outcome State Fault Refusal := .next (memberDepart member s)
def execLeadTimeout (s : State) : Host.Outcome State Fault Refusal := .next (leadTimeout s)
def execPackSyncTimer (s : State) : Host.Outcome State Fault Refusal := .next (packSyncTimer s)
def execPackDelayReqTimer (s : State) : Host.Outcome State Fault Refusal := .next (packDelayReqTimer s)
def execSync (hdr : PackHeader) (s : State) : Host.Outcome State Fault Refusal :=
  .next (sync hdr s)
def execFollowUp (hdr : PackHeader) (sequence : Nat) (tod : W64) (frac : W32) (s : State) : Host.Outcome State Fault Refusal :=
  .next (followUp hdr sequence (tod, frac) s)
def execDelayReq (hdr : PackHeader) (s : State) : Host.Outcome State Fault Refusal :=
  .next (delayReq hdr s)
def execDelayResp (hdr : PackHeader) (sequence : Nat) (tod : W64) (frac : W32) (s : State) : Host.Outcome State Fault Refusal :=
  .next (delayResp hdr sequence (tod, frac) s)
def execDirClaim (hdr : PackHeader) (entry : DirEntry) (s : State) : Host.Outcome State Fault Refusal :=
  .next (dirClaim hdr entry s)
def execDirGrant (hdr : PackHeader) (entry : DirEntry) (version : Nat) (s : State) : Host.Outcome State Fault Refusal :=
  .next (dirGrant hdr entry version s)
def execDirDeny (hdr : PackHeader) (entry : DirEntry) (s : State) : Host.Outcome State Fault Refusal :=
  .next (dirDeny hdr entry s)
def execDirUpdate (hdr : PackHeader) (entry : DirEntry) (add : Bool) (version : Nat) (s : State) :
    Host.Outcome State Fault Refusal := .next (dirUpdate hdr entry add version s)
def execDirRelease (hdr : PackHeader) (entry : DirEntry) (s : State) : Host.Outcome State Fault Refusal :=
  .next (dirReleaseIn hdr entry s)
def execEpochPrep (hdr : PackHeader) (params : EpochParams) (s : State) : Host.Outcome State Fault Refusal :=
  .next (epochPrep hdr params s)
def execEpochVote (hdr : PackHeader) (epoch : Nat) (ready : Bool) (s : State) : Host.Outcome State Fault Refusal :=
  .next (epochVote hdr epoch ready s)
def execStateCopy (hdr : PackHeader) (copy : CopyItem) (s : State) : Host.Outcome State Fault Refusal :=
  .next (stateCopy hdr copy s)
def execEpochDecide (hdr : PackHeader) (epoch : Nat) (commit : Bool) (cause : Nat) (s : State) :
    Host.Outcome State Fault Refusal := .next (epochDecide hdr epoch commit cause s)
def execEpochAck (hdr : PackHeader) (epoch : Nat) (s : State) : Host.Outcome State Fault Refusal :=
  .next (epochAck hdr epoch s)
def execEpochDecideResend (epoch : Nat) (s : State) : Host.Outcome State Fault Refusal :=
  .next (epochDecideResend epoch s)
def execEpochTpReached (epoch : Nat) (s : State) : Host.Outcome State Fault Refusal := .next (epochTpReached epoch s)
def execEpochInDoubt (epoch : Nat) (s : State) : Host.Outcome State Fault Refusal := .next (epochInDoubt epoch s)
def execEpochTsReached (epoch : Nat) (s : State) : Host.Outcome State Fault Refusal := .next (epochTsReached epoch s)
def execEpochOverlapEnd (epoch : Nat) (s : State) : Host.Outcome State Fault Refusal := .next (epochOverlapEnd epoch s)
def execDeputyAcknowledgement (hdr : PackHeader) (copy : CopyItem) (s : State) : Host.Outcome State Fault Refusal :=
  .next (deputyAcknowledgement hdr copy s)
def execVoteAcknowledgement (hdr : PackHeader) (epoch : Nat) (s : State) : Host.Outcome State Fault Refusal :=
  .next (voteAcknowledgement hdr epoch s)

end Sys2Proof.Machine
end

