-- ==== Sys2Proof/Machine/Counters.lean ====
section
/-! DEFINITION. Counter identifiers, the performance counters, the central reader, the thresholds and the health monitors
(17_counters_health.md, R384 to R401). DEDUCED: log entry 93. DESIGN CHOICE: log entries 33, 91, 92. -/
namespace Sys2Proof.Machine

/-- Change counters and health. -/
def setCnt (f : Cnt → Cnt) (s : State) : State := { s with cnt := f s.cnt }

/-! ### Statistics counters (R385, Table 17-1) -/

/-- The counters of a classifier, by the field order of Table 3-13. -/
def clsStat (x : Cls) (i : Nat) : Option W64 :=
  if i < 16 then
    if i < 4 then none
    else [x.insertCnt, x.moveCnt, x.stashCnt, x.learnCnt, x.evictCnt, x.failCnt, x.limitCnt, x.dropCnt, x.noticeLostCnt,
      x.ageRemoveCnt, x.queueOorCnt][i - 4]?
  else if i < 144 then
    let p := tget .reset x.perPort ((i - 16) / 4)
    [p.drop, p.default, p.untagged, p.nosc][(i - 16) % 4]?
  else none

/-- The counters of a policer (Table 9-7). -/
def polStat (x : Policer) (i : Nat) : Option W64 :=
  if i == 0 then none else [x.green, x.greenOct, x.yellow, x.yellowOct, x.red, x.redOct][i - 1]?

/-- CLS and its policers and PT entries. -/
def sideStat (s : State) (side i : Nat) : Option W64 :=
  if i < 0x10000 then clsStat (s.cls.get side) i
  else if i < 0x20000 then polStat (polOf s side ((i - 0x10000) / 8)) (i % 8)
  else if i < 0x22000 then some (((tget none (s.cls.get side).pt (i - 0x20000)).map (·.hits)).getD 0)
  else none

/-- PNA: associations, channels, line ports (Tables 4-8 and 6-3). -/
def pnaStat (s : State) (i : Nat) : Option W64 :=
  if i < 0x100000 then
    let a := saOf s (i / 8)
    match i % 8 with
    | 1 => some ((a.map (fun x => cntVal s (i / 8) x 0)).getD 0)
    | 2 => some ((a.map (fun x => cntVal s (i / 8) x 1)).getD 0)
    | 3 => some ((a.map (fun x => cntVal s (i / 8) x 2)).getD 0)
    | 4 => some ((a.map (fun x => cntVal s (i / 8) x 3)).getD 0)
    | _ => none
  else if i < 0x140000 then
    (tget none s.chan.scs ((i - 0x100000) / 4)).bind (fun c => match i % 4 with
      | 2 => some c.nosa
      | 3 => some c.switches
      | _ => none)
  else if 0x180000 ≤ i && i < 0x180080 then
    let x := tget .reset s.chan.xc ((i - 0x180000) / 4)
    [x.frames, x.octets, x.nopair, x.expose][i % 4]?
  else if 0x180100 ≤ i && i < 0x180120 then some (tget 0 s.chan.unknownSci (i - 0x180100))
  else none

/-- A field of a slice block (Table 5-10). -/
def unitStat (e : Bool) (even : Bool) (x : SUnit) (f : Nat) : Option W64 := match f with
  | 1 => some x.frames
  | 2 => some x.octets
  | 3 => some x.aborts
  | 4 => some x.faultCnt
  | 5 => some x.hits
  | 6 => if e then some x.misses else none
  | 7 => some (if even then x.pairFrames else 0)
  | _ => none

/-- SLC (Table 5-9, with its slice blocks). -/
def slcStat (s : State) (i : Nat) : Option W64 :=
  let g := i / 128
  let k := i % 128
  let x := s.slices
  if 1 < g || k < 2 then none
  else if k < 66 then unitStat (g == 0) ((k - 2) / 8 % 2 == 0) (unitOf s (8 * g + (k - 2) / 8)) ((k - 2) % 8)
  else if k == 66 then some (if g == 0 then x.enc.aborts else x.dec.aborts)
  else if g == 0 then [x.missNotHot, x.missNotReady, x.missShort, x.discardBlk, x.admitCnt, x.denyCnt][k - 67]?
  else if k == 67 then some x.heel
  else if k == 68 then some x.lurcher
  else if k < 101 then some (tget 0 x.icvFail (k - 69))
  else none

/-- KM (Table 7-12). -/
def kmStat (s : State) (i : Nat) : Option W64 :=
  let side := i / 128
  let k := i % 128
  let c := s.km.cnt.get side
  if 1 < side || k < 5 then none
  else if k < 13 then [c.hit, c.miss, c.fetch, c.stale, c.integrity, c.kekMiss, s.km.evictCnt, s.km.forcedCnt][k - 5]?
  else if k < 77 then
    some (tget 0 ((if (k - 13) % 2 == 0 then s.km.kwbDrop else s.km.unavail).get side) ((k - 13) / 2))
  else none

/-- TM of a side (Tables 8-6, 8-7, 9-8). -/
def tmStat (s : State) (side i : Nat) : Option W64 :=
  if i < 0x200 then
    let x := tmPort s (32 * side + i / 16)
    if i % 16 < 3 then none
    else [x.stick, x.expSent, x.expMiss, x.expRefused, x.xoffCnt,
      pausedNow s x][i % 16 - 3]?
  else if i < 0x600 then
    let g := gateOf s (32 * side + (i - 0x200) / 32)
    let k := i % 32
    if k < 5 then none
    else if k < 9 then [g.changes, g.late, g.overrun, g.realign][k - 5]?
    else if k < 17 then some (tget 0 g.drops (k - 9))
    else none
  else if 0x10000 ≤ i && i < 0x14000 then
    let x := queueOf s side ((i - 0x10000) / 8)
    if i % 8 == 0 then none else [x.sent, x.octets, x.drops][i % 8 - 1]?
  else none

/-- TSU (PTP_STATS_GET). -/
def tsuStat (s : State) (i : Nat) : Option W64 :=
  if i == 0 then none
  else if i < 4 then [s.tsu.stepCnt, s.tsu.fifoLost, s.tsu.masterCnt][i - 1]?
  else if 5 ≤ i && i < 261 then
    let x := ptpPort s ((i - 5) / 4)
    [x.corr, x.write, x.fallback, x.skew][(i - 5) % 4]?
  else none

/-- PX (Table 2-10, with the lanes the port has now). -/
def pxStat (s : State) (i : Nat) : Option W64 :=
  let x := port s (i / 64)
  let k := i % 64
  if 64 < i / 64 || k < 2 then none
  else if k < 26 then x.cnt.list[k - 2]?
  else if k - 26 < (if x.cfg.role == 0 then 0 else modeLanes x.cfg.lane) then some (tget 0 x.fecSym (k - 26))
  else none

/-- The statistics counter that a block and an index name, none where they name none (R385). -/
def statValue (s : State) (block i : Nat) : Option W64 := match block with
  | 0 => if i < 4 then some (tget 0 s.prot.denyCnt i) else none
  | 1 => [s.hif.xboundCnt, s.hif.nqLostCnt, s.hif.authFailCnt][i]?
  | 2 => sideStat s 0 i
  | 3 => sideStat s 1 i
  | 4 => pnaStat s i
  | 5 => slcStat s i
  | 6 => kmStat s i
  | 7 => tmStat s 0 i
  | 8 => tmStat s 1 i
  | 9 => tsuStat s i
  | 10 => pxStat s i
  | 11 => if i == 0 then none else (packCounters s.pack)[i - 1]?
  | _ => none

/-! ### Performance counters (R386 to R388) -/

/-- The blocks with performance counters. -/
def pmcBlock (k : Nat) : Bool := (decide (1 ≤ k) && decide (k ≤ 11)) || k == 15
/-- A performance counter. -/
def pmcOf (s : State) (k n : Nat) : Pmc := tget .reset s.cnt.pmc (8 * k + n)
/-- Change a performance counter. -/
def setPmc (k n : Nat) (f : Pmc → Pmc) (s : State) : State :=
  setCnt (fun c => { c with pmc := tmod .reset c.pmc (8 * k + n) f }) s

/-- The ports whose occurrences a filter of a block counts; 0xFF is every port of the block (Table 17-2). -/
def pmcPorts (k filter : Nat) : List Nat :=
  if filter != 0xFF then [filter]
  else if k == 2 || k == 7 then List.range 32
  else if k == 3 || k == 8 then (List.range 32).map (32 + ·)
  else List.range 65

/-- A sum of counts. -/
def total (l : List Nat) (f : Nat → W64) : W64 := l.foldl (fun n i => n + f i) 0

/-- How often event `e` of block `k` has occurred at a port. -/
def occOf (s : State) (k e p : Nat) : W64 := tget 0 s.cnt.occ (occKey k e p)

/-- How often a per-port event of the ports' MACs has occurred (PX, Table 17-3). -/
def pxEvents (s : State) (e p : Nat) : W64 :=
  let c := (port s p).cnt
  match e with
  | 1 => c.rxFrames
  | 2 => c.txFrames
  | 3 => c.fecCorr
  | 4 => c.fecUncorr
  | 5 => c.txPreempt
  | 6 => c.stompIcv + c.stompAbort + c.stompRxerr
  | _ => c.rxPause

/-- How often the event of a counter has occurred since reset, where the rows show its occurrences: none for cycles, conditions, counts
in flight, DMA requests and MEMC (R387, Table 17-3; log entry 59). -/
def pmcTotal (s : State) (k : Nat) (x : Pmc) : Option W64 :=
  let ps := pmcPorts k x.filter
  let e := x.event
  if e == 0 then none
  else match k with
    | 1 => if e < 4 then some (occOf s 1 e 0) else none
    | 2 | 3 => if e == 6 || 8 < e then none else some (total ps (occOf s k e))
    | 4 => match e with
      | 2 => some (total (List.range 8) (fun u => (unitOf s u).hits))
      | 3 => some s.slices.missNotHot
      | 4 => some s.slices.missNotReady
      | 5 => some s.slices.missShort
      | _ => if e == 1 || e == 6 then some (occOf s 4 e 0) else none
    | 5 => if e == 3 then some (total (List.range 16) (fun u => (unitOf s u).pairFrames))
      else if e == 1 || e == 2 || e == 8 then some (occOf s 5 e 0) else none
    | 6 => match e with
      | 1 => some (total (List.range 2) (fun d => (s.km.cnt.get d).hit))
      | 2 => some (total (List.range 2) (fun d => (s.km.cnt.get d).miss))
      | 4 => some (total (List.range 2) (fun d => (s.km.cnt.get d).kekMiss))
      | 5 => some (occOf s 6 5 0)
      | 6 => some (total (List.range 64) (fun i => tget 0 (s.km.kwbDrop.get (i / 32)) (i % 32)))
      | _ => none
    | 7 | 8 => if e == 8 then some (total ps (fun p => (tmPort s p).expSent))
      else if e < 4 then some (total ps (occOf s k e)) else none
    | 9 => if e == 1 then some (occOf s 9 1 0) else none
    | 10 => if e < 8 then some (total ps (pxEvents s e)) else none
    | 11 => match e with
      | 1 => some s.pack.txCnt
      | 2 => some s.pack.rxCnt
      | 3 => some (s.pack.authFail + s.pack.replayDrop + s.pack.foreign)
      | _ => none
    | _ => none

/-- The head frame of one of a port's queues meets a test. -/
def portHead (s : State) (p : Nat) (f : Nat → Nat → Queue → Frame → Bool) : Bool :=
  let side := tmSide p
  (rangeQueues (tmOf s side) (rangeOf (tmOf s side) side (p % 32))).any (fun e =>
    (e.2.frames.head?.bind (frameOf s)).any (fun x => !x.left && f e.1 (queueTc e.1 e.2) e.2 x))

/-- A condition of a traffic manager's port (Table 17-3; log entry 147). -/
def tmCond (s : State) (e p : Nat) : Bool := match e with
  | 4 => (tmPort s p).xoff
  | 5 => portHead s p (fun q tc _ _ => !(shaperOk s (tmSide p) 0 q && shaperOk s (tmSide p) 1 (p % 32 * 8 + tc) &&
      shaperOk s (tmSide p) 2 (p % 32)))
  | 6 => portHead s p (fun _ tc _ x => !gateAllows s p tc (assumedLen s x (wholeLen x)))
  | 7 => (tmPort s p).sending.isNone && portHead s p (fun q tc _ x => !guardAllows s p (guardLen s x) &&
      !nbit (haltMask s (tmPort s p)) tc && gateAllows s p tc (assumedLen s x (wholeLen x)) &&
      shaperOk s (tmSide p) 0 q && shaperOk s (tmSide p) 1 (p % 32 * 8 + tc) && shaperOk s (tmSide p) 2 (p % 32))
  | _ => false

/-- What a LEVEL counter of a block's event adds in each cycle, where that is a cycle, a condition or a count in flight which the state
shows (R387, Table 17-3; log entry 147). -/
def pmcLevel (s : State) (k : Nat) (x : Pmc) : Option Nat :=
  let e := x.event
  if e == 0 then some 1
  else match k with
    | 1 => if e == 6 then some (b2n ((List.range 8).any (fun m => (getMb s m).st == .executing))) else none
    | 2 | 3 => if e == 6 then some (b2n (s.cls.get (k - 2)).busy) else none
    | 4 => match e with
      | 7 => some 0
      | 8 => some (b2n (decide (1024 ≤ (s.slices.hot.filter (fun h => h.2.isSome)).length)))
      | _ => none
    | 5 => match e with
      | 4 => some (b2n (!(s.slices.enc.pairQ.isEmpty && s.slices.enc.singleQ.isEmpty)))
      | 5 => some (b2n (!(s.slices.dec.pairQ.isEmpty && s.slices.dec.singleQ.isEmpty)))
      | 6 => some (b2n (s.flow.frames.any (fun f => f.2.any (fun y => y.stage == .order))))
      | 7 => some (b2n ((List.range 8).any (fun u => decide (192 < (unitOf s (8 + u)).cells))))
      | _ => none
    | 6 => match e with
      | 3 => some (s.km.slots.filter (fun y => y.2.st == .loading)).length
      | 7 => some (s.km.slots.filter (fun y => y.2.st == .draining)).length
      | _ => none
    | 7 | 8 => if 4 ≤ e && e < 8 then some (b2n ((pmcPorts k x.filter).any (tmCond s e))) else none
    | 9 => match e with
      | 2 => some (b2n (s.tsu.slew != 0))
      | 3 => some (b2n (decide (3072 < s.tsu.fifo.length)))
      | _ => none
    | 15 => if e == 3 then some (s.km.slots.filter (fun y => y.2.st == .loading && y.2.datapath)).length else none
    | _ => none

/-- Cycles of a block's clock that `t` TCLK make up: PCLK, MCLK, TCLK or CCLK (R25, Table 17-3). -/
def clockOf (k t : Nat) : Nat :=
  if k == 1 then 3 * t / 2 else if k == 15 then 2 * t / 3 else if k == 9 then t else 2 * t

/-- A counter that starts to count the occurrences from now on. -/
def pmcFrom (s : State) (k : Nat) (x : Pmc) : Pmc := { x with base := (pmcTotal s k x).getD 0, seen := none }

/-- A counter adds an amount: past 0xFFFF_FFFF it wraps and sets OVF (R388). -/
def pmcAdd (n : Nat) (x : Pmc) : Pmc :=
  { x with value := x.value + BitVec.ofNat 32 n, ovf := x.ovf || decide (2 ^ 32 ≤ x.value.toNat + n) }

/-- Carries of an even counter into its odd partner with CHAIN set, which counts while it is enabled (R387, R388). -/
def pmcCarry (k n wraps : Nat) (s : State) : State :=
  let q := pmcOf s k (n + 1)
  if n % 2 == 0 && q.chain && q.enable then setPmc k (n + 1) (pmcAdd wraps) s else s

/-- A counter adds an amount, and its partner the carries. -/
def pmcPut (k n more : Nat) (f : Pmc → Pmc) (s : State) : State :=
  pmcCarry k n (((pmcOf s k n).value.toNat + more) / 2 ^ 32) (setPmc k n (fun y => f (pmcAdd more y)) s)

/-- The cycle of the block's clock before this one had an occurrence too: two TCLK are never next to each other in CCLK or PCLK
(R387; log entry 145). -/
def pmcNext (k now : Nat) (seen : Option Nat) : Bool :=
  seen == some now || ((k == 9 || k == 15) && seen.any (fun c => c + 1 == now))

/-- What a counter adds for the occurrences since its base: their number in LEVEL, in EDGE 1 if the cycle before had none (R387). -/
def pmcOccurs (s : State) (k : Nat) (x : Pmc) (t : W64) : Nat :=
  if !x.edge then (t - x.base).toNat
  else b2n (t != x.base && !pmcNext k s.cnt.tclk x.seen)

/-- An enabled counter that counts its own event is brought up to date: by the occurrences since its base where the rows show them;
one that counts in cycles was as they passed; any other by a free amount (R387, R388; log entry 59). -/
def pmcCount (k n : Nat) (s : State) : State :=
  let x := pmcOf s k n
  if !x.enable || x.chain then s
  else match pmcTotal s k x with
    | some t =>
      pmcPut k n (pmcOccurs s k x t) (fun y =>
        { y with base := t, seen := if t == x.base then y.seen else some s.cnt.tclk }) s
    | none =>
      if (pmcLevel s k x).isSome then s
      else
        let r := drawFree 59 s
        pmcPut k n (r.1.toNat % 2 ^ 32) id r.2

/-- What a counter of cycles, of a condition or of a count in flight adds while `n` TCLK pass in the present state (R387). -/
def pmcCycles (s : State) (k n : Nat) (x : Pmc) (level : Nat) : Nat :=
  let cycles := clockOf k (s.cnt.tclk + n) - clockOf k s.cnt.tclk
  if !x.edge then level * cycles else b2n (level != 0 && cycles != 0 && x.seen.isNone)

/-- One counter while `n` TCLK pass. -/
def pmcPass (n k i : Nat) (s : State) : State :=
  let s := pmcCount k i s
  let x := pmcOf s k i
  if !x.enable || x.chain then s
  else match pmcLevel s k x with
    | none => s
    | some l => pmcPut k i (pmcCycles s k n x l) (fun y => { y with seen := if l == 0 then none else some s.cnt.tclk }) s

/-- The enabled counters while `n` TCLK pass in the present state (R387). -/
def pmcTick (n : Nat) (s : State) : State :=
  let t := (tkeys (fun _ x => x.enable) s.cnt.pmc).foldl (fun t i => pmcPass n (i / 8) (i % 8) t) s
  setCnt (fun c => { c with tclk := c.tclk + n }) t

/-- A counter is brought up to date; a chained one counts the carries of its even partner (Table 17-2). -/
def pmcSettle (k n : Nat) (s : State) : State :=
  if (pmcOf s k n).enable then pmcCount k (if (pmcOf s k n).chain then n - 1 else n) s else s

/-- A counter is brought up to date before its registers change, behind the even counter whose carries it may take. -/
def pmcSync (k n : Nat) (s : State) : State := pmcCount k n (if n % 2 == 1 then pmcCount k (n - 1) s else s)

/-- PMC_WRAP: an enabled counter wraps (R388). -/
def pmcWrap (k n : Nat) (s : State) : State :=
  if !live s || !pmcBlock k || 7 < n || !(pmcOf s k n).enable then s
  else pmcCarry k n 1 (setPmc k n (fun x => pmcFrom s k { x with value := 0, ovf := true }) s)

/-! ### Identifiers (R384) -/

/-- KIND, BLOCK and INDEX of a counter ID. -/
def idKind (id : Nat) : Nat := id / 2 ^ 30 % 4
def idBlock (id : Nat) : Nat := id / 2 ^ 24 % 64
def idIndex (id : Nat) : Nat := id % 2 ^ 24

/-- The ID of a performance counter, and of the pair it belongs to. -/
def perfId (k n : Nat) : Nat := k * 2 ^ 24 + n
def pairId (k n : Nat) : Nat := 2 ^ 30 + k * 2 ^ 24 + n / 2 * 2

/-- The ID names a counter. -/
def idOk (s : State) (id : Nat) : Bool :=
  let k := idBlock id
  let i := idIndex id
  match idKind id with
  | 0 => pmcBlock k && decide (i < 8)
  | 1 => pmcBlock k && decide (i < 8) && i % 2 == 0
  | 2 => (statValue s k i).isSome
  | _ => k == 5 && decide (i < 64)

/-- The unit of a SLOT counter: the unit code is the unit's own number. -/
def slotUnit (i : Nat) : Nat := i / 4

/-- The CCLK since reset of which no class has been counted are the starved ones, but for the words of the frame in progress: RETIRED
and WASTED count the words of the frames that left the slice. Which of them were STARVED_BACK is free (R138, R391; log entry 58). -/
def slotSettle (u : Nat) (s : State) : State :=
  let c := (unitOf s u).slotCnt
  let now := (((unitOf s u).frame.bind (frameOf s)).map frameWords).getD 0
  let rest := 2 * s.cnt.tclk - (total (List.range 4) (fun k => tget 0 c k)).toNat - now
  let r := drawFree 58 s
  let back := r.1.toNat % (rest + 1)
  let add (x : SUnit) : Tab W64 := tmod 0 (tmod 0 x.slotCnt 2 (· + BitVec.ofNat 64 back)) 3 (· + BitVec.ofNat 64 (rest - back))
  setUnit u (fun x => { x with slotCnt := add x }) r.2

/-- The value a sweep latches for an ID; 0 for one that names no counter (R389, R390). -/
def cntRead (id : Nat) (s : State) : W64 × State :=
  let k := idBlock id
  let i := idIndex id
  if !idOk s id then (0, s)
  else match idKind id with
    | 0 =>
      let s := pmcSettle k i s
      (BitVec.ofNat 64 (pmcOf s k i).value.toNat, s)
    | 1 =>
      let s := pmcSettle k (i + 1) (pmcSettle k i s)
      (BitVec.ofNat 64 ((pmcOf s k i).value.toNat + 2 ^ 32 * (pmcOf s k (i + 1)).value.toNat), s)
    | 2 => ((statValue s k i).getD 0, s)
    | _ =>
      let s := slotSettle (slotUnit i) s
      (tget 0 (unitOf s (slotUnit i)).slotCnt (i % 4), s)

/-- A sweep of a list of IDs: the values, in list order. -/
def sweep : List Nat → State → List W64 × State
  | [], s => ([], s)
  | id :: ids, s =>
    let r := cntRead id s
    let t := sweep ids r.2
    (r.1 :: t.1, t.2)

/-- The thresholds whose counter is written lose their window's delta (Table 17-7). -/
def thrDiscard (k n : Nat) (s : State) : State :=
  setCnt (fun c => { c with thr := c.thr.map (fun e => (e.1, e.2.map (fun t =>
    if t.id.toNat == perfId k n || t.id.toNat == pairId k n then { t with discard := true } else t))) }) s

/-- A value is written: it wins over a wrap of the same cycle, whose carry and OVF stand (R388, Table 17-7). -/
def pmcWrite (k n : Nat) (v : W32) (wraps : Bool) (s : State) : State :=
  let s := pmcSync k n s
  let s := thrDiscard k n (setPmc k n (fun x =>
    pmcFrom s k { x with value := v, ovf := x.ovf || (wraps && x.enable) }) s)
  if wraps && (pmcOf s k n).enable then pmcCarry k n 1 s else s

/-- PMC_VALUE_WRITE: a register write of the CP. -/
def pmcValueWrite (k n : Nat) (v : W32) (wraps : Bool) (s : State) : State :=
  if !cpRuns s || !pmcBlock k || 7 < n then s else pmcWrite k n v wraps s

/-- PMCn_CFG as it reads (Table 17-2). -/
def pmcCfg (x : Pmc) : Nat :=
  x.event + 256 * b2n x.enable + 512 * b2n x.edge + 1024 * b2n x.chain + 2048 * b2n x.ovf + 65536 * x.filter

/-- A counter is configured, and its value written with it where there is one: CHAIN exists on odd counters, OVF is W1C. What an
enabled counter has counted stays. -/
def pmcConfig (k n : Nat) (v : W32) (load : Option W32) (s : State) : State :=
  let s := pmcSync k n s
  let s := setPmc k n (fun x => pmcFrom s k { x with
    event := fld v 0 8, enable := bitOf v 8, edge := bitOf v 9, chain := bitOf v 10 && n % 2 == 1
    ovf := x.ovf && !bitOf v 11, filter := fld v 16 8, value := load.getD x.value }) s
  if load.isSome then thrDiscard k n s else s

/-- A write of PMCn_CFG. -/
def pmcCfgWrite (k n : Nat) (v : W32) (s : State) : State := pmcConfig k n v none s

/-! ### The central reader's host port (R389, R390) -/

/-- The entries a sweep of CRD_COUNT takes. -/
def crdEntries (c : BitVec 11) : Nat := if c == 0 then 1 else Nat.min c.toNat 1024

/-- The next `k` entries of the host port's sweep are latched, in list order; one that names no counter gives 0 (R389, R390). -/
def crdLatch : Nat → State → State
  | 0, s => s
  | k + 1, s => match s.cnt.crdSweep with
    | none => s
    | some (n, i) =>
      if n ≤ i then s
      else
        let id := (tget 0 s.cnt.crdList i).toNat
        let bad := !idOk s id
        let r := cntRead id s
        crdLatch k (setCnt (fun c => { c with
          crdSweep := some (n, i + 1), crdResult := tset 0 c.crdResult i r.1, crdInvalid := c.crdInvalid || bad,
          crdInvalidIdx := if bad && !c.crdFound then i else c.crdInvalidIdx, crdFound := c.crdFound || bad }) r.2)

/-- Every entry of the host port's sweep is latched: a sweep of the firmware port is served behind it (R389). -/
def crdFinish (s : State) : State := crdLatch 1024 s

/-- A write of CRD_CTRL: the reader takes the first entry at once, in the CCLK whose TOD the sweep reports (R389). -/
def crdCtrlWrite (v : W32) (s : State) : State :=
  if !bitOf v 0 then s
  else if s.cnt.crdBusy then setCnt (fun c => { c with crdOverrun := true }) s
  else crdLatch 1 (setCnt (fun c =>
    { c with crdBusy := true, crdFound := false, crdSweep := some (crdEntries c.crdCount, 0), crdTod := s.tsu.ns }) s)

/-- CRD_START: host software's write, through the firewall. -/
def crdStart (s : State) : State := if live s then hostWrite (hifAccess 0x30000 4 (crdCtrlWrite 1)) s else s

/-- CRD_SWEEP_COMPLETE: every entry is latched. -/
def crdSweepComplete (s : State) : State :=
  if !live s then s
  else match s.cnt.crdSweep with
    | none => s
    | some (n, _) =>
      setCnt (fun c => { c with crdBusy := false, crdSweep := none, crdDone := true, crdDuration := 2 * (n - 1) }) (crdFinish s)

/-! ### Thresholds (R392) -/

/-- THRESHOLD_WINDOW: the firmware reads the counter at the end of a slot's window. -/
def thresholdWindow (slot : Nat) (s : State) : State :=
  match tget none s.cnt.thr slot with
  | none => s
  | some t =>
    if !fwRuns s || !reached s.tsu.ns (t.start + BitVec.ofNat 64 (t.window * 1000000)) then s
    else
      let r := cntRead t.id.toNat (crdFinish s)
      let diff := r.1 - t.base
      let delta : W64 := if idKind t.id.toNat == 0 then BitVec.ofNat 64 (diff.toNat % 2 ^ 32) else diff
      let meets := decide (t.thr.toNat ≤ delta.toNat)
      let t' : Thr := { t with
        base := r.1, start := s.tsu.ns, discard := false, episode := if t.discard then t.episode else meets }
      let s := setCnt (fun c => { c with thr := tset none c.thr slot (some t') }) r.2
      if meets && !t.episode && !t.discard then
        evF 0xA001 (le 1 slot ++ le 4 t.id.toNat ++ le64 delta ++ le 4 t.window) s
      else s

/-! ### Health (R393 to R397) -/

/-- A measured value is kept. -/
def ageingMeasure (i : Nat) (v : Int) (s : State) : State :=
  if fwRuns s && i < 24 then setCnt (fun c => { c with am := tset 0 c.am i v }) s else s

/-- The port whose lanes hold a lane index (R25, R36). -/
def lanePort (s : State) (lane : Nat) : Option Nat :=
  (List.range 65).find? (fun p => (port s p).cfg.role != 0 && decide (p ≤ lane) &&
    decide (lane < p + modeLanes (port s p).cfg.lane) && lane / 32 == p / 32)

/-- EYE_MEASURE: a lane of an UP port. -/
def eyeMeasure (lane mv : Nat) (s : State) : State :=
  if fwRuns s && lane < 66 && ((lanePort s lane).map (fun p => (port s p).st == .up)).getD false then
    setCnt (fun c => { c with eye := tset 0 c.eye lane (mv % 65536) }) s
  else s

/-- The eye-height limit of a lane by its rate (Table 17-5); of a lane that no port has, at its full rate. -/
def eyeLimit (s : State) (lane : Nat) : Int :=
  match ((lanePort s lane).map (fun p => (port s p).cfg.lane)).getD 3 with
  | 1 | 4 | 9 => 25
  | 2 | 5 => 16
  | _ => 12

/-- 2^64 times exp of a fraction `r` of 2^-64, in [0, ln 2), by its series. -/
def expSeries (r : Nat) : Nat :=
  ((List.range 24).foldl (fun (acc : Nat × Nat) k => (acc.1 + acc.2, acc.2 * r / 2 ^ 64 / (k + 1))) (0, 2 ^ 64)).1

/-- AF of R394 in units of 2^-32, for a temperature in 0.125 degrees: the exponent is
8,123.5 (T - 85) / (358.15 (T + 273.15)), split into a power of 2 and a rest. -/
def stressAf (t8 : Int) : Nat :=
  let t := max t8 (-1600)
  let x : Int := 16247000 * 2 ^ 64 * (t - 680) / (35815 * (20 * t + 43704))
  let ln2 : Int := 12786308645202655660
  let n := x / ln2
  let e := expSeries (x - n * ln2).toNat
  if 0 ≤ n then e * 2 ^ n.toNat / 2 ^ 32 else e / 2 ^ (32 + (-n).toNat)

/-- STRESS_TICK: one powered second; the junction sensors read what they read (log entry 46). -/
def stressTick (s : State) : State :=
  if !fwRuns s then s
  else
    let s := (List.range 8).foldl (fun t i =>
      let r := drawFree 46 t
      { r.2 with tamper := { r.2.tamper with sensors := tset 0 r.2.tamper.sensors i (BitVec.ofNat 16 r.1.toNat) } }) s
    let af := stressAf (sumTemp s)
    setCnt (fun c => { c with powered := c.powered + 1, stress := c.stress + af / 3600 }) s

/-- Kind and index of a health item, by its place in the report (Table 17-6). -/
def itemName (j : Nat) : Nat × Nat :=
  if j < 24 then (1, j) else if j < 90 then (2, j - 24) else (j - 87, 0)
/-- The item ages upwards (else it falls) towards its limit. -/
def itemRises (kind : Nat) : Bool := kind == 1 || kind == 4 || kind == 5
/-- The limit of an item (Table 17-5). -/
def itemLimit (s : State) (j : Nat) : Int := match (itemName j).1 with
  | 1 => 3000
  | 2 => eyeLimit s (j - 24)
  | 3 => 2500
  | 4 => 64
  | _ => 128

/-- The value of an item's daily sample, none where nothing was measured (Table 17-5). -/
def itemValue (s : State) (j : Nat) : Option Int :=
  let c := s.cnt
  match (itemName j).1 with
  | 1 => some (tget 0 c.am j)
  | 2 => if tget 0 c.eye (j - 24) == 0 then none else some ((tget 0 c.eye (j - 24) : Nat) : Int)
  | 3 => if c.vbatNum == 0 then none else some ((c.vbatSum / c.vbatNum : Nat) : Int)
  | 4 => some (s.boot.transitions : Int)
  | _ => some (s.boot.svn : Int)

/-- A least-squares line of value against axis: n, sums, and the slope as a fraction num / den (R395). -/
structure Fit where
  n : Int
  sy : Int
  sx : Int
  num : Int
  den : Int
  deriving DecidableEq, Repr

/-- The line of the samples held; none for fewer than 30, or when they share one place on the axis. -/
def fitOf (xs : List DaySample) : Option Fit :=
  let n : Int := xs.length
  let sx := (xs.map (fun d => (d.axis : Int))).sum
  let sy := (xs.map (·.value)).sum
  let sxx := (xs.map (fun d => (d.axis : Int) * d.axis)).sum
  let sxy := (xs.map (fun d => (d.axis : Int) * d.value)).sum
  let den := n * sxx - sx * sx
  if xs.length < 30 || den ≤ 0 then none else some { n := n, sy := sy, sx := sx, num := n * sxy - sx * sy, den := den }

/-- Stress-equivalent hours gained over the last 30 days, and those days. Before the first of 30 samples the history had none, and a
forecast needs 30 (R395). -/
def stressSpan (ds : List Nat) : Nat × Nat := (ds.headD 0 - ds.getD 30 0, 30)

/-- Axis units left to the limit, as a fraction over a positive number: (limit - fitted latest value) / slope (R395). -/
def axisLeft (f : Fit) (latest : Nat) (limit : Int) : Int × Int :=
  let left := limit * f.n * f.den - f.sy * f.den - f.num * (f.n * latest - f.sx)
  if f.num < 0 then (-left, -(f.n * f.num)) else (left, f.n * f.num)

/-- The days to the limit of an item with a line that moves towards it, 0xFFFF for no forecast (R395). -/
def itemDays (kind : Nat) (limit : Int) (ds : List Nat) (xs : List DaySample) : Nat :=
  match xs with
  | [] => 0xFFFF
  | d :: _ =>
    if (if itemRises kind then limit ≤ d.value else d.value ≤ limit) then 0
    else match fitOf xs with
      | none => 0xFFFF
      | some f =>
        if (if itemRises kind then f.num ≤ 0 else 0 ≤ f.num) then 0xFFFF
        else
          let l := axisLeft f d.axis limit
          if kind == 1 then
            let p := stressSpan ds
            if p.1 == 0 then 0xFFFF else Nat.min 65534 (l.1 * p.2 / (l.2 * p.1)).toNat
          else Nat.min 65534 (l.1 / l.2).toNat

/-- The state of an item (R395). -/
def itemSt (kind : Nat) (limit : Int) (days : Nat) (xs : List DaySample) : Nat :=
  match xs with
  | [] => 0
  | d :: _ =>
    if (if itemRises kind then limit ≤ d.value else d.value ≤ limit) then 4
    else if days == 0xFFFF then 0 else if days < 90 then 3 else if days < 365 then 2 else 1

/-- The slope in value units per 1,000 axis units, saturating (Table 17-6). -/
def itemSlope (kind : Nat) (xs : List DaySample) : Int :=
  match fitOf xs with
  | none => 0
  | some f => max (-32768) (min 32767 (f.num * 1000 * (if kind == 1 then 2 ^ 32 else 1) / f.den))

/-- An item takes its daily sample and is fitted anew. -/
def itemSample (j : Nat) (s : State) : State :=
  let x := tget .reset s.cnt.items j
  let kind := (itemName j).1
  let limit := itemLimit s j
  let xs := match itemValue s j with
    | some v => ({ value := v, axis := if kind == 1 then s.cnt.stress else s.cnt.dayNo } :: x.samples).take 64
    | none => x.samples
  let days := itemDays kind limit s.cnt.stressDays xs
  let st := itemSt kind limit days xs
  let y : HItem := { samples := xs, st := st, days := days, slope := itemSlope kind xs }
  let s := setCnt (fun c => { c with items := tset .reset c.items j y }) s
  let s := if st == 2 && x.st != 2 then evF 0xA012 (le 1 kind ++ le 1 (itemName j).2 ++ le 2 days) s else s
  if st == 4 && x.st != 4 then
    evF 0xA013 (le 1 kind ++ le 1 (itemName j).2 ++ leInt 4 ((xs.head?.map (·.value)).getD 0)) s
  else s

/-- The least days of the items that enter the device forecast, and which item it is: none is kind 0 (R396). -/
def deviceDays (s : State) : Nat × Nat × Nat :=
  (List.range 24 ++ [90]).foldl (fun acc j =>
    let d := (tget HItem.reset s.cnt.items j).days
    if d < acc.1 then (d, itemName j) else acc) (0xFFFF, 0, 0)

/-- The device forecast is updated, with its events (R396, Table 17-8). -/
def deviceForecast (s : State) : State :=
  let d := deviceDays s
  let ps := le 2 d.1 ++ le 1 d.2.1 ++ le 1 d.2.2
  let was := s.cnt.urgent
  let s := setCnt (fun c => { c with days := d.1, limKind := d.2.1, limIndex := d.2.2, urgent := decide (d.1 < 90) }) s
  let s := evF 0xA010 ps s
  if d.1 < 90 && !was then irq 10 (evF 0xA011 ps s) else s

/-- The history is written to the flash (R397). -/
def historySave (s : State) : State := setCnt (fun c => c.save c.current) s

/-- HEALTH_DAILY_SAMPLE. -/
def healthDailySample (s : State) : State :=
  if !fwRuns s then s
  else
    let s := setCnt (fun c => { c with
      dayNo := c.dayNo + 1, dayTod := s.tsu.ns, stressDays := (c.stress :: c.stressDays).take 64 }) s
    let s := (List.range 93).foldl (fun t j => itemSample j t) s
    historySave (deviceForecast (setCnt (fun c => { c with vbatSum := 0, vbatNum := 0 }) s))

/-! ### Commands (R400, R401, Table 17-9) -/

/-- The highest event of a block (Table 17-3). -/
def pmcEvents (k : Nat) : Nat := match k with
  | 1 => 6
  | 6 => 7
  | 9 | 11 => 3
  | 10 => 7
  | 15 => 5
  | _ => 8

/-- The events marked per-port. -/
def pmcPerPort (k e : Nat) : Bool :=
  e != 0 && (((k == 2 || k == 3) && e != 6) || k == 7 || k == 8 || k == 10)

/-- A FILTER is allowed for an event of a block (R401). -/
def pmcFilterOk (k e f : Nat) : Bool :=
  f == 0xFF || (pmcPerPort k e && (if k == 2 || k == 7 then decide (f < 32) else if k == 3 || k == 8 then
    decide (32 ≤ f ∧ f < 64) else decide (f ≤ 64)))

/-- An entry of CNT_CONFIG_SET. -/
def cntConfigEntry (e : Bytes) (s : State) : Nat × State :=
  let id := u32 e 0
  let v := BitVec.ofNat 32 (u32 e 4)
  let k := idBlock id
  let n := idIndex id
  if idKind id != 0 || !pmcBlock k || 7 < n || pmcEvents k < fld v 0 8 || (bitOf v 10 && n % 2 == 0) ||
    !pmcFilterOk k (fld v 0 8) (fld v 16 8) || fld v 12 4 != 0 || fld v 24 8 != 0 || 1 < u8 e 12 || !zeros e 13 3 then
    (stInvalid, s)
  else (stOk, pmcConfig k n v (if u8 e 12 == 1 then some (BitVec.ofNat 32 (u32 e 8)) else none) s)

/-- CNT_CONFIG_SET. -/
def cntConfigSet (d : DmaRead) (c : Cmd) (s : State) : Res := batch 16 4096 cntConfigEntry c d s

/-- CNT_CONFIG_GET. -/
def cntConfigGet (c : Cmd) (s : State) : Res :=
  let id := u32 c.payload 0
  if c.payload.length != 4 || idKind id != 0 || !idOk s id then fail stInvalid s
  else
    let r := cntRead id s
    okWith (le 4 (pmcCfg (pmcOf r.2 (idBlock id) (idIndex id))) ++ le 4 r.1.toNat ++ zb 4) r.2

/-- CNT_SWEEP_GET. -/
def cntSweepGet (d : DmaRead) (c : Cmd) (s : State) : Res :=
  match parseEntries 4 16384 8 false c d with
  | .error e => fail e s
  | .ok es =>
    let n := es.list.length
    if es.result.isNone && 508 < n then fail stInvalid s
    else match (List.range n).find? (fun i => !idOk s (u32 (es.list.getD i []) 0)) with
      | some i => .done ⟨stInvalid, i, []⟩ s
      | none =>
        let r := sweep (es.list.map (fun e => u32 e 0)) (crdFinish s)
        statsReply es.result (le 2 n ++ zb 2 ++ le 4 (2 * (n - 1)) ++ le64 s.tsu.ns) (r.1.flatMap le64) r.2

/-- CNT_THRESHOLD_SET. -/
def cntThresholdSet (c : Cmd) (s : State) : Res :=
  let p := c.payload
  let slot := u8 p 0
  let id := u32 p 4
  let w := u32 p 8
  if p.length != 24 || 63 < slot || 3 < u8 p 1 || !zeros p 2 2 || !zeros p 12 4 || w < 100 || 3600000 < w || w % 100 != 0 ||
      !idOk s id then fail stInvalid s
  else if !nbit (u8 p 1) 0 then ok (setCnt (fun c => { c with thr := tset none c.thr slot none }) s)
  else
    let r := cntRead id (crdFinish s)
    let t : Thr := { id := BitVec.ofNat 32 id, window := w, thr := BitVec.ofNat 64 (u64 p 16), forward := nbit (u8 p 1) 1
                     base := r.1, episode := false, discard := false, start := s.tsu.ns }
    ok (setCnt (fun c => { c with thr := tset none c.thr slot (some t) }) r.2)

/-- An item of the report (Table 17-6). -/
def itemBytes (s : State) (j : Nat) : Bytes :=
  let x := tget HItem.reset s.cnt.items j
  le 1 (itemName j).1 ++ le 1 (itemName j).2 ++ le 1 x.st ++ le 1 x.samples.length ++
    leInt 4 ((x.samples.head?.map (·.value)).getD 0) ++ leInt 4 (itemLimit s j) ++ le 2 x.days ++ leInt 2 x.slope

/-- Stress-equivalent hours in 0.1 h. -/
def stressTenths (s : State) : Nat := s.cnt.stress * 10 / 2 ^ 32

/-- HLT_REPORT_GET (Table 17-6). -/
def hltReportGet (c : Cmd) (s : State) : Res :=
  let x := s.cnt
  let p := stressSpan x.stressDays
  if !c.payload.isEmpty then fail stInvalid s
  else okWith (le 4 0x484C0001 ++ le 2 x.days ++ le 1 x.limKind ++ le 1 x.limIndex ++ le64 x.dayTod ++
    le 4 (x.powered / 3600) ++ le 4 (stressTenths s) ++ le 2 (if p.2 == 0 then 0 else p.1 * 100 / 2 ^ 32 / p.2) ++ le 2 93 ++
    zb 4 ++ (List.range 93).flatMap (itemBytes s)) s

/-- HLT_MONITOR_GET. -/
def hltMonitorGet (c : Cmd) (s : State) : Res :=
  let x := s.cnt
  if !c.payload.isEmpty then fail stInvalid s
  else okWith (le64 s.tsu.ns ++ le 4 (stressTenths s) ++ le 2 s.tamper.vbat ++ zb 2 ++
    (List.range 24).flatMap (fun i => leInt 4 (tget 0 x.am i)) ++ (List.range 66).flatMap (fun i => le 2 (tget 0 x.eye i)) ++
    zb 4) s

/-! ### Meanings -/

/-- PMC_VALUE_WRITE. -/
def execPmcValueWrite (block n : Nat) (value : W32) (wraps : Bool) (s : State) : Host.Outcome State Fault Refusal :=
  .next (pmcValueWrite block n value wraps s)
/-- PMC_WRAP. -/
def execPmcWrap (block n : Nat) (s : State) : Host.Outcome State Fault Refusal := .next (pmcWrap block n s)
/-- CRD_START. -/
def execCrdStart (s : State) : Host.Outcome State Fault Refusal := .next (crdStart s)
/-- CRD_SWEEP_COMPLETE. -/
def execCrdSweepComplete (s : State) : Host.Outcome State Fault Refusal := .next (crdSweepComplete s)
/-- THRESHOLD_WINDOW. -/
def execThresholdWindow (slot : Nat) (s : State) : Host.Outcome State Fault Refusal := .next (thresholdWindow slot s)
/-- AGEING_MEASURE. -/
def execAgeingMeasure (monitor : Nat) (value : Int) (s : State) : Host.Outcome State Fault Refusal :=
  .next (ageingMeasure monitor value s)
/-- EYE_MEASURE. -/
def execEyeMeasure (lane millivolt : Nat) (s : State) : Host.Outcome State Fault Refusal := .next (eyeMeasure lane millivolt s)
/-- STRESS_TICK. -/
def execStressTick (s : State) : Host.Outcome State Fault Refusal := .next (stressTick s)
/-- HEALTH_DAILY_SAMPLE. -/
def execHealthDailySample (s : State) : Host.Outcome State Fault Refusal := .next (healthDailySample s)
/-- CNT_CONFIG_SET (0x0A00). -/
def execCntConfigSet (mb : Nat) (dma : DmaRead) (s : State) : Host.Outcome State Fault Refusal :=
  .next (fcpDma 0x0A00 mb dma cntConfigSet s)
/-- CNT_CONFIG_GET (0x0A01). -/
def execCntConfigGet (mb : Nat) (s : State) : Host.Outcome State Fault Refusal := .next (fcp 0x0A01 mb cntConfigGet s)
/-- CNT_SWEEP_GET (0x0A02). -/
def execCntSweepGet (mb : Nat) (dma : DmaRead) (s : State) : Host.Outcome State Fault Refusal :=
  .next (fcpDma 0x0A02 mb dma cntSweepGet s)
/-- CNT_THRESHOLD_SET (0x0A03). -/
def execCntThresholdSet (mb : Nat) (s : State) : Host.Outcome State Fault Refusal := .next (fcp 0x0A03 mb cntThresholdSet s)
/-- HLT_REPORT_GET (0x0A10). -/
def execHltReportGet (mb : Nat) (s : State) : Host.Outcome State Fault Refusal := .next (fcp 0x0A10 mb hltReportGet s)
/-- HLT_MONITOR_GET (0x0A11). -/
def execHltMonitorGet (mb : Nat) (s : State) : Host.Outcome State Fault Refusal := .next (fcp 0x0A11 mb hltMonitorGet s)

end Sys2Proof.Machine
end

