-- ==== Sys2Proof/Machine/Clock.lean ====
section
/-! DEFINITION. What passes with time: TOD, the meter's clock, the counters of cycles and the counter reader's sweep go on together
(R234, R237, R387, R389; log entries 24, 33, 59). -/
namespace Sys2Proof.Machine

/-- `n` TCLK cycles pass; in each the counter reader latches one entry of the sweep in progress (R389). -/
def timePasses (n : Nat) (s : State) : State :=
  if !live s then tclks n s else crdLatch n (tclks n (pmcTick n s))

/-- One TCLK cycle. -/
def tick (s : State) : State := timePasses 1 s

/-- SLEW_COMPLETE: the TCLK cycles pass in which the rest of the offset is used up (R237). -/
def slewComplete (s : State) : State :=
  if !live s || s.tsu.slew == 0 then s
  else
    let step := s.tsu.inc / 1024
    timePasses ((s.tsu.slew.natAbs + step - 1) / step) s

/-- SLEW_COMPLETE. -/
def execSlewComplete (s : State) : Host.Outcome State Fault Refusal := .next (slewComplete s)

end Sys2Proof.Machine
end

