-- ==== Sys2Proof/Machine/Protection.lean ====
section
/-! DEFINITION. The processor MPU, the boot window, the debug levels and the DAP's control of the CP (13_protection.md,
R318 to R329). The DAP's memory accesses are in Registers.lean. DEDUCED: log entries 88, 95. -/
namespace Sys2Proof.Machine

/-! ### The processor MPU (R319 to R322) -/

/-- An MPU region. -/
def mpuRegion (s : State) (i : Nat) : MpuRegion := tget .reset s.prot.mpuRegions i
/-- A byte lies in an enabled MPU region: from its start to the last byte of its end granule (R319). -/
def mpuHas (r : MpuRegion) (a : Nat) : Bool := r.enable && decide (r.start ≤ a) && decide (a ≤ r.fin + 31)
/-- The deciding MPU region of a byte, 16 for the background (R319). -/
def mpuDeciding (s : State) (a : Nat) : Nat :=
  ((List.range 16).find? (fun i => mpuHas (mpuRegion s i) a)).getD 16

/-- The code of an access kind (Tables 13-4, 13-5). -/
def accessCode : AccessKind → Nat
  | .read => 0 | .write => 1 | .execute => 2

/-- What the background map answers: 0 allowed, else the cause. The cause of a privileged fetch from elsewhere than the
boot ROM and the SRAM is not stated, PERM or NO_REGION (R320; log entry 48). -/
def mpuBackground (s : State) (access : Nat) (priv : Bool) (bytes : List Nat) (free : Bool) : Nat :=
  if !priv || !s.prot.privdef then 3
  else if access != 2 || bytes.all (fun a => inRom a || inSram a) then 0
  else if free then 3 else 1

/-- The cause of an MPU fault, 0 where the MPU lets the access pass: 1 PERM, 2 STRADDLE, 3 NO_REGION (R320). -/
def mpuJudge (s : State) (access : Nat) (priv : Bool) (addr size : Nat) (free : Bool) : Nat :=
  let bytes := (List.range size).map (addr + ·)
  let d := mpuDeciding s addr
  if !s.prot.mpuEnable then 0
  else if bytes.any (fun a => mpuDeciding s a != d) then 2
  else if !priv && bytes.any inMpuPage then 1
  else if d == 16 then mpuBackground s access priv bytes free
  else if (mpuRegion s d).perm.getLsbD (if priv then access else 3 + access) then 0
  else 1

/-- The capture and the counts of an MPU fault (R320). -/
def mpuCapture (access : Nat) (priv : Bool) (addr cause : Nat) (s : State) : State :=
  setProt (fun p =>
    let p := if p.mpuValid then p
      else { p with mpuValid := true, mpuPriv := priv, mpuAccess := access, mpuCause := cause, mpuAddr := addr }
    if priv then { p with mpuCntP := p.mpuCntP + 1 } else { p with mpuCntU := p.mpuCntU + 1 }) s

/-- A user fault: the task is restarted, and the command being executed completes with INTEGRITY (R321; log entry 45). -/
def userFault (access addr cause task : Nat) (s : State) : State :=
  let s := evF 0xB104 (le 8 addr ++ le 1 access ++ le 1 cause ++ le 1 task) s
  let s := setProt (fun p => { p with restarted := some (task % 256) }) s
  (s.hif.cmds.filter (fun c => c.mb != 8 && c.wait == Wait.none)).foldl (fun t c => finish c ⟨stIntegrity, 0, []⟩ t) s

/-- The events the firmware has raised are recorded, in order. -/
def fwQueueDrain (s : State) : State := (List.range s.evr.fwQueue.length).foldl (fun t _ => evrEventArrival true t) s

/-- The firmware forwards every record up to the newest. -/
def forwardDrain (s : State) : State := (List.range (evrPend s.evr s.evr.cur0)).foldl (fun t _ => evrForward t) s

/-- A privileged fault or a denial by the firewall: recorded and forwarded, then the CP halts (R321, R329; log entry 95). -/
def privFault (access addr cause : Nat) (fwl : Bool) (s : State) : State :=
  cpHalt (forwardDrain (fwQueueDrain
    (evF 0xB105 (le 8 addr ++ le 1 access ++ le 1 cause ++ (if fwl then [0] else [])) (fwQueueDrain s))))

/-- An access of 1 to 128 bytes of the CP is judged by the MPU, then by the firewall, which does not see the MPU's own
registers; one that both allow goes on, one that is denied has no effect but the fault (R311, R315, R320, R321,
Table 13-8). -/
def cpAccess (k : AccessKind) (priv : Bool) (addr size task : Nat) (go : State → State) (s : State) : State :=
  if !cpRuns s || size == 0 || 128 < size || 2 ^ 40 < addr + size then s
  else
    let a := accessCode k
    let r := drawFree 48 s
    let m := mpuJudge s a priv addr size (r.1.getLsbD 0)
    if m != 0 then
      let t := mpuCapture a priv addr m r.2
      if priv then privFault a addr m false t else userFault a addr m task t
    else if (List.range size).all (fun i => inMpuPage (addr + i)) then go s
    else
      let c := fwlJudge s mCp addr size a
      if c == 0 then go s else privFault a addr c true (fwlDeny mCp addr size a c s)

/-- MPU_FAULT: an access that both judges allow is no fault. -/
def mpuFault (k : AccessKind) (priv : Bool) (addr size task : Nat) (s : State) : State :=
  cpAccess k priv addr size task id s

/-- A write of MPU_CTRL (R322, Table 13-5). -/
def mpuCtrlWrite (v : W32) (s : State) : State :=
  setProt (fun p => if p.mpuLock then p
    else { p with mpuEnable := bitOf v 0, privdef := bitOf v 1, mpuLock := bitOf v 2 }) s

/-- MPU_LOCK: the CP writes MPU_CTRL. -/
def mpuLock (v : W32) (s : State) : State := if cpRuns s then mpuCtrlWrite v s else s

/-! ### The boot window (R317, R318) -/

/-- The regions enabled, bit n for region n. -/
def regionMask (s : State) : Nat := mask ((List.range 32).map (fun i => (fwlRegion s i).enable))

/-- FWL_CTRL.CLOSE: with the MPU locked the window closes, the agent serves, and the boot is complete; else the write is
ignored (R317, R318, R350); the firmware that finds TIME_SET set anchors the RTC (R367). A ms is 800,000 TCLK (R25). -/
def windowClose (s : State) : State :=
  if !(s.prot.window && s.prot.mpuLock) then fwlIgnored 0 s
  else
    let agent := if s.boot.recovery then 1 else 2
    let s := evH 0xB103 (le 4 (regionMask s)) (setProt (fun p => { p with window := false, closedAt := some s.tsu.count }) s)
    let s := { s with boot := { s.boot with agent := agent } }
    let s := evF 0x8009 (le 1 agent ++ le 1 (s.boot.running.image.getD 0xFF) ++ le 4 s.boot.running.version ++
      le 4 (s.boot.porClk / 800000)) s
    if s.tsu.timeSet then timeAnchor s else s

/-- FWL_CLOSE. -/
def fwlClose (s : State) : State := if cpRuns s then windowClose s else s

/-! ### Debug (R323 to R327) -/

/-- DEBUG_LEVEL_GRANTED: with the clearing after MUZZLE complete, the DAP gains the level and its command answers
(R325). -/
def debugLevelGranted (s : State) : State :=
  if !(live s && s.prot.granting && !s.km.clearing) then s
  else
    let s := levelSet 2 0 (setProt (fun p => { p with granting := false }) s)
    wake (fun w => match w with
      | .debug _ => true
      | _ => false) (fun _ t => ok t) s

/-- The debug port answers an error and sets its sticky flag (R315). -/
def dapError (s : State) : State := setProt (fun p => { p with dapSticky := true, dapData := none }) s

/-- A control request of the DAP: an INVASIVE level is needed (R323, Table 13-8; log entry 18). -/
def dapControl (f : Prot → Prot) (s : State) : State :=
  if !live s then s else if s.prot.level == 2 then setProt f s else dapError s

/-! ### Meanings -/

/-- MPU_FAULT. -/
def execMpuFault (k : AccessKind) (priv : Bool) (addr size task : Nat) (s : State) : Host.Outcome State Fault Refusal :=
  .next (mpuFault k priv addr size task s)
/-- MPU_LOCK. -/
def execMpuLock (value : W32) (s : State) : Host.Outcome State Fault Refusal := .next (mpuLock value s)
/-- FWL_CLOSE. -/
def execFwlClose (s : State) : Host.Outcome State Fault Refusal := .next (fwlClose s)
/-- DEBUG_LEVEL_GRANTED. -/
def execDebugLevelGranted (s : State) : Host.Outcome State Fault Refusal := .next (debugLevelGranted s)
/-- DAP_HALT: both cores stop at one instruction boundary. -/
def execDapHalt (s : State) : Host.Outcome State Fault Refusal :=
  .next (dapControl (fun p => { p with dapHalted := true }) s)
/-- DAP_STEP: one instruction of the halted pair; what it does is the program's, and counts here only. -/
def execDapStep (s : State) : Host.Outcome State Fault Refusal :=
  .next (dapControl (fun p => if p.dapHalted then { p with dapSteps := p.dapSteps + 1 } else p) s)
/-- DAP_RESUME. -/
def execDapResume (s : State) : Host.Outcome State Fault Refusal :=
  .next (forwardLost 0 (dapControl (fun p => { p with dapHalted := false }) s))

end Sys2Proof.Machine
end

