-- ==== Sys2Proof/Machine/Boot.lean ====
section
/-! DEFINITION. Resets and the boot sequence: the directory, the image checks, the measurements, the BBRAM share, the
identity keys, the start of the first agent (14_boot_lifecycle.md, R330 to R347; R425 of 19_electrical_package.md).
DEDUCED: log entries 87, 88, 89. DESIGN CHOICE: log entries 52, 53, 99. -/
namespace Sys2Proof.Machine

/-- Change boot, life cycle and identity. -/
def setBoot (f : Boot → Boot) (s : State) : State := { s with boot := f s.boot }

/-! ### The directory (R331) -/

/-- The directory in force, and which copy holds it. -/
def dirForce (b : Boot) : Option (DirCopy × Nat) := match b.dir0, b.dir1 with
  | some a, some c => if a.seq < c.seq then some (c, 1) else some (a, 0)
  | some a, none => some (a, 0)
  | none, some c => some (c, 1)
  | none, none => none

/-- The record in force; with neither copy valid slot A is active and no trial is set. -/
def dirNow (b : Boot) : DirCopy := ((dirForce b).map (·.1)).getD { seq := 0, active := 0, trial := none, attempts := 0 }

/-- Write the directory: the other copy takes it with the next sequence number (log entry 55). -/
def dirWrite (active : Nat) (trial : Option Nat) (attempts : Nat) (b : Boot) : Boot :=
  let d : DirCopy := { seq := ((dirNow b).seq + 1) % 2 ^ 32, active := active, trial := trial, attempts := attempts }
  if ((dirForce b).map (·.2)).getD 1 == 0 then { b with dir1 := some d } else { b with dir0 := some d }

/-- The record of a directory copy (R331). -/
def dirRecord (d : DirCopy) : Bytes :=
  let b := le 4 d.seq ++ le 1 d.active ++ le 1 (d.trial.getD 0xFF) ++ le 1 d.attempts ++ zb 5
  b ++ le 4 (crc32c b).toNat

/-- An image slot: 0 A, 1 B. -/
def slotImage (b : Boot) (slot : Nat) : ImageSlot := if slot == 0 then b.slotA else b.slotB
/-- Replace an image slot. -/
def setImage (slot : Nat) (x : ImageSlot) (b : Boot) : Boot := if slot == 0 then { b with slotA := x } else { b with slotB := x }
/-- An invalidated slot. -/
def ImageSlot.erased : ImageSlot := { manifest := [], code := [] }

/-- A byte of the flash, as far as Table 14-1 gives its content: the two directory copies and the two image slots (R330). -/
def flashByte (b : Boot) (off : Nat) : Option Byte :=
  let o := off - 0x100000
  let x := slotImage b (o / 0x1000000)
  if off < 0x2000 then (if off < 0x1000 then b.dir0 else b.dir1).bind (fun d => (dirRecord d)[off % 0x1000]?)
  else if !spans off 0x100000 0x2000000 || x.manifest.isEmpty then none
  else (pad 4096 x.manifest ++ x.code)[o % 0x1000000]?

/-! ### Image checks (R332, R333) -/

/-- The manifest digest. -/
def manifestDigest (m : Bytes) : Bytes := sha384 (m.take 128)

/-- Checks 1 to 6 of Table 14-3: the cause, 0 where they pass. -/
def manifestCause (b : Boot) (m : Bytes) : Nat :=
  let g := u8 m 15
  if u32 m 0 != 0x4D460001 || u16 m 12 != 0x3200 || 1 < u8 m 14 then 1
  else if nbit b.revoked.toNat g then 2
  else if 3 < g || !verify 1 (Config.fwKey g 1) (m.take 128) (sub m 128 96) then 3
  else if !verify 2 (Config.fwKey g 2) (m.take 128) (sub m 224 3309) then 4
  else if u32 m 8 < b.svn || 128 < u32 m 8 then 5
  else if u32 m 20 == 0 || 16773120 < u32 m 20 then 1
  else 0

/-- All checks of Table 14-3 on a slot. -/
def imageCause (b : Boot) (x : ImageSlot) : Nat :=
  let c := manifestCause b x.manifest
  if c != 0 then c else if x.code.length == u32 x.manifest 20 && sha384 x.code == sub x.manifest 24 48 then 0 else 6

/-! ### What a device reset leaves (R165, R317, R353, R397, R425) -/

/-- OTP, flash, BBRAM, fuses and pins stay; staging ends, its slot invalidated (Table 14-10). -/
def bootReset (b : Boot) : Boot :=
  let k : Boot := { Boot.reset with
    por := b.por, sysRst := b.sysRst, cold := b.cold, porClk := b.porClk, pinClk := b.pinClk, meterFuse := b.meterFuse, gradeE := b.gradeE, serial := b.serial, lc := b.lc
    svn := b.svn, revoked := b.revoked, transitions := b.transitions, ownerScheme := b.ownerScheme, ownerKey := b.ownerKey
    ownerDigest := b.ownerDigest, bbram := b.bbram, dir0 := b.dir0, dir1 := b.dir1, slotA := b.slotA, slotB := b.slotB
    certs := b.certs }
  if b.staging.st == 0 then k else setImage b.staging.slot .erased k

/-- The AON domain keeps its state; the safe values of its groups 1 to 3 stay (R353, R365). -/
def tamperReset (t : Tamper) : Tamper :=
  { t with active := 0, severity := 0, sensors := [], safe := t.safe.filter (fun x => decide (x.1 ≤ 3)), anchored := false }

/-- The state a device reset leaves: the history in flash, the meter and the AON domain are not reset; a core reset treats
HIF as R284 does (R341). -/
def resetState (core : Bool) (s : State) : State :=
  let mine := s.hif.cmds.filter (fun c => c.mb == 8)
  { State.reset with
    pending := s.pending
    hif := if core then { hifCleared s.hif with cmds := mine, deferred := [], nqHeld := [] } else
      { Hif.reset with cmds := mine, nextDeferred := s.hif.nextDeferred, dmaOut := s.hif.dmaOut }
    boot := bootReset s.boot
    prot := { Prot.reset with level := levelDefault s.boot.lc }
    tamper := tamperReset s.tamper
    cnt := { Cnt.reset with hist0 := s.cnt.hist0, hist1 := s.cnt.hist1 }
    mtr := s.mtr, drbg := s.drbg, free := s.free }

/-! ### Steps of the boot ROM (R334 to R344) -/

/-- The DRBG serves the values drawn at each boot, the reseeds of the mask generators first (R66, R124, R156, R355; Table
14-4). -/
def bootDraw (s : State) : State :=
  let word (v : BitVec 256) (i : Nat) : W32 := (v >>> (32 * i)).setWidth 32
  let seeds (v : BitVec 256) (k : Nat) : Tab W32 := (List.range 4).foldl (fun t i => tset 0 t i (word v (k + i))) []
  let s := (List.range 24).foldl (fun t u => unitReseed u t) s
  let a := drawDrbg s
  let b := drawDrbg a.2
  let c := drawDrbg b.2
  let k := keyShares (le 32 b.1.toNat) c.2
  { k.2 with
    cls := ⟨{ k.2.cls.host with seeds := seeds a.1 0 }, { k.2.cls.line with seeds := seeds a.1 4 }⟩
    km := { k.2.km with lineKey := k.1 }
    tamper := { k.2.tamper with loopSeed := word c.1 0 } }

/-- A share from the DRBG is written into BBRAM with the current recorded values. -/
def shareNew (s : State) : State :=
  let r := drawBytes 32 s
  setBoot (fun b => { b with bbram := { b.bbram with share := some r.1, recorded := some (b.transitions, b.lc) } }) r.2

/-- ZEROIZED is set, with event 0x8008 among the boot's results (R340, R350). -/
def bootZeroized (s : State) : State := setBoot (fun b => { b with zeroized := true, results := b.results ++ [(0x8008, [])] }) s

/-- The cases of R340. In RETIRED no share is made (R339, Table 14-7). -/
def bootBbram (s : State) : State :=
  let b := s.boot
  let field := b.lc == 2
  let now := some (b.transitions, b.lc)
  if b.lc == 4 then s
  else if b.bbram.aonReset then
    let s := setBoot (fun b => { b with bbram := { b.bbram with share := none, recorded := now, aonReset := false } }) s
    if field then bootZeroized s else shareNew s
  else if b.bbram.recorded != now || (!field && b.bbram.share.isNone) then
    setBoot (fun b => { b with bbram := { b.bbram with counter := 0 } }) (shareNew s)
  else if b.bbram.share.isNone then bootZeroized s
  else s

/-- The PUF key with the OTP share (Table 7-1, R343). -/
def pufOtp : Bytes := xorBytes (pad 32 Config.pufKey) (pad 32 Config.otpShare)

/-- UDS, where the BBRAM holds a share (R156, R340). -/
def bootUds (s : State) : State :=
  match if s.boot.lc == 4 then none else s.boot.bbram.share with
  | none => { s with km := { s.km with uds := none } }
  | some x =>
    let r := keyShares (xorBytes pufOtp x) s
    { r.2 with km := { r.2.km with uds := some r.1 } }

/-- The identity key pairs, seeded from IDS; LDevID after the owner claim only (R343; log entry 54). -/
def idKeys (b : Boot) : Tab (Option (Bytes × Bytes)) :=
  let ids := kdf pufOtp "IDS" (be 8 b.serial.toNat) 32
  let key (slot : Nat) (label : String) (context : Bytes) (t : Tab (Option (Bytes × Bytes))) :=
    tset none t slot (some (Config.identityKey (kdf ids label context 32) (le 1 (slot % 2 + 1))))
  let t := key 1 "IDEVID-PQ" [] (key 0 "IDEVID-EC" [] [])
  if b.ownerScheme == 0 then t else key 3 "LDEVID-PQ" b.ownerDigest (key 2 "LDEVID-EC" b.ownerDigest t)

/-- The owner key verifies a certificate (R344). -/
def ownerVerifies (b : Boot) (cert : Bytes) : Bool :=
  signedBy b.ownerScheme b.ownerKey (Config.certParts cert).1 (Config.certParts cert).2

/-- A certificate is an LDevID slot's: its subject key is the slot's, and the owner signed it (R344). -/
def certOk (s : State) (slot : Nat) (cert : Bytes) : Bool :=
  match idKey s slot with
  | some k => Config.certSubject cert k.2 && ownerVerifies s.boot cert
  | none => false

/-- The recheck of the LDevID certificate of a slot at boot (R344). -/
def bootCert (slot : Nat) (s : State) : State :=
  match certOf s slot with
  | some cert =>
    if certOk s slot cert then s
    else setBoot (fun b => { b with certs := tset none b.certs slot none, results := b.results ++ [(0x8007, le 2 slot)] }) s
  | none => s

/-- The identity keys and the recheck, outside RETIRED. -/
def bootIds (s : State) : State :=
  if s.boot.lc == 4 then s else bootCert 3 (bootCert 2 (setBoot (fun b => { b with ids := idKeys b }) s))

/-- Region `i` as the boot ROM programs and locks it: its contents are not stated (R317; log entry 47). -/
def bootRegion (i : Nat) (s : State) : State :=
  let r := drawFree 47 s
  let v := r.1.toNat
  let x : FwlRegion := { base := v % 2 ^ 28 * 4096, enable := r.1.getLsbD 63, lock := true
                         size := BitVec.ofNat 6 (v / 2 ^ 28), perm := BitVec.ofNat 9 (v / 2 ^ 34) }
  setProt (fun p => { p with regions := tset .reset p.regions i x }) r.2

/-- A slot fails its checks: event 0x8002 (R335). -/
def bootReject (slot cause : Nat) (s : State) : State :=
  setBoot (fun b => { b with results := b.results ++ [(0x8002, le 1 slot ++ le 1 cause)] }) s

/-- The slot to boot, whether it is a trial, and the directory as the rules of R335 leave it. -/
def bootChoose (s : State) : Nat × Bool × State :=
  let d := dirNow s.boot
  match d.trial with
  | none => (d.active, false, s)
  | some t =>
    if d.attempts == 0 then
      (d.active, false, setBoot (fun b => { dirWrite d.active none 0 b with results := b.results ++ [(0x8003, le 1 t)] }) s)
    else (t, true, setBoot (dirWrite d.active (some t) 0) s)

/-- What runs from a slot. -/
def runningOf (b : Boot) (slot : Nat) (trial : Bool) : Running :=
  let m := (slotImage b slot).manifest
  { image := some slot, trial := trial, version := u32 m 4, svn := u32 m 8, digest := manifestDigest m, revoke := u8 m 16,
    keyGen := u8 m 15 }

/-- The image that boots, none for the recovery agent: the chosen slot, else once the other (R335). -/
def bootImage (s : State) : State :=
  if s.boot.lc == 4 then s
  else
    let (slot, trial, s) := bootChoose s
    let c := imageCause s.boot (slotImage s.boot slot)
    if c == 0 then setBoot (fun b => { b with running := runningOf b slot trial }) s
    else
      let s := bootReject slot c s
      let o := 1 - slot
      let e := imageCause s.boot (slotImage s.boot o)
      if e == 0 then setBoot (fun b => { b with running := runningOf b o false }) s else bootReject o e s

/-- Extend a measurement register (R337). -/
def measExtendWith (n : Nat) (d : Bytes) (b : Boot) : Boot :=
  { b with meas := tset [] b.meas n (sha384 (pad 48 (tget [] b.meas n) ++ pad 48 d)) }

/-- The boot ROM, 512 KiB (Table 13-2). -/
@[irreducible] def romBytes : Bytes := (List.range 0x80000).map Config.romByte

/-- MEAS0 to MEAS3 are extended and locked, and FBK is derived (R337, Tables 7-1 and 14-5). -/
def bootMeasure (s : State) : State :=
  let s := setBoot (fun b =>
    let b := measExtendWith 0 (sha384 (Config.otpWords b.revoked b.ownerDigest)) (measExtendWith 0 (sha384 romBytes) b)
    let b := match b.running.image with
      | some i => measExtendWith 2 (sha384 (slotImage b i).code) (measExtendWith 1 b.running.digest b)
      | none => let c := measExtendWith 1 (zb 48) b
                { c with meas := tset [] c.meas 2 (pad 48 Config.recoveryMeas) }
    { measExtendWith 3 (le 1 b.lc ++ zb 47) b with lockLow := true }) s
  let m := (measAll s).take 192
  match s.km.uds with
  | none => { s with km := { s.km with fbk := none } }
  | some u =>
    let r := keyShares (kdf u.value "FBK" m 32) s
    { r.2 with km := { r.2.km with fbk := some r.1 } }

/-- A new evidence log after a loss of the AON domain: record and event 0x9044 (R360). -/
def bootEvidence (s : State) : State :=
  if s.tamper.lostLog then
    evdWrite 0x9044 0 0 (evH 0x9044 [] { s with tamper := { s.tamper with lostLog := false } })
  else s

/-- The health history is read, or started anew with event 0xA002: 0 first use, 1 both copies invalid (R397). -/
def bootHistory (s : State) : State :=
  match s.cnt.history with
  | some h => { s with cnt := { s.cnt with items := h.items, stress := h.stress, stressDays := h.stressDays, powered := h.powered,
                                           dayNo := h.dayNo, dayTod := h.dayTod } }
  | none => evF 0xA002 (le 1 (b2n (s.cnt.hist0 == .damaged || s.cnt.hist1 == .damaged))) { s with cnt := s.cnt.save .reset }

/-- The first agent is entered: it records the results of the boot ROM; the firmware also reads its health history and
writes its reserved policy-table entries (R334, R338, R397). -/
def bootEnter (s : State) : State :=
  let rec' := s.boot.running.image.isNone
  let s := s.boot.results.foldl (fun t x => evF x.1 x.2 t) s
  let s := setBoot (fun b => { b with handed := true, recovery := rec', results := [] }) s
  if rec' then s else ptRewrite (bootHistory s)

/-- The boot sequence, from the release of the reset to the entry into the first agent (R334, Table 14-4). -/
def bootRun (cause : Nat) (s : State) : State :=
  let s := setBoot (fun b => { b with lcView := b.lc }) (evrStarted cause s)
  let s := bootIds (bootUds (bootBbram (bootDraw s)))
  let s := (List.range 8).foldl (fun t i => bootRegion i t) s
  bootEnter (bootEvidence (bootMeasure (bootImage s)))

/-! ### Reset inputs (R425, R341) -/

/-- The level of the XSPI_RESET_L output: low while either reset input is low and for 10 µs, 8,000 TCLK, after the release
(Table 19-9). -/
def xspiResetL (s : State) : Bool := live s && decide (8000 ≤ s.boot.pinClk)

/-- POR_L_ASSERT: the device is held in reset. -/
def porAssert (s : State) : State :=
  if s.boot.por then s else setBoot (fun b => { b with por := true, cold := true, pinClk := 0 }) (resetState false s)

/-- The boot that follows the release of a reset input, once neither is low: of a power-on reset even where SYS_RST_L was low together
with POR_L (R425, R436). -/
def bootRelease (s : State) : State :=
  if !live s then s
  else bootRun (if s.boot.cold then 0 else 1) (setBoot (fun b => { b with cold := false }) s)

/-- POR_L_RELEASE, with the supplies up (R419): boot, unless SYS_RST_L holds the device. -/
def porRelease (s : State) : State :=
  if !s.boot.por || s.tamper.onBattery || s.tamper.aonDown then s
  else bootRelease (setBoot (fun b => { b with por := false, porClk := 0, pinClk := 0 }) s)

/-- SYS_RST_L_ASSERT: while POR_L is low it has no effect but the level of the pin, which holds the device once POR_L is released
(R425). -/
def sysAssert (s : State) : State :=
  if s.boot.sysRst then s
  else if s.boot.por then setBoot (fun b => { b with sysRst := true }) s
  else setBoot (fun b => { b with sysRst := true, pinClk := 0 }) (resetState false s)

/-- SYS_RST_L_RELEASE. -/
def sysRelease (s : State) : State :=
  if !s.boot.sysRst then s else bootRelease (setBoot (fun b => { b with sysRst := false, pinClk := 0 }) s)

/-- CORE_RESET: due 10 ms after the transition or the activation that asked for it (R341, R352). -/
def coreReset (s : State) : State :=
  match s.boot.coreReset with
  | some t => if live s && reached s.tsu.ns t then bootRun 2 (resetState true s) else s
  | none => s

/-! ### Measurement registers (R337) -/

/-- MEAS_DATA as 48 bytes. -/
def measData (b : Boot) : Bytes := (List.range 12).flatMap (fun i => le 4 (tget 0 b.measData i).toNat)

/-- A write of MEAS_CTRL with EXTEND: a locked register ignores it; while another extension runs it has no effect (log
entry 51). -/
def measExtend (index : Nat) (s : State) : State :=
  let n := index % 8
  setBoot (fun b =>
    let b := { b with measIndex := BitVec.ofNat 3 n }
    if n < 4 && b.lockLow then { b with measIgnored := true }
    else match b.measBusy with
      | some _ => b
      | none => { b with measBusy := some (n, measData b) }) s

/-- MEAS_EXTEND_COMPLETE: 2 µs after EXTEND. -/
def measComplete (s : State) : State :=
  match s.boot.measBusy with
  | some (n, d) => if live s then setBoot (fun b => { measExtendWith n d b with measBusy := none }) s else s
  | none => s

/-! ### Meanings -/

/-- POR_L_ASSERT. -/
def execPorLAssert (s : State) : Host.Outcome State Fault Refusal := .next (porAssert s)
/-- POR_L_RELEASE. -/
def execPorLRelease (s : State) : Host.Outcome State Fault Refusal := .next (porRelease s)
/-- SYS_RST_L_ASSERT. -/
def execSysRstLAssert (s : State) : Host.Outcome State Fault Refusal := .next (sysAssert s)
/-- SYS_RST_L_RELEASE. -/
def execSysRstLRelease (s : State) : Host.Outcome State Fault Refusal := .next (sysRelease s)
/-- CORE_RESET. -/
def execCoreReset (s : State) : Host.Outcome State Fault Refusal := .next (coreReset s)
/-- MEAS_EXTEND. -/
def execMeasExtend (index : Nat) (s : State) : Host.Outcome State Fault Refusal :=
  .next (if cpRuns s then measExtend index s else s)
/-- MEAS_EXTEND_COMPLETE. -/
def execMeasExtendComplete (s : State) : Host.Outcome State Fault Refusal := .next (measComplete s)
/-- MEAS_LOCK_LOW. -/
def execMeasLockLow (s : State) : Host.Outcome State Fault Refusal :=
  .next (if cpRuns s then setBoot (fun b => { b with lockLow := true }) s else s)

end Sys2Proof.Machine
end

