-- ==== Sys2Proof/Machine/Classifier.lean ====
section
/-! DEFINITION. The commands over the classifier tables: the Table Command Unit, learning and ageing, and the TBL_*
commands (03_classifier.md, R65 to R84). DEDUCED: log entries 73, 74. -/
namespace Sys2Proof.Machine

/-! ### Entries in bytes (Tables 3-11, 3-12) -/

/-- The key that the first 12 bytes of Table 3-12 spell. -/
def keyOfBytes (b : Bytes) : XtKey :=
  if u8 b 0 == 2 then ⟨2, u8 b 1 % 64, beNat (sub b 4 6) * 65536 + u16 b 10 % 4096, nbit (u16 b 10) 15⟩
  else ⟨u8 b 0 % 4, u8 b 1 % 64, beNat (sub b 4 8), false⟩

/-- A key a TBL_* command may name: an SCI on a line port, or a DA_VID on a port of either side (R82). -/
def keyOk (b : Bytes) : Bool :=
  zeros b 2 2 && zeros b 14 2 &&
    ((u8 b 0 == 1 && decide (32 ≤ u8 b 1 ∧ u8 b 1 < 64)) ||
     (u8 b 0 == 2 && decide (u8 b 1 < 64) && u16 b 10 / 4096 % 8 == 0))

/-- An entry's age (R77). -/
def xtAge (c : Cls) (e : XtEntry) : Nat := (c.tick - e.stamp).toNat

/-- The 32 bytes of Table 3-12 for an entry. -/
def xtBytes (c : Cls) (e : XtEntry) : Bytes :=
  le 1 e.typ ++ le 1 e.port ++ zb 2 ++
    (if e.typ == 2 then be 6 (e.key / 65536) ++ le 2 (e.key % 4096 + 32768 * b2n e.tagged) else be 8 e.key) ++
    le 1 (mask [!e.learned, e.learned]) ++ le 1 (xtAge c e) ++ zb 2 ++ resBytes e.res

/-- The 72 bytes of Table 3-11 for an entry. -/
def ptBytes (side index : Nat) (e : PtEntry) : Bytes :=
  le 2 index ++ le 1 1 ++ le 1 side ++ zb 4 ++ e.key ++ e.mask ++ resBytes e.res

/-- The PT entry that 72 bytes spell; none with VALID 0. Its hit counter starts at 0 (R73). -/
def ptOf (b : Bytes) : Option PtEntry :=
  if nbit (u8 b 2) 0 then some { key := sub b 8 24, mask := sub b 32 24, res := resOf (sub b 56 16), hits := 0 }
  else none

/-- The 72 bytes of the TCU data registers. -/
def tcuData (c : Cls) : Bytes := (List.range 18).flatMap (fun i => le 4 (tget 0 c.data i).toNat)

/-- Load the TCU data registers with 72 bytes. -/
def tcuLoad (b : Bytes) (c : Cls) : Cls :=
  { c with data := (List.range 18).foldl (fun t i => tset 0 t i (BitVec.ofNat 32 (u32 (pad 72 b) (4 * i)))) c.data }

/-! ### The Table Command Unit (R80, R81) -/

/-- The TCU takes a command: the firmware runs, and no staged batch drains; a write while BUSY is ignored and sets
OVERRUN. -/
def tcuStart (side : Nat) (f : Cls → Cls) (s : State) : State :=
  let c := clsOf s side
  if !cpRuns s then s
  else if c.busy then setCls side (fun c => { c with overrun := true }) s
  else if c.committed then s
  else setCls side (fun c => { f c with busy := true }) s

/-- Keep an operation's result for DONE, and the location it worked on. -/
def tcuKeep (d : XtDone) (insPort : Option Nat) (c : Cls) : Cls :=
  { c with opCode := d.code, opMoves := d.moves, opStashed := d.stashed, opInsPort := insPort,
           loc := if d.code == 0 || d.code == 1 then locWord d.loc else c.loc }

/-- An operation with nothing to report but its code. -/
def tcuPlain (code : Nat) (c : Cls) : Cls :=
  { c with opCode := code, opMoves := 0, opStashed := false, opInsPort := none }

/-- A write of a table that is not hashed: at once, or recorded in the staging buffer. -/
def tcuPut (stage : Bool) (x : Staged) (c : Cls) : Cls :=
  if stage then (if stageRoom c then tcuPlain 0 (stagePut x c) else tcuPlain 4 c) else tcuPlain 0 (stageApply x c)

/-- DT_WRITE: the entry of ARG.PORT and ARG.INDEX takes the result in DATA. -/
def tcuDtWrite (stage : Bool) (c : Cls) : Cls :=
  tcuPut stage (.dt c.argPort.toNat (c.argIndex.toNat % 4096) (resOf (tcuData c))) c

/-- DT_READ. -/
def tcuDtRead (c : Cls) : Cls :=
  tcuPlain 0 (tcuLoad (resBytes (tget .reset c.dt (c.argPort.toNat % 32 * 4096 + c.argIndex.toNat % 4096))) c)

/-- XT_INSERT: a static entry from DATA, by the insertion engine (R68). -/
def tcuXtInsert (stage : Bool) (c : Cls) : Cls :=
  let b := tcuData c
  let r := xtInsert (keyOfBytes b) (resOf (sub b 16 16)) stage c
  tcuKeep r.1 (some (u8 b 1)) r.2

/-- XT_MODIFY: the entry of the key in DATA takes its result; STATIC makes a learned entry static. -/
def tcuXtModify (stage : Bool) (c : Cls) : Cls :=
  let b := tcuData c
  if stage && !stageRoom c then tcuPlain 4 c
  else match xtFind stage c (keyOfBytes b) with
    | none => tcuPlain 2 c
    | some (l, e) =>
      let e' := { e with learned := e.learned && !nbit (u8 b 12) 0, res := resOf (sub b 16 16) }
      tcuKeep ⟨0, 0, false, l⟩ none (if stage then stagePut (.xtMod l e') c else xtPut l (some e') c)

/-- XT_DELETE: the entry of the key in DATA. -/
def tcuXtDelete (stage : Bool) (c : Cls) : Cls :=
  let r := xtDelete (keyOfBytes (tcuData c)) stage c
  tcuKeep r.1 none r.2

/-- XT_READ: the entry of the key in DATA. -/
def tcuXtRead (c : Cls) : Cls :=
  match xtFind false c (keyOfBytes (tcuData c)) with
  | none => tcuPlain 2 c
  | some (l, e) => tcuKeep ⟨0, 0, false, l⟩ none (tcuLoad (xtBytes c e) c)

/-- PT_WRITE: the entry of ARG.INDEX takes DATA. -/
def tcuPtWrite (stage : Bool) (c : Cls) : Cls :=
  tcuPut stage (.pt (c.argIndex.toNat % 8192) (ptOf (tcuData c))) c

/-- PT_READ. -/
def tcuPtRead (side : Nat) (c : Cls) : Cls :=
  let i := c.argIndex.toNat % 8192
  tcuPlain 0 (tcuLoad (match tget none c.pt i with
    | some e => ptBytes side i e
    | none => le 2 i ++ zb 1 ++ le 1 side) c)

/-- The XT locations of a port's entries that meet a test. -/
def xtOfPort (c : Cls) (port : Nat) (p : XtEntry → Bool) : List Nat :=
  tkeys (fun _ x => x.any (fun e => e.port == port % 64 && p e)) c.xt

/-- XT_REMOVE_PORT: every entry of ARG.PORT, by rising location, the last of which CLS_TCU_LOC shows (DESIGN CHOICE: log entry
133); with STAGE each removal is recorded. -/
def tcuXtRemove (stage : Bool) (c : Cls) : Cls :=
  let ls := xtOfPort c c.argPort.toNat (fun _ => true)
  let shown (c : Cls) : Cls := match ls.getLast? with
    | some l => { c with loc := locWord l }
    | none => c
  if stage then
    let es := ls.filterMap (fun l => (xtPending c l).map (fun e => Staged.xtDel l e))
    (if 256 < c.staging.length + es.length then tcuPlain 4 c
     else tcuPlain 0 (shown (es.foldl (fun c x => stagePut x c) c)))
  else tcuPlain 0 (shown (ls.foldl (fun c l => xtPut l none c) c))

/-- A write of CLS_TCU_CMD that starts nothing: while BUSY it is ignored and sets OVERRUN (Table 3-9). -/
def tcuNothing (side : Nat) (s : State) : State :=
  if cpRuns s && (clsOf s side).busy then setCls side (fun c => { c with overrun := true }) s else s

/-- TCU_STAGE: the operation an OP code names, with STAGE; a read is a read, and a reserved code starts nothing. -/
def tcuStaged (side op : Nat) (s : State) : State := match op with
  | 1 => tcuStart side (tcuDtWrite true) s
  | 2 => tcuStart side tcuDtRead s
  | 3 => tcuStart side (tcuXtInsert true) s
  | 4 => tcuStart side (tcuXtModify true) s
  | 5 => tcuStart side (tcuXtDelete true) s
  | 6 => tcuStart side tcuXtRead s
  | 7 => tcuStart side (tcuPtWrite true) s
  | 8 => tcuStart side (tcuPtRead side) s
  | 9 => tcuStart side (tcuXtRemove true) s
  | _ => tcuNothing side s

/-- COMMIT: every staged change becomes visible, and the drain starts (R81). -/
def tcuCommit (side : Nat) (s : State) : State :=
  let c := clsOf s side
  if !cpRuns s || c.committed then s
  else if c.busy then setCls side (fun c => { c with overrun := true }) s
  else setCls side (fun c => { c with committed := true }) s

/-- A staged insert is taken back: its location is emptied while it holds a staged entry. -/
def stageUndo (x : Staged) (c : Cls) : Cls := match x with
  | .xtIns l => if (xtAt c l).any (·.staged) then xtPut l none c else c
  | _ => c

/-! ### The maintenance port (R79): the TCU, then learning, then re-homing, then ageing -/

/-- A port whose learned entries are below its limit again may signal it anew (R75, R84). -/
def limitClear (side : Nat) (s : State) : State :=
  setCls side (fun c => { c with atLimit := c.atLimit.filter (fun p =>
    let l := (tget .reset c.learn (p % 32)).limit
    l != 0 && decide (l ≤ learnedOf c p)) }) s

/-- Post a notice to the learn FIFO; a learn notice that finds it full is counted. An
ageing removal takes none of the FIFO's 1,024 entries and is never lost (R76; log entry 113). -/
def learnNote (side : Nat) (aged : Bool) (port sci : Nat) (loc : Nat) (s : State) : State :=
  setCls side (fun c =>
    if aged || decide ((c.learnFifo.filter (!·.aged)).length < 1024) then
      { c with learnFifo := c.learnFifo ++ [⟨aged, port, sci, locWord loc, s.tsu.ns⟩] }
    else { c with noticeLostCnt := c.noticeLostCnt + 1 }) s

/-- The stash entry re-homing moves next, and the free candidate it moves to (R70). -/
def rehomeNext (c : Cls) : Option (Nat × Nat) :=
  stashLocs.findSome? (fun l => (xtAt c l).bind (fun e =>
    ((xtCands c e.xtKey).find? (fun m => (xtAt c m).isNone)).map (fun m => (l, m))))

/-- One location in the ageing sweep: an expired learned entry is removed, counted and noticed (R77). -/
def ageOne (side l : Nat) (s : State) : State :=
  let c := clsOf s side
  match xtAt c l with
  | none => s
  | some e =>
    if e.learned then
      if c.ageLimit.toNat ≤ xtAge c e then
        learnNote side true e.port e.key l
          (setCls side (fun c => xtPut l none { c with ageRemoveCnt := c.ageRemoveCnt + 1 }) s)
      else s
    else s

/-- An entry whose age has reached 255 keeps it when the tick advances (R77; log entry 134). -/
def ageHold (c : Cls) (e : XtEntry) : XtEntry := if xtAge c e == 255 then { e with stamp := e.stamp + 1 } else e

/-- The ageing sweep's turn (R79): nothing before it in Table 3-8 asks for the port. -/
def ageTurn (c : Cls) : Bool := !c.busy && !c.committed && c.learnQ.isEmpty && (rehomeNext c).isNone

/-- One sweep: every entry is visited (R77). -/
def ageSweep (side : Nat) (s : State) : State :=
  limitClear side (stashEvents side (((clsOf s side).xt.map (·.1)).foldl (fun t l => ageOne side l t) s))

/-- The sweeps that are due are made when their turn comes (R77, R79). -/
def ageRun (side : Nat) (s : State) : State :=
  let n := (clsOf s side).sweepDue
  if n != 0 && ageTurn (clsOf s side) then
    (List.range n).foldl (fun t _ => ageSweep side t) (setCls side (fun c => { c with sweepDue := 0 }) s)
  else s

/-- What follows a change of a side's XT: the stash events, the learn limits, and the sweeps whose turn it makes (R75, R79, R84). -/
def xtChanged (side : Nat) (s : State) : State := ageRun side (limitClear side (stashEvents side s))

/-- ABORT: the staged inserts are removed and the buffer is emptied (R81). -/
def tcuAbort (side : Nat) (s : State) : State :=
  let c := clsOf s side
  if !cpRuns s || c.committed then s
  else if c.busy then setCls side (fun c => { c with overrun := true }) s
  else xtChanged side (setCls side (fun c => { c.staging.foldl (fun c x => stageUndo x c) c with staging := [] }) s)

/-- TCU_OP_DONE: the operation completes; DONE, CODE, MOVES and STASHED are shown, and its events are raised. -/
def tcuOpDone (side : Nat) (s : State) : State :=
  let c := clsOf s side
  if !(live s && c.busy) then s
  else
    let s := setCls side (fun c => { c with
      busy := false, doneBit := true, code := c.opCode, moves := c.opMoves, stashed := c.opStashed,
      opInsPort := none }) s
    let s := match c.opInsPort with
      | some p => if c.opCode == 3 then evH 0x2003 (le 1 side ++ le 1 p) s else s
      | none => s
    xtChanged side s

/-- STAGE_DRAIN_DONE: the buffer has been written into the tables; COMMITTED and STAGED are cleared (R81). -/
def stageDrainDone (side : Nat) (s : State) : State :=
  if !(live s && (clsOf s side).committed) then s
  else
    xtChanged side (setCls side (fun c =>
      { c.staging.foldl (fun c x => stageApply x c) c with staging := [], committed := false }) s)

/-- A command that firmware queues behind the TCU of each side runs once the TCU's operation and drain have ended (R82;
log entry 115). -/
def tcuSettled (s : State) : State :=
  [0, 1].foldl (fun s side => stageDrainDone side (tcuOpDone side s)) s

/-! ### Learning and ageing (R74 to R78) -/

/-- The greatest age first, the earlier candidate on a tie (R78). -/
def oldest (c : Cls) : List (Nat × XtEntry) → Option Nat
  | [] => none
  | (l, e) :: t => match oldest c t with
    | none => some l
    | some m => match xtAt c m with
      | some f => if xtAge c e < xtAge c f then some m else some l
      | none => some l

/-- The learned candidates for eviction, lowest way first and the stash last (R78). -/
def evictable (c : Cls) (k : XtKey) : List (Nat × XtEntry) :=
  (xtCands c k ++ stashLocs).filterMap (fun l => match xtAt c l with
    | some e => if e.learned then some (l, e) else none
    | none => none)

/-- Which learned entry makes room: OLDEST, or RANDOM (a free choice among the candidates, log entry 28). -/
def evictLoc (c : Cls) (random : Bool) (k : XtKey) (s : State) : Option Nat × State :=
  let es := evictable c k
  if random && !es.isEmpty then
    let d := drawFree 28 s
    ((es[d.1.toNat % es.length]?).map (·.1), d.2)
  else (oldest c es, s)

/-- A learned entry exists: counted, noticed, and the port's limit is signalled when it is reached (R74 to R76). -/
def learned (side : Nat) (q : LearnReq) (loc : Nat) (s : State) : State :=
  let s := setCls side (fun c => { c with learnCnt := c.learnCnt + 1 }) s
  let s := learnNote side false q.port q.sci loc s
  let s := limitClear side (stashEvents side s)
  let c := clsOf s side
  if learnFull c q.port && !c.atLimit.contains q.port then
    evH 0x2004 (le 1 side ++ le 1 q.port) (setCls side (fun c => { c with atLimit := c.atLimit ++ [q.port] }) s)
  else s

/-- LEARN_INSERT: the insertion engine serves the oldest request, once the TCU leaves the maintenance port, whatever the port's
learning is by now (R68, R74, R78, R79; DESIGN CHOICE: log entry 136). A request of a port that has reached its limit meanwhile is
discarded (R75; log entry 112). -/
def learnInsert (side : Nat) (s : State) : State :=
  let c := clsOf s side
  if !live s || c.busy || c.committed then s
  else match c.learnQ with
    | [] => s
    | q :: rest =>
      let s := setCls side (fun c => { c with learnQ := rest }) s
      let c := clsOf s side
      let k : XtKey := ⟨1, q.port % 64, q.sci, false⟩
      ageRun side (if (xtHolds c k).isSome || learnFull c q.port then s
      else match xtPlace c k with
        | some p => learned side q p.loc (setCls side (xtWrite p (xtNew c k true false .reset)) s)
        | none =>
          match evictLoc c ((port s q.port).cfg.evict == 1) k s with
          | (none, s) => setCls side (fun c => { c with failCnt := c.failCnt + 1 }) s
          | (some l, s) =>
            learned side q l (setCls side (fun c =>
              xtWrite ⟨[], l⟩ (xtNew c k true false .reset) { c with evictCnt := c.evictCnt + 1 }) s))

/-- STASH_REHOME: a stash entry moves to a free candidate location, in a slot the TCU and learning leave idle (R70,
R79). -/
def stashRehome (side : Nat) (s : State) : State :=
  let c := clsOf s side
  if !live s || c.busy || c.committed || !c.learnQ.isEmpty then s
  else match rehomeNext c with
    | none => s
    | some (l, m) => ageRun side (stashEvents side (setCls side (xtMove l m) s))

/-- AGE_TICK: AGE_TICK ms of TOD have passed; the tick advances and the sweep visits every entry when its turn comes
(R77, R79). -/
def ageTick (side : Nat) (s : State) : State :=
  let c := clsOf s side
  if !live s || !reached s.tsu.ns (c.tickTod + BitVec.ofNat 64 (c.ageTick.toNat * 1000000)) then s
  else
    ageRun side (setCls side (fun c => { c with
      xt := c.xt.map (fun e => (e.1, e.2.map (ageHold c))), tick := c.tick + 1, tickTod := s.tsu.ns
      sweepDue := c.sweepDue + 1 }) s)

/-- LEARN_FIFO_DRAIN: the firmware reads a notice and forwards it when the port's flag asks for it (R76, Table 12-9). -/
def learnFifoDrain (side : Nat) (s : State) : State :=
  if !fwRuns s then s
  else match (clsOf s side).learnFifo with
    | [] => s
    | n :: rest =>
      let s := setCls side (fun c => { c with learnFifo := rest }) s
      let g := tget .reset (clsOf s side).learn (n.port % 32)
      if (if n.aged then g.notifyAged else g.notifyLearned) then
        notify (if n.aged then 5 else 4)
          (le 1 side ++ le 1 n.port ++ zb 2 ++ le 4 n.loc.toNat ++ be 8 n.sci ++ le64 n.tod) s
      else s

/-! ### TBL_* commands (R82, R83) -/

/-- Every TBL_* command is refused in the life-cycle states of R82. -/
def tblRun (body : Cmd → State → Res) (c : Cmd) (s : State) : Res :=
  if lcBad s then fail stWrongState s else body c s

/-- A TBL_* command that reads or writes the tables waits behind the TCU. -/
def tblBehind (body : Cmd → State → Res) (c : Cmd) (s : State) : Res := tblRun (fun c s => body c (tcuSettled s)) c s

/-- The status of an insertion code (R83). -/
def codeStatus (n : Nat) : Nat := match n with
  | 0 => stOk | 1 => stExists | 2 => stNotFound | 3 => stNoRoom | _ => stInvalid

/-- TBL_DT_SET (0x0200). -/
def tblDtSet (c : Cmd) (s : State) : Res :=
  let p := c.payload
  let port := u8 p 0
  let first := u16 p 2
  let n := u16 p 4
  if p.length != 24 || 64 ≤ port || !zeros p 1 1 || !zeros p 6 2 || n == 0 || 4096 < first + n || !resOk (p.drop 8)
    || (nbit c.flags 0 && decide (256 < n)) then fail stInvalid s
  else ok (setCls (portSide port) (fun x => (List.range n).foldl (fun x i =>
    stageApply (.dt port (first + i) (resOf (p.drop 8))) x) x) s)

/-- One entry of TBL_PT_SET. Bits [7:5] of the frame-flags byte of a key or a mask are taken as any other bit (DESIGN CHOICE: log
entry 135). -/
def ptSetOne (b : Bytes) (s : State) : Nat × State :=
  if 1 < u8 b 3 || u16 b 0 < 64 || 8191 < u16 b 0 || 1 < u8 b 2 || !zeros b 4 4 || !zeros b 29 1 || !zeros b 53 1
    || !resOk (sub b 56 16) || (List.zipWith (fun k m => k &&& ~~~m) (sub b 8 24) (sub b 32 24)).any (· != 0) then
    (stInvalid, s)
  else (stOk, setCls (u8 b 3) (stageApply (.pt (u16 b 0) (ptOf b))) s)

/-- One entry of an XT command, on the side of its port. -/
def xtOne (ok : Bytes → Bool) (op : XtKey → Bytes → Cls → XtDone × Cls) (b : Bytes) (s : State) : Nat × State :=
  if !keyOk b || !ok b then (stInvalid, s)
  else
    let side := portSide (u8 b 1)
    let r := op (keyOfBytes b) b (clsOf s side)
    (codeStatus r.1.code, xtChanged side (setCls side (fun _ => r.2) s))

/-- One entry of TBL_INSERT; NO_ROOM raises event 0x2003 (R84). -/
def tblInsertOne (b : Bytes) (s : State) : Nat × State :=
  let r := xtOne (fun b => u8 b 12 == 1 && u8 b 13 == 0 && resOk (b.drop 16))
    (fun k b c => xtInsert k (resOf (b.drop 16)) false c) b s
  if r.1 == stNoRoom then (r.1, evH 0x2003 (le 1 (portSide (u8 b 1)) ++ le 1 (u8 b 1)) r.2) else r

/-- TBL_INSERT (0x0202): an aborted ATOMIC batch changes nothing, but its failing entry still raises event 0x2003. -/
def tblInsert (d : DmaRead) (c : Cmd) (s : State) : Res :=
  match batch 32 4096 tblInsertOne c d s with
  | .done r t =>
    if nbit c.flags 0 && r.status == stNoRoom then
      match parseEntries 32 4096 2 true c d with
      | .ok es =>
        let p := u8 (es.list.getD r.detail []) 1
        .done r (evH 0x2003 (le 1 (portSide p) ++ le 1 p) t)
      | .error _ => .done r t
    else .done r t
  | w => w

/-- One entry of TBL_MODIFY. -/
def tblModifyOne (b : Bytes) (s : State) : Nat × State :=
  xtOne (fun b => u8 b 12 ≤ 1 && u8 b 13 == 0 && resOk (b.drop 16))
    (fun k b c => xtModify k (u8 b 12 == 1) (resOf (b.drop 16)) false c) b s

/-- One entry of TBL_DELETE. -/
def tblDeleteOne (b : Bytes) (s : State) : Nat × State :=
  xtOne (fun b => u8 b 12 == 0 && u8 b 13 == 0) (fun k _ c => xtDelete k false c) b s

/-- The 88-byte response of TBL_READ. -/
def tblReadReply (table : Nat) (loc : W32) (entry : Bytes) (hits : W64) (s : State) : Res :=
  okWith (le 1 table ++ zb 3 ++ le 4 loc.toNat ++ pad 72 entry ++ le64 hits) s

/-- TBL_READ (0x0205). -/
def tblRead (c : Cmd) (s : State) : Res :=
  let p := c.payload
  let x := p.drop 4
  let i := u16 p 2
  if p.length != 20 then fail stInvalid s
  else match u8 p 0 with
    | 0 =>
      if 64 ≤ u8 p 1 || 4096 ≤ i || !zeros p 4 16 then fail stInvalid s
      else tblReadReply 0 0 (resBytes (tget .reset (clsOf s (portSide (u8 p 1))).dt (u8 p 1 % 32 * 4096 + i))) 0 s
    | 1 =>
      if u8 p 1 != 0 || !keyOk x || 1 < u8 x 12 || u8 x 13 != 0 then fail stInvalid s
      else
        let cl := clsOf s (portSide (u8 x 1))
        match xtFind false cl (keyOfBytes x) with
        | none => fail stNotFound s
        | some (l, e) => tblReadReply 1 (locWord l) (xtBytes cl e) 0 s
    | 2 =>
      if 1 < u8 p 1 || 8192 ≤ i || !zeros p 4 16 then fail stInvalid s
      else match tget none (clsOf s (u8 p 1)).pt i with
        | none => fail stNotFound s
        | some e => tblReadReply 2 0 (ptBytes (u8 p 1) i e) e.hits s
    | _ => fail stInvalid s

/-- TBL_LEARN_SET (0x0206); it raises no event itself (log entry 102). -/
def tblLearnSet (c : Cmd) (s : State) : Res :=
  let p := c.payload
  let port := u8 p 0
  let cfg : LearnCfg := { on := u8 p 1 == 1, notifyLearned := nbit (u8 p 2) 0, notifyAged := nbit (u8 p 2) 1,
                          limit := u16 p 4 }
  if p.length != 16 || 64 ≤ port || 1 < u8 p 1 || 3 < u8 p 2 || !zeros p 3 1 || !zeros p 9 7
    || (decide (port < 32) && u8 p 1 == 1) then fail stInvalid s
  else
    let side := portSide port
    ok (limitClear side (setCls side (fun x => { x with
      learn := tset .reset x.learn (port % 32) cfg
      ageTick := if u16 p 6 == 0 then x.ageTick else BitVec.ofNat 16 (u16 p 6)
      ageLimit := if u8 p 8 == 0 then x.ageLimit else BitVec.ofNat 8 (u8 p 8) }) s))

/-- TBL_FLUSH (0x0207): the sweep is deferred work. -/
def tblFlush (c : Cmd) (s : State) : Res :=
  let p := c.payload
  if p.length != 4 || nbit c.flags 0 || 64 ≤ u8 p 0 || 2 < u8 p 1 || !zeros p 2 2 then fail stInvalid s
  else
    let id := s.hif.nextDeferred
    let s := deferAdd id (deferOpen c s)
    .done ⟨stDeferred, 0, []⟩
      (setCls (portSide (u8 p 0)) (fun x => { x with flushes := x.flushes ++ [⟨u8 p 0, u8 p 1, id⟩] }) s)

/-- FLUSH_SWEEP_DONE: the oldest sweep of a side ends; its entries are removed, and its completion carries how many
(R82). -/
def flushSweepDone (side : Nat) (s : State) : State :=
  if !cpRuns s then s
  else match (clsOf s side).flushes with
    | [] => s
    | f :: rest =>
      let s := tcuSettled s
      let s := setCls side (fun c => { c with flushes := rest }) s
      let c := clsOf s side
      if f.scope == 2 then
        let ks := tkeys (fun k _ => k / 4096 == f.port % 32) c.dt
        deferEnd f.deferred stOk ks.length
          (setCls side (fun c => { c with dt := ks.foldl (fun t k => tset .reset t k .reset) c.dt }) s)
      else
        let ls := xtOfPort c f.port (fun e => f.scope == 1 || e.learned)
        deferEnd f.deferred stOk ls.length
          (xtChanged side (setCls side (fun c => ls.foldl (fun c l => xtPut l none c) c) s))

/-- TBL_STATS_GET (0x0208), Table 3-13. -/
def tblStatsGet (c : Cmd) (s : State) : Res :=
  let p := c.payload
  if p.length != 4 || 1 < u8 p 0 || !zeros p 1 3 then fail stInvalid s
  else
    let x := clsOf s (u8 p 0)
    let block (k : Nat) : Bytes :=
      let q := tget .reset x.perPort k
      le64 q.drop ++ le64 q.default ++ le64 q.untagged ++ le64 q.nosc
    okWith (le 1 (u8 p 0) ++ zb 7 ++ le64 s.tsu.ns ++
      le 4 (tkeys (fun l e => decide (l < stashBase) && e.isSome) x.xt).length ++ le 2 (stashUse x) ++ zb 2 ++
      le 4 (tkeys (fun _ e => e.any (·.learned)) x.xt).length ++ zb 4 ++
      [x.insertCnt, x.moveCnt, x.stashCnt, x.learnCnt, x.evictCnt, x.failCnt, x.limitCnt, x.dropCnt, x.noticeLostCnt,
       x.ageRemoveCnt, x.queueOorCnt, 0].flatMap le64 ++ (List.range 32).flatMap block) s

/-! ### The meanings -/

/-- TBL_DT_SET. -/
def execTblDtSet (mb : Nat) (s : State) : Host.Outcome State Fault Refusal := .next (fcp 0x0200 mb (tblBehind tblDtSet) s)
/-- TBL_PT_SET. -/
def execTblPtSet (mb : Nat) (dma : DmaRead) (s : State) : Host.Outcome State Fault Refusal :=
  .next (fcpDma 0x0201 mb dma (fun d => tblBehind (fun c => batch 72 4096 ptSetOne c d)) s)
/-- TBL_INSERT. -/
def execTblInsert (mb : Nat) (dma : DmaRead) (s : State) : Host.Outcome State Fault Refusal :=
  .next (fcpDma 0x0202 mb dma (fun d => tblBehind (tblInsert d)) s)
/-- TBL_MODIFY. -/
def execTblModify (mb : Nat) (dma : DmaRead) (s : State) : Host.Outcome State Fault Refusal :=
  .next (fcpDma 0x0203 mb dma (fun d => tblBehind (fun c => batch 32 4096 tblModifyOne c d)) s)
/-- TBL_DELETE. -/
def execTblDelete (mb : Nat) (dma : DmaRead) (s : State) : Host.Outcome State Fault Refusal :=
  .next (fcpDma 0x0204 mb dma (fun d => tblBehind (fun c => batch 16 4096 tblDeleteOne c d)) s)
/-- TBL_READ. -/
def execTblRead (mb : Nat) (s : State) : Host.Outcome State Fault Refusal := .next (fcp 0x0205 mb (tblBehind tblRead) s)
/-- TBL_LEARN_SET. -/
def execTblLearnSet (mb : Nat) (s : State) : Host.Outcome State Fault Refusal :=
  .next (fcp 0x0206 mb (tblRun tblLearnSet) s)
/-- TBL_FLUSH. -/
def execTblFlush (mb : Nat) (s : State) : Host.Outcome State Fault Refusal := .next (fcp 0x0207 mb (tblRun tblFlush) s)
/-- FLUSH_SWEEP_DONE. -/
def execFlushSweepDone (side : Nat) (s : State) : Host.Outcome State Fault Refusal := .next (flushSweepDone side s)
/-- TBL_STATS_GET. -/
def execTblStatsGet (mb : Nat) (s : State) : Host.Outcome State Fault Refusal :=
  .next (fcp 0x0208 mb (tblRun tblStatsGet) s)
/-- DT_WRITE. -/
def execDtWrite (side : Nat) (stage : Bool) (s : State) : Host.Outcome State Fault Refusal :=
  .next (tcuStart side (tcuDtWrite stage) s)
/-- DT_READ. -/
def execDtRead (side : Nat) (s : State) : Host.Outcome State Fault Refusal := .next (tcuStart side tcuDtRead s)
/-- XT_INSERT. -/
def execXtInsert (side : Nat) (stage : Bool) (s : State) : Host.Outcome State Fault Refusal :=
  .next (tcuStart side (tcuXtInsert stage) s)
/-- XT_MODIFY. -/
def execXtModify (side : Nat) (stage : Bool) (s : State) : Host.Outcome State Fault Refusal :=
  .next (tcuStart side (tcuXtModify stage) s)
/-- XT_DELETE. -/
def execXtDelete (side : Nat) (stage : Bool) (s : State) : Host.Outcome State Fault Refusal :=
  .next (tcuStart side (tcuXtDelete stage) s)
/-- XT_READ. -/
def execXtRead (side : Nat) (s : State) : Host.Outcome State Fault Refusal := .next (tcuStart side tcuXtRead s)
/-- PT_WRITE. -/
def execPtWrite (side : Nat) (stage : Bool) (s : State) : Host.Outcome State Fault Refusal :=
  .next (tcuStart side (tcuPtWrite stage) s)
/-- PT_READ. -/
def execPtRead (side : Nat) (s : State) : Host.Outcome State Fault Refusal := .next (tcuStart side (tcuPtRead side) s)
/-- XT_REMOVE_PORT. -/
def execXtRemovePort (side : Nat) (s : State) : Host.Outcome State Fault Refusal :=
  .next (tcuStart side (tcuXtRemove false) s)
/-- TCU_STAGE. -/
def execTcuStage (side op : Nat) (s : State) : Host.Outcome State Fault Refusal := .next (tcuStaged side op s)
/-- TCU_COMMIT. -/
def execTcuCommit (side : Nat) (s : State) : Host.Outcome State Fault Refusal := .next (tcuCommit side s)
/-- TCU_ABORT. -/
def execTcuAbort (side : Nat) (s : State) : Host.Outcome State Fault Refusal := .next (tcuAbort side s)
/-- TCU_OP_DONE. -/
def execTcuOpDone (side : Nat) (s : State) : Host.Outcome State Fault Refusal := .next (tcuOpDone side s)
/-- STAGE_DRAIN_DONE. -/
def execStageDrainDone (side : Nat) (s : State) : Host.Outcome State Fault Refusal := .next (stageDrainDone side s)
/-- LEARN_INSERT. -/
def execLearnInsert (side : Nat) (s : State) : Host.Outcome State Fault Refusal := .next (learnInsert side s)
/-- STASH_REHOME. -/
def execStashRehome (side : Nat) (s : State) : Host.Outcome State Fault Refusal := .next (stashRehome side s)
/-- AGE_TICK. -/
def execAgeTick (side : Nat) (s : State) : Host.Outcome State Fault Refusal := .next (ageTick side s)
/-- LEARN_FIFO_DRAIN. -/
def execLearnFifoDrain (side : Nat) (s : State) : Host.Outcome State Fault Refusal := .next (learnFifoDrain side s)

end Sys2Proof.Machine
end

