-- ==== Sys2Proof/Machine/LifeCycle.lean ====
section
/-! DEFINITION. The LC_*, ID_* and FW_* commands, the commit of a life-cycle transition, factory provisioning
(14_boot_lifecycle.md, R339 to R352). DEDUCED: log entry 89. -/
namespace Sys2Proof.Machine

/-- RETIRED: most commands of this chapter return WRONG_STATE then (R351). -/
def retired (s : State) : Bool := s.boot.lc == 4

/-! ### Life cycle (R339 to R342) -/

/-- LC_STATE_GET. -/
def lcStateGet (c : Cmd) (s : State) : Res :=
  let b := s.boot
  if !c.payload.isEmpty then fail stInvalid s
  else okWith (le 1 b.lc ++ le 1 (mask [b.zeroized, b.ownerScheme != 0]) ++ le 1 s.prot.level ++ le 1 s.prot.highest ++
    le 1 b.transitions ++ le 1 b.svn ++ le 1 b.ownerScheme ++ zb 1 ++ ownerDigest s) s

/-- The transitions that LC_STATE_SET makes (Table 14-7); out of ZEROIZED only FIELD (R340). -/
def lcAllowed (b : Boot) (target : Nat) : Bool :=
  match b.lc with
  | 1 => target == 2
  | 2 => if b.zeroized then target == 2 else target == 3 || target == 4
  | 3 => target == 2 || target == 4
  | _ => false

/-- A transition blows a transition fuse (R336). -/
def lcFuse (b : Boot) (target : Nat) : Bool := (b.lc == 2 && target == 3) || (b.lc == 3 && target == 2)

/-- The length of a key block by scheme (R342). -/
def keyBlockLen (scheme : Nat) : Nat := match scheme with
  | 1 => 97 | 2 => 1952 | 3 => 2049 | _ => 0

/-- LC_STATE_SET: after its checks MUZZLE is asserted, and the command waits for its commit (R341, R342, R352). A claim taken in PROVISION
that finds the device claimed by another comes too late (R349, Table 14-12). -/
def lcStateSet (d : DmaRead) (c : Cmd) (s : State) : Res :=
  let p := c.payload
  let target := u8 p 0
  let scheme := u8 p 1
  let n := u32 p 4
  let claim := target == 2 && (s.boot.lc == 1 || !c.claim.isEmpty)
  let go (t : State) : Res := .wait (.muzzle target) (setBoot (fun b => { b with transition := some target }) (muzzle t))
  if retired s then fail stWrongState s
  else if p.length != 24 || !zeros p 2 2 || !zeros p 16 8 || (!claim && (scheme != 0 || n != 0)) ||
    (claim && (keyBlockLen scheme == 0 || n != keyBlockLen scheme || !dmaRange (u64 p 8) n)) then fail stInvalid s
  else if !lcAllowed s.boot target || s.boot.transition.isSome || (claim && s.boot.lc != 1) then fail stWrongState s
  else if lcFuse s.boot target && 64 ≤ s.boot.transitions then fail stNoRoom s
  else if !claim then go s
  else match dmaBytes n d with
    | .error e => fail e s
    | .ok _ => if keyBlockOk scheme (pad n c.claim) then go s else fail stIntegrity s

/-- A command waits for the commit of a transition. -/
def waitsCommit (w : Wait) : Bool := match w with
  | .muzzle _ => true
  | _ => false

/-- The owner's key block, scheme and digest are written into OTP (R342). -/
def ownerWrite (c : Cmd) (b : Boot) : Boot :=
  let scheme := u8 c.payload 1
  let key := pad (keyBlockLen scheme) c.claim
  { b with ownerScheme := scheme, ownerKey := key, ownerDigest := sha384 (le 1 scheme ++ key) }

/-- What the commit point writes: OTP, and in ZEROIZED a new share (R341); the state counter is 0 (R165); RETIRED erases
the share (Table 14-7). -/
def lcWrite (target : Nat) (s : State) : State :=
  let fuse := lcFuse s.boot target
  let exit := s.boot.lc == 2 && target == 2
  let s := setBoot (fun b => { b with
    lc := target, transitions := if fuse then b.transitions + 1 else b.transitions, transition := none
    bbram := { b.bbram with counter := 0 } }) s
  let s := if exit then shareNew s else s
  if target == 4 then eraseShare s else s

/-- LC_TRANSITION_COMMIT: with the clearing after MUZZLE complete, the commit is written, the command answers OK, event and
record 0x8001 are made, and a core reset is due 10 ms later (R341). -/
def lcCommit (s : State) : State :=
  match s.boot.transition with
  | none => s
  | some target =>
    if !cpRuns s || s.km.clearing then s
    else
      let old := s.boot.lc
      let claims := s.hif.cmds.filter (fun c => waitsCommit c.wait && old == 1)
      let s := claims.foldl (fun t c => setBoot (ownerWrite c) t) (lcWrite target s)
      let ps := le 1 old ++ le 1 target
      let s := wake waitsCommit (fun _ t => ok t) s
      let s := evdWrite 0x8001 0 (BitVec.ofNat 64 (leNat ps)) (evF 0x8001 ps s)
      let s := levelSet (levelDefault target) 2 (lockRelease s)
      setBoot (fun b => { b with coreReset := some (s.tsu.ns + 10000000) }) s

/-- FACTORY_PROVISIONING: Perdahar moves a RAW part into PROVISION, with its identity keys and IDevID certificates, or a
RAW or PROVISION part into RETIRED, where no identity key exists and no UDS is formed (R339, Table 14-7). -/
def factory (target : Nat) (s : State) : State :=
  let lc := s.boot.lc
  if live s && ((lc == 0 && (target == 1 || target == 4)) || (lc == 1 && target == 4)) then
    let s := setBoot (fun b =>
      let b := { b with lc := target, bbram := { b.bbram with counter := 0 } }
      if target == 1 then
        { b with ids := idKeys b
                 certs := tset none (tset none b.certs 0 (some (Config.idevCert 0))) 1 (some (Config.idevCert 1)) }
      else { b with ids := [] }) s
    let s := if target == 4 then { s with km := { s.km with uds := none } } else s
    levelSet (levelDefault target) 2 (lockRelease s)
  else s

/-- LC_DEBUG_UNLOCK: an INVASIVE grant in FIELD asserts MUZZLE first and waits (R324, R325). -/
def lcDebugUnlock (c : Cmd) (s : State) : Res :=
  let p := c.payload
  let l := u8 p 0
  if retired s then fail stWrongState s
  else if p.length != 8 || 2 < l || !zeros p 1 7 then fail stInvalid s
  else if levelHighest s.boot.lc < l then fail stDenied s
  else if l ≤ s.prot.level then ok (levelSet l 1 s)
  else if l == 2 && s.boot.lc == 2 then .wait (.debug l) (setProt (fun q => { q with granting := true }) (muzzle s))
  else ok (levelSet l 0 s)

/-! ### Identity (R343 to R345) -/

/-- A bulk answer: its bytes by DMA, its length in the response. -/
def bulkReply (addr : Nat) (bytes : Bytes) (s : State) : Res :=
  if dmaRange addr bytes.length then okWith (le 4 bytes.length ++ zb 4) (dmaPut addr bytes s) else fail stInvalid s

/-- ID_CERT_GET. -/
def idCertGet (c : Cmd) (s : State) : Res :=
  let p := c.payload
  if p.length != 16 || 3 < u8 p 0 || !zeros p 1 7 || u64 p 8 % 8 != 0 then fail stInvalid s
  else match certOf s (u8 p 0) with
    | none => fail stNotFound s
    | some b => bulkReply (u64 p 8) b s

/-- ID_CSR_GET; with the keys cleared by MUZZLE there is none to sign with (log entry 56). -/
def idCsrGet (c : Cmd) (s : State) : Res :=
  let p := c.payload
  let slot := u8 p 0
  if retired s then fail stWrongState s
  else if p.length != 16 || slot < 2 || 3 < slot || !zeros p 1 7 || u64 p 8 % 8 != 0 then fail stInvalid s
  else match idKey s slot with
    | none => fail stWrongState s
    | some k => if s.boot.ownerScheme == 0 then fail stWrongState s else bulkReply (u64 p 8) (Config.csr k) s

/-- ID_CERT_SET. -/
def idCertSet (d : DmaRead) (c : Cmd) (s : State) : Res :=
  let p := c.payload
  let slot := u8 p 0
  let n := u32 p 4
  if retired s then fail stWrongState s
  else if p.length != 24 || slot < 2 || 3 < slot || !zeros p 1 3 || !zeros p 16 8 || n == 0 || 8192 < n ||
    !dmaRange (u64 p 8) n then fail stInvalid s
  else if s.boot.ownerScheme == 0 || (idKey s slot).isNone then fail stWrongState s
  else match dmaBytes n d with
    | .error e => fail e s
    | .ok b => if certOk s slot b then ok (setBoot (fun x => { x with certs := tset none x.certs slot (some b) }) s)
      else fail stIntegrity s

/-- ID_QUOTE_GET. -/
def idQuoteGet (c : Cmd) (s : State) : Res :=
  let p := c.payload
  let scheme := u8 p 32
  let ldev := u8 p 33 == 1
  if retired s then fail stWrongState s
  else if p.length != 40 || scheme == 0 || 3 < scheme || 1 < u8 p 33 || !zeros p 34 6 then fail stInvalid s
  else if s.km.muzzled then fail stWrongState s
  else if noLdev s ldev scheme then fail stNotFound s
  else okWith (quote (p.take 32) scheme ldev s) s

/-! ### Firmware update (R346 to R348) -/

/-- FW_IMAGE_STAGE: the manifest is checked and the code's writing starts in the slot that is not active; MK of the next
image is derivable (R177, R346, R352). -/
def fwImageStage (d : DmaRead) (c : Cmd) (s : State) : Res :=
  let p := c.payload
  let n := u32 p 8
  if retired s then fail stWrongState s
  else if p.length != 16 || !zeros p 12 4 || n < 4096 || !dmaRange (u64 p 0) n then fail stInvalid s
  else if s.boot.staging.st != 0 || s.boot.running.trial then fail stWrongState s
  else match dmaBytes n d with
    | .error e => fail e s
    | .ok b =>
      let m := b.take 4096
      let cause := manifestCause s.boot m
      if n != 4096 + u32 m 20 then fail stInvalid s
      else if cause == 5 then fail stStale s
      else if cause != 0 then fail stIntegrity s
      else
        let id := s.hif.nextDeferred
        let slot := 1 - (dirNow s.boot).active
        let s := deferAdd id (deferOpen c s)
        let s := setBoot (fun x => { setImage slot .erased x with
          staged := true
          staging := { st := 1, slot := slot, version := u32 m 4, svn := u32 m 8, digest := manifestDigest m
                       image := ⟨m, b.drop 4096⟩, deferred := id } }) s
        let r := keyShares (mkOf s (manifestDigest m)) s
        let s := if s.km.uds.isSome then { r.2 with km := { r.2.km with mkNext := some r.1 } } else s
        .done ⟨stDeferred, 0, le 4 (u32 m 4) ++ le 4 (u32 m 8) ++ le 4 (u32 m 20) ++ zb 4⟩ s

/-- FW_STAGE_WRITE_DONE: check 7 and the flash decide (Table 14-10); 0x8006 carries 0 for check 7, 1 for the flash. -/
def fwStageWriteDone (flashOk : Bool) (s : State) : State :=
  let g := s.boot.staging
  if !cpRuns s || g.st != 1 then s
  else
    let good := sha384 g.image.code == sub g.image.manifest 24 48
    if good && flashOk then
      evF 0x8005 (le 4 g.version ++ le 4 g.svn)
        (deferEnd g.deferred stOk 0 (setBoot (fun b => { setImage g.slot g.image b with staging := { g with st := 2 } }) s))
    else
      evF 0x8006 (le 1 (if good then 1 else 0))
        (deferEnd g.deferred stIntegrity 0 (setBoot (fun b => { b with staging := { g with st := 3 } }) s))

/-- CONFIRM: SVN fuses and revocations first, the directory is the commit point (R336, R348). -/
def fwConfirm (s : State) : State :=
  let r := s.boot.running
  let g : BitVec 4 := BitVec.ofNat 4 r.revoke &&& ~~~(1#4 <<< r.keyGen)
  let s := setBoot (fun b => dirWrite (r.image.getD 0) none 0 { b with
    svn := Nat.max b.svn r.svn, revoked := b.revoked ||| g, running := { r with trial := false } }) s
  evF 0x8004 (le 4 r.version ++ le 4 r.svn ++ le 1 g.toNat) s

/-- CONFIRM cut by a reset during its fuse writes: some of the SVN fuses and of the revocations are blown, and the directory is not
written (R349, Table 14-12). -/
def fwConfirmCut (fuses : Nat) (revoked : BitVec 4) (s : State) : State :=
  let r := s.boot.running
  let g : BitVec 4 := BitVec.ofNat 4 r.revoke &&& ~~~(1#4 <<< r.keyGen)
  setBoot (fun b => { b with svn := Nat.max b.svn (Nat.min r.svn (b.svn + fuses)), revoked := b.revoked ||| (g &&& revoked) }) s

/-- FW_IMAGE_ACTIVATE; `cut` says that a reset falls during the fuse writes of a CONFIRM, after so many of them (log entry 149). -/
def fwImageActivate (cut : Option (Nat × BitVec 4)) (c : Cmd) (s : State) : Res :=
  let p := c.payload
  let a := u8 p 0
  let g := s.boot.staging
  if retired s then fail stWrongState s
  else if p.length != 4 || 2 < a || !zeros p 1 3 then fail stInvalid s
  else if a == 2 then
    (if !s.boot.running.trial then fail stWrongState s
    else match cut with
      | none => ok (fwConfirm s)
      | some x => .wait .cut (fwConfirmCut x.1 x.2 s))
  else if g.st != 2 then fail stWrongState s
  else
    let s := setBoot (fun b => { dirWrite (dirNow b).active (some g.slot) 1 b with staging := .none }) s
    ok (if a == 1 then setBoot (fun b => { b with coreReset := some (s.tsu.ns + 10000000) }) s else s)

/-- The final statuses of Table 0-6, all of its codes but OK_DEFERRED, by number (R14). -/
def finalStatus (n : Nat) : Nat := if n % 15 == 0 then stOk else 0x00FF + n % 15

/-- FW_STAGE_ABORT: the slot is invalidated. With which final status a staging still being written completes is not stated
(log entry 50). -/
def fwStageAbort (c : Cmd) (s : State) : Res :=
  let g := s.boot.staging
  if retired s then fail stWrongState s
  else if !c.payload.isEmpty then fail stInvalid s
  else if g.st == 0 then fail stWrongState s
  else
    let r := drawFree 50 s
    let s := if g.st == 1 then deferEnd g.deferred (finalStatus r.1.toNat) 0 r.2 else s
    ok (setBoot (fun b => { setImage g.slot .erased b with staging := .none }) s)

/-- FW_STATUS_GET. -/
def fwStatusGet (c : Cmd) (s : State) : Res :=
  let r := s.boot.running
  let g := s.boot.staging
  if !c.payload.isEmpty then fail stInvalid s
  else okWith (imageByte s ++ bit8 r.trial ++ le 1 g.st ++ zb 1 ++ le 4 r.version ++ le 4 r.svn ++ le 4 s.boot.svn ++
    le 4 g.version ++ le 4 g.svn ++ zb 8 ++ pad 48 g.digest) s

/-! ### Meanings -/

/-- LC_STATE_GET (0x0800). -/
def execLcStateGet (mb : Nat) (s : State) : Host.Outcome State Fault Refusal := .next (fcp 0x0800 mb lcStateGet s)
/-- LC_STATE_SET (0x0801). -/
def execLcStateSet (mb : Nat) (dma : DmaRead) (s : State) : Host.Outcome State Fault Refusal :=
  .next (fcpDma 0x0801 mb dma lcStateSet s)
/-- LC_TRANSITION_COMMIT. -/
def execLcTransitionCommit (s : State) : Host.Outcome State Fault Refusal := .next (lcCommit s)
/-- LC_DEBUG_UNLOCK (0x0802). -/
def execLcDebugUnlock (mb : Nat) (s : State) : Host.Outcome State Fault Refusal := .next (fcp 0x0802 mb lcDebugUnlock s)
/-- ID_CERT_GET (0x0810). -/
def execIdCertGet (mb : Nat) (reads : List (Nat × Nat)) (s : State) : Host.Outcome State Fault Refusal :=
  .next (fcpOut 0x0810 mb reads idCertGet s)
/-- ID_CSR_GET (0x0811). -/
def execIdCsrGet (mb : Nat) (reads : List (Nat × Nat)) (s : State) : Host.Outcome State Fault Refusal :=
  .next (fcpOut 0x0811 mb reads idCsrGet s)
/-- ID_CERT_SET (0x0812). -/
def execIdCertSet (mb : Nat) (dma : DmaRead) (s : State) : Host.Outcome State Fault Refusal :=
  .next (fcpDma 0x0812 mb dma idCertSet s)
/-- ID_QUOTE_GET (0x0813). -/
def execIdQuoteGet (mb : Nat) (s : State) : Host.Outcome State Fault Refusal := .next (fcp 0x0813 mb idQuoteGet s)
/-- FW_IMAGE_STAGE (0x0820). -/
def execFwImageStage (mb : Nat) (dma : DmaRead) (s : State) : Host.Outcome State Fault Refusal :=
  .next (fcpDma 0x0820 mb dma fwImageStage s)
/-- FW_STAGE_WRITE_DONE. -/
def execFwStageWriteDone (flashOk : Bool) (s : State) : Host.Outcome State Fault Refusal := .next (fwStageWriteDone flashOk s)
/-- FW_IMAGE_ACTIVATE (0x0821). -/
def execFwImageActivate (mb : Nat) (cut : Option (Nat × BitVec 4)) (s : State) : Host.Outcome State Fault Refusal :=
  .next (fcp 0x0821 mb (fwImageActivate cut) s)
/-- FW_STAGE_ABORT (0x0822). -/
def execFwStageAbort (mb : Nat) (s : State) : Host.Outcome State Fault Refusal := .next (fcp 0x0822 mb fwStageAbort s)
/-- FW_STATUS_GET (0x0823). -/
def execFwStatusGet (mb : Nat) (s : State) : Host.Outcome State Fault Refusal := .next (fcp 0x0823 mb fwStatusGet s)
/-- FACTORY_PROVISIONING. -/
def execFactoryProvisioning (target : Nat) (s : State) : Host.Outcome State Fault Refusal := .next (factory target s)

end Sys2Proof.Machine
end

