-- ==== Sys2Proof/Machine/Monitors.lean ====
section
/-! DEFINITION. The security monitors' commands: detections, samples, inverted shadows, the always-on domain, the tamper
configuration and the evidence log (15_tamper.md, R353 to R371). DEDUCED: log entry 90. DESIGN CHOICE: log entry 99. -/
namespace Sys2Proof.Machine

/-- Change the security monitors. -/
def setTamper (f : Tamper → Tamper) (s : State) : State := { s with tamper := f s.tamper }

/-! ### Detections and samples (R353 to R358) -/

/-- The alarms that are detected on battery as well (Table 15-1). -/
def aonAlarm (a : Nat) : Bool := [6, 9, 11, 12, 14, 15, 16, 17, 18, 20, 23].contains a

/-- The loop enables and the lid enable in force: all of them at the safe value (Table 15-5). -/
def loopsInForce (s : State) : BitVec 4 := if s.tamper.safe.contains (1, 24) then 0xF else s.tamper.cfg.loops
/-- LID_EN in force. -/
def lidInForce (s : State) : Bool := s.tamper.safe.contains (1, 24) || s.tamper.cfg.lid

/-- A disabled loop or lid input is never sampled (R355, R356). -/
def monitored (s : State) (a : Nat) : Bool :=
  if 14 ≤ a ∧ a ≤ 17 then (loopsInForce s).getLsbD (a - 14) else if a == 18 then lidInForce s else true

/-- CLK_AON is not evaluated during the first 2 s after the AON domain first powers up, 65,536 cycles of AONCLK from which
the RTC counts (R424; log entry 128). -/
def clkAonDetected (param : W64) (s : State) : State :=
  let s := rtcRun s
  if s.tamper.rtc < 65536 then s else alarmRaise 9 param s

/-- ALARM_DETECTED: on battery only the alarms of Table 15-1 that say so. -/
def alarmDetected (a : Nat) (param : W64) (s : State) : State :=
  if a < 24 && !s.tamper.aonDown && (!s.tamper.onBattery || aonAlarm a) && monitored s a then
    (if a == 9 then clkAonDetected param s else alarmRaise a param s)
  else s

/-- An alarm whose parameter the spec does not state (log entry 25). -/
def alarmFree (a : Nat) (s : State) : State :=
  let r := drawFree 25 s
  alarmRaise a r.1 r.2

/-- ALARM_CONDITION_ENDED; a shadow is never repaired (R353, R365). -/
def alarmEnded (a : Nat) (s : State) : State :=
  if a < 24 && !(a == 20 && !s.tamper.safe.isEmpty) then
    setTamper (fun t => { t with active := t.active &&& ~~~(1#32 <<< a) }) s
  else s

/-- ENTROPY_HEALTH_FAIL (R125). -/
def entropyFails (s : State) : State :=
  if s.tamper.onBattery || s.tamper.aonDown || s.tamper.active.getLsbD 13 then s else alarmFree 13 s

/-- A sample of a loop drives a fresh word of the loop generator on TAMP_OUT (R355; log entry 148). -/
def loopDrive (a : Nat) (s : State) : State :=
  if 14 ≤ a ∧ a ≤ 17 then
    let g := Config.loopNext s.tamper.loopSeed
    setTamper (fun t => { t with loopSeed := g, loopOut := tset 0 t.loopOut (a - 14) (Config.loopWord g) }) s
  else s

/-- The word of a loop; a disabled one drives TAMP_OUT low (R355). -/
def loopWordOf (s : State) (n : Nat) : Byte := if (loopsInForce s).getLsbD n then tget 0 s.tamper.loopOut n else 0

/-- What TAMP_OUT of any loop carries between two rows: low, between samples and while the loop is disabled (R355, R432
Table 19-12). -/
def tampOut (_loop : Nat) : Byte := 0

/-- TAMP_IN of loop `n` does not return the loop's word, by the state of the wire: 0 intact, 1 open, which reads the pull-down, 2 to 5
shorted to loop 0 to 3, above that any byte (R355; log entry 148). -/
def loopFails (s : State) (n wire : Nat) : Bool :=
  if wire == 0 then false
  else
    (if wire == 1 then 0 else if wire < 6 then loopWordOf s (wire - 2) else BitVec.ofNat 8 (wire - 6)) != loopWordOf s n

/-- A sample fails: VBAT below 2.50 V; the AON sensor below -25 or, grade E, -55 degrees; a loop as its wire returns the word; the
others as the sensor finds (Table 15-1, R355). -/
def sampleFails (s : State) (a : Nat) (fails : Bool) (reading : Nat) : Bool :=
  if a == 6 then decide (reading % 65536 < 2500)
  else if a == 11 then decide (signed 2 (reading % 65536) < if s.boot.gradeE then -440 else -200)
  else if 14 ≤ a ∧ a ≤ 17 then loopFails s (a - 14) reading
  else fails

/-- What a sample leaves in the status: the voltage, the temperature, the loops and the lid (Table 15-11), and VBAT's
share in the daily mean (Table 17-5). -/
def sampleSeen (a : Nat) (bad : Bool) (reading : Nat) (s : State) : State :=
  let s := setTamper (fun t =>
    if a == 6 then { t with vbat := reading % 65536 }
    else if a == 11 then { t with aonTemp := BitVec.ofNat 16 reading }
    else if a == 18 then { t with lidOpen := bad }
    else if 14 ≤ a ∧ a ≤ 17 then
      { t with loopsFailing := if bad then t.loopsFailing ||| (1#4 <<< (a - 14)) else t.loopsFailing &&& ~~~(1#4 <<< (a - 14)) }
    else t) s
  if a == 6 && live s then
    { s with cnt := { s.cnt with vbatSum := s.cnt.vbatSum + reading % 65536, vbatNum := s.cnt.vbatNum + 1 } }
  else s

/-- TAMPER_SAMPLE: the alarm is detected at the second failing sample in a row, and stops being ACTIVE at one that passes
(R357). One sample covers all of an alarm's sensors, so the item's index is 0. With main power TEMP_LOW is the junction sensors', and a
sample of the AON sensor only shows its temperature (Table 15-1). -/
def tamperSample (a index : Nat) (fails : Bool) (reading : Nat) (s : State) : State :=
  if index != 0 || s.tamper.aonDown || !([6, 11, 12, 14, 15, 16, 17, 18].contains a) || !monitored s a then s
  else if a == 11 && !s.tamper.onBattery then sampleSeen a false reading s
  else
    let s := loopDrive a s
    let bad := sampleFails s a fails reading
    let again := s.tamper.failing.contains a
    let s := sampleSeen a bad reading s
    if !bad then alarmEnded a (setTamper (fun t => { t with failing := t.failing.filter (· != a) }) s)
    else if !again then setTamper (fun t => { t with failing := t.failing ++ [a] }) s
    else if s.tamper.active.getLsbD a then s
    else alarmFree a s

/-! ### Inverted shadows (R365) -/

/-- The registers of each group of Table 15-5, by index. -/
def shadowIndex (group index : Nat) : Bool := match group with
  | 1 => decide (index ≤ 24)
  | 3 => decide (index < 24)
  | 5 => decide (index ≤ 32)
  | 2 | 4 | 6 | 7 | 8 => index == 0
  | _ => false

/-- The register takes its safe value (Table 15-5). -/
def shadowSafe (group index : Nat) (s : State) : State := match group with
  | 2 => setTamper (fun t => { t with lock := true }) s
  | 3 =>
    let c := alarmClass s index
    setTamper (fun t => { t with
      latched := t.latched ||| (1#32 <<< index), taken := tmod 0 t.taken index (Nat.max c) }) s
  | 4 => setProt (fun p => { p with level := 0 }) s
  | 5 => setProt (fun p =>
      if index == 32 then { p with mpuLock := true }
      else { p with regions := tmod .reset p.regions index (fun r => { r with lock := true, perm := 0 }) }) s
  | 6 => setBoot (fun b => { b with lockLow := true }) s
  | 7 => muzzle s
  | _ => s

/-- SHADOW_MISMATCH: groups 1 to 3 are in the AON domain. A register that already holds its safe value raises nothing new
while the alarm is ACTIVE. -/
def shadowMismatch (group index : Nat) (otpStill : Bool) (s : State) : State :=
  if s.tamper.aonDown || !shadowIndex group index || (3 < group && !live s) ||
    (s.tamper.safe.contains (group, index) && s.tamper.active.getLsbD 20) then s
  else
    let s := shadowSafe group index s
    let s := setTamper (fun t => if group == 8 || t.safe.contains (group, index) then t
      else { t with safe := t.safe ++ [(group, index)] }) s
    let s := alarmRaise 20 (BitVec.ofNat 64 group) s
    if group == 8 && otpStill then alarmFree 22 s else s

/-! ### The always-on domain (R360, R340) -/

/-- POWER_TO_BATTERY: main power is gone, and POR_L is low (R420). -/
def toBattery (s : State) : State :=
  if s.tamper.onBattery || s.tamper.aonDown then s
  else
    let s := resetState false s
    setTamper (fun t => { t with onBattery := true }) (setBoot (fun b => { b with por := true, cold := true }) s)

/-- POWER_FROM_BATTERY: VDD_IO is back; TEMP_LOW is no longer the AON sensor's (Table 15-1). -/
def fromBattery (s : State) : State :=
  if s.tamper.onBattery && !s.tamper.aonDown then
    setTamper (fun t => { t with
      onBattery := false, active := t.active &&& ~~~(1#32 <<< 11), failing := t.failing.filter (· != 11) }) s
  else s

/-- AON_POWER_LOSS: the AON domain loses all power: BBRAM, configuration, latched state and log are lost. Without a cell that is every
removal of main power, and POR_L is low (R360, R420, R422, R436 Table 19-15). -/
def aonLoss (s : State) : State :=
  if s.tamper.aonDown then s
  else
    let s := toBattery s
    setBoot (fun b => { b with bbram := { share := none, recorded := none, counter := 0, aonReset := false } })
      (setTamper (fun _ => { Tamper.reset with onBattery := true, aonDown := true }) s)

/-- AON_POWER_UP: from no supply, with the AON-reset flag set and the default configuration (R340, R353, R355, R356). -/
def aonUp (s : State) : State :=
  if s.tamper.aonDown then
    setBoot (fun b => { b with bbram := { b.bbram with aonReset := true } })
      (setTamper (fun t => { t with aonDown := false }) s)
  else s

/-! ### Clearing and locking (R363, R364) -/

/-- The latched bits of a mask that can be cleared: of alarms not ACTIVE, and not held by the safe value of group 3. -/
def clearable (s : State) (m : BitVec 32) : BitVec 32 :=
  s.tamper.safe.foldl (fun v x => if x.1 == 3 then v &&& ~~~(1#32 <<< x.2) else v)
    (m &&& s.tamper.latched &&& ~~~s.tamper.active)

/-- Clear latched bits. -/
def latchedClear (m : BitVec 32) (s : State) : State :=
  let c := clearable s m
  setTamper (fun t => { t with latched := t.latched &&& ~~~c }) s

/-! ### Commands (R371, Table 15-10) -/

/-- RECOVERY and RETIRED, in which the configuration commands return WRONG_STATE. -/
def tmpBad (s : State) : Bool := s.boot.lc == 3 || s.boot.lc == 4

/-- The 72 bytes of a configuration (TMP_CONFIG_SET). -/
def tmpBytes (alarms : List (Nat × Bool)) (loops : BitVec 4) (lid : Bool) : Bytes :=
  (alarms.take 24).flatMap (fun x => le 1 x.1 ++ bit8 x.2) ++ zb 16 ++ le 1 loops.toNat ++ bit8 lid ++ zb 6

/-- TMP_STATUS_GET (Table 15-11). -/
def tmpStatusGet (c : Cmd) (s : State) : Res :=
  let t := s.tamper
  if !c.payload.isEmpty then fail stInvalid s
  else okWith (le 4 t.active.toNat ++ le 4 t.latched.toNat ++ le 1 t.severity ++
    le 1 (mask [t.lock, blockCause s, s.km.muzzled]) ++ le 2 t.vbat ++ le 2 t.aonTemp.toNat ++ zb 2 ++ le64 s.tsu.ns ++
    (List.range 8).flatMap (fun i => le 2 (tget 0 t.sensors i).toNat) ++ le 1 t.loopsFailing.toNat ++ bit8 t.lidOpen ++ zb 6 ++
    (List.range 32).flatMap (fun a => le 4 (tget 0 t.cnt a).toNat)) s

/-- TMP_CONFIG_GET. -/
def tmpConfigGet (c : Cmd) (s : State) : Res :=
  if tmpBad s then fail stWrongState s
  else if !c.payload.isEmpty then fail stInvalid s
  else
    let as := (List.range 24).map (fun a => (alarmClass s a, (s.tamper.cfg.alarms.getD a (0, false)).2))
    okWith (tmpBytes as (loopsInForce s) (lidInForce s) ++ bit8 s.tamper.lock ++ zb 7) s

/-- The entries of a TMP_CONFIG_SET are within Table 15-1, their reserved bits zero. -/
def cfgOk (p : Bytes) : Bool :=
  p.length == 72 && (List.range 24).all (fun a => alarmLow a ≤ u8 p (2 * a) && u8 p (2 * a) ≤ alarmTop a &&
    u8 p (2 * a + 1) ≤ 1) && zeros p 48 16 && u8 p 64 ≤ 15 && u8 p 65 ≤ 1 && zeros p 66 6

/-- TMP_CONFIG_SET (R362): event and record 0x9041 carry the digest prefix of the new configuration. A register held at its safe value
keeps it (R365, R369). -/
def tmpConfigSet (c : Cmd) (s : State) : Res :=
  let p := c.payload
  if tmpBad s then fail stWrongState s
  else if !cfgOk p then fail stInvalid s
  else if s.tamper.lock then fail stLocked s
  else
    let held (i : Nat) : Bool := s.tamper.safe.contains (1, i)
    let old := s.tamper.cfg
    let alarm (a : Nat) : Nat × Bool := if held a then old.alarms.getD a (0, false) else (u8 p (2 * a), u8 p (2 * a + 1) == 1)
    let cfg : TmpCfg := { alarms := (List.range 24).map alarm
                          loops := if held 24 then old.loops else BitVec.ofNat 4 (u8 p 64)
                          lid := if held 24 then old.lid else u8 p 65 == 1 }
    let d := (sha384 p).take 8
    ok (evdWrite 0x9041 0 (BitVec.ofNat 64 (leNat d)) (evF 0x9041 d (setTamper (fun t => { t with cfg := cfg }) s)))

/-- TMP_CONFIG_LOCK (R363). -/
def tmpConfigLock (c : Cmd) (s : State) : Res :=
  if tmpBad s then fail stWrongState s
  else if !c.payload.isEmpty then fail stInvalid s
  else if s.tamper.lock then ok s
  else ok (evdWrite 0x9042 0 0 (evF 0x9042 [] (setTamper (fun t => { t with lock := true }) s)))

/-- TMP_ALARM_CLEAR (R364): event and record 0x9040 carry the mask cleared. -/
def tmpAlarmClear (c : Cmd) (s : State) : Res :=
  let p := c.payload
  let m := BitVec.ofNat 32 (u32 p 0)
  let still := m &&& s.tamper.active
  if tmpBad s then fail stWrongState s
  else if p.length != 8 || !zeros p 3 5 then fail stInvalid s
  else
    let n := (clearable s m).toNat
    .done ⟨if still == 0 then stOk else stPartial, 0, le 4 n ++ le 4 still.toNat⟩
      (evdWrite 0x9040 0 (BitVec.ofNat 64 n) (evF 0x9040 (le 4 n) (latchedClear m s)))

/-- The header fields at offsets 4 to 31 of Table 15-7. -/
def evdHeader (s : State) : Bytes :=
  let e := s.tamper.evd
  le 4 e.recs.length ++ le64 s.boot.serial ++ le 4 ((e.recs.head?.map (·.seq)).getD 0) ++ le 4 e.dropped ++ pad 8 e.anchor

/-- EVD_STATUS_GET. -/
def evdStatusGet (c : Cmd) (s : State) : Res :=
  if !c.payload.isEmpty then fail stInvalid s
  else okWith (evdHeader s ++ le 4 s.tamper.evd.next ++ pad 8 s.tamper.evd.head ++ zb 8) s

/-- Bytes 0 to 63 + 32n of the export (Table 15-7). -/
def evdExport (scheme : Nat) (s : State) : Bytes :=
  let e := s.tamper.evd
  let fd := e.firstDrop.getD (0, false)
  le 4 0x45560001 ++ evdHeader s ++ le64 s.tsu.ns ++ le 8 s.tamper.rtc ++ le64 fd.1 ++ bit8 fd.2 ++ le 1 scheme ++
    le 2 (sigBytes scheme) ++ zb 4 ++ e.recs.flatMap (fun r => evdHead r ++ pad 8 r.chain)

/-- The exported records are removed: the chain of the last becomes the anchor, the dropped count 0; event and record
0x9043 (R368). -/
def evdTruncate (s : State) : State :=
  let e := s.tamper.evd
  let last := (e.recs.getLast?.map (·.seq)).getD 0
  let anchor := (e.recs.getLast?.map (·.chain)).getD e.anchor
  let s := setTamper (fun t => { t with evd := { e with
    recs := [], anchor := anchor, dropped := 0, firstDrop := none, fullRaised := false } }) s
  evdWrite 0x9043 0 (BitVec.ofNat 64 last) (evF 0x9043 (le 4 last) s)

/-- EVD_LOG_EXPORT (R368). -/
def evdLogExport (c : Cmd) (s : State) : Res :=
  let p := c.payload
  let scheme := u8 p 9
  let ldev := u8 p 8 == 1
  if s.boot.lc == 4 then fail stWrongState s
  else if p.length != 16 || 1 < u8 p 8 || scheme == 0 || 3 < scheme || 1 < u8 p 10 || !zeros p 11 5 || u64 p 0 % 8 != 0 then
    fail stInvalid s
  else if s.km.muzzled then fail stWrongState s
  else if noLdev s ldev scheme then fail stNotFound s
  else
    let s := rtcRun s
    let body := evdExport scheme s
    let n := s.tamper.evd.recs.length
    let out := body ++ idSign ldev scheme (ascii "PK3200-EVIDENCE" ++ body) s
    if !dmaRange (u64 p 0) out.length then fail stInvalid s
    else
      let s := dmaPut (u64 p 0) out s
      okWith (le 4 n ++ le 4 out.length) (if nbit (u8 p 10) 0 then evdTruncate s else s)

/-! ### Meanings -/

/-- ENTROPY_HEALTH_FAIL. -/
def execEntropyHealthFail (s : State) : Host.Outcome State Fault Refusal := .next (entropyFails s)
/-- ALARM_DETECTED. -/
def execAlarmDetected (alarm : Nat) (param : W64) (s : State) : Host.Outcome State Fault Refusal :=
  .next (alarmDetected alarm param s)
/-- ALARM_CONDITION_ENDED. -/
def execAlarmConditionEnded (alarm : Nat) (s : State) : Host.Outcome State Fault Refusal := .next (alarmEnded alarm s)
/-- TAMPER_SAMPLE. -/
def execTamperSample (item : TamperItem) (fails : Bool) (reading : Nat) (s : State) : Host.Outcome State Fault Refusal :=
  match item with
  | .item alarm index => .next (tamperSample alarm index fails reading s)
/-- SHADOW_MISMATCH. -/
def execShadowMismatch (group index : Nat) (otpStill : Bool) (s : State) : Host.Outcome State Fault Refusal :=
  .next (shadowMismatch group index otpStill s)
/-- POWER_TO_BATTERY. -/
def execPowerToBattery (s : State) : Host.Outcome State Fault Refusal := .next (toBattery s)
/-- POWER_FROM_BATTERY. -/
def execPowerFromBattery (s : State) : Host.Outcome State Fault Refusal := .next (fromBattery s)
/-- AON_POWER_LOSS. -/
def execAonPowerLoss (s : State) : Host.Outcome State Fault Refusal := .next (aonLoss s)
/-- AON_POWER_UP. -/
def execAonPowerUp (s : State) : Host.Outcome State Fault Refusal := .next (aonUp s)
/-- SEC_LOCK_SET: the CP writes SEC_CTRL.LOCK. -/
def execSecLockSet (s : State) : Host.Outcome State Fault Refusal :=
  .next (if cpRuns s then setTamper (fun t => { t with lock := true }) s else s)
/-- SEC_LATCHED_CLEAR: the CP writes SEC_ALARM_LATCHED. -/
def execSecLatchedClear (m : W32) (s : State) : Host.Outcome State Fault Refusal :=
  .next (if cpRuns s then latchedClear m s else s)
/-- TMP_STATUS_GET (0x0900). -/
def execTmpStatusGet (mb : Nat) (s : State) : Host.Outcome State Fault Refusal := .next (fcp 0x0900 mb tmpStatusGet s)
/-- TMP_CONFIG_GET (0x0901). -/
def execTmpConfigGet (mb : Nat) (s : State) : Host.Outcome State Fault Refusal := .next (fcp 0x0901 mb tmpConfigGet s)
/-- TMP_CONFIG_SET (0x0902). -/
def execTmpConfigSet (mb : Nat) (s : State) : Host.Outcome State Fault Refusal := .next (fcp 0x0902 mb tmpConfigSet s)
/-- TMP_CONFIG_LOCK (0x0903). -/
def execTmpConfigLock (mb : Nat) (s : State) : Host.Outcome State Fault Refusal := .next (fcp 0x0903 mb tmpConfigLock s)
/-- TMP_ALARM_CLEAR (0x0904). -/
def execTmpAlarmClear (mb : Nat) (s : State) : Host.Outcome State Fault Refusal := .next (fcp 0x0904 mb tmpAlarmClear s)
/-- EVD_STATUS_GET (0x0910). -/
def execEvdStatusGet (mb : Nat) (s : State) : Host.Outcome State Fault Refusal := .next (fcp 0x0910 mb evdStatusGet s)
/-- EVD_LOG_EXPORT (0x0911). -/
def execEvdLogExport (mb : Nat) (reads : List (Nat × Nat)) (s : State) : Host.Outcome State Fault Refusal :=
  .next (fcpOut 0x0911 mb reads evdLogExport s)

end Sys2Proof.Machine
end

