-- ==== Sys2Proof/Machine/Registers.lean ====
section
/-! DEFINITION. Writes of registers by address, in BAR0 and in the CP address map: each field acts under its access code and
its lock (R9, R11), and a field with a behaviour of its own calls it. DEDUCED: log entry 86. -/
namespace Sys2Proof.Machine

/-- Replace the bits `lo` to `lo + n - 1` of a number by those of a write. -/
def putBits (old lo n v : Nat) : Nat := old / 2 ^ (lo + n) * 2 ^ (lo + n) + v % 2 ^ n * 2 ^ lo + old % 2 ^ lo

/-! ### BAR0 (Tables 12-2 to 12-4, 16-4, 17-4, 18-2) -/

/-- The registers of a mailbox, by offset in its 32 bytes (Table 12-4). -/
def mbRegWrite (mb off : Nat) (v : W32) (s : State) : State :=
  if !mbThere mb s then s
  else match off with
    | 0x00 => mbDoorbell mb v s
    | 0x04 => modMb mb (fun m => { m with overrun := w1cb m.overrun (bitOf v 2) }) s
    | 0x08 => modMb mb (fun m => { m with irqEn := bitOf v 0, timeoutMs := BitVec.ofNat 16 (fld v 16 16) }) s
    | _ => s

/-- The HIF registers (Table 12-3). -/
def hifRegWrite (off : Nat) (v : W32) (s : State) : State :=
  if 0x100 ≤ off && off < 0x200 then mbRegWrite ((off - 0x100) / 0x20) (off % 0x20) v s
  else match off with
    | 0x010 => setHif (fun h => { h with irqStatus := w1c h.irqStatus (v.setWidth 14) }) s
    | 0x014 => setHif (fun h => { h with irqMask := v.setWidth 12 }) s
    | 0x020 => setHif (fun h => { h with
        smbAddr := rwl h.smbLock h.smbAddr (v.setWidth 7), smbLock := rwl h.smbLock h.smbLock (bitOf v 7) }) s
    | 0x040 => setHif (fun h => if h.nqEnable then h
        else { h with nqBase := BitVec.ofNat 64 (putBits h.nqBase.toNat 0 32 (v.toNat / 64 * 64)) }) s
    | 0x044 => setHif (fun h => { h with nqBase := BitVec.ofNat 64 (putBits h.nqBase.toNat 32 32 v.toNat) }) s
    | 0x048 => nqEnableWrite v s
    | 0x04C => nqHeadWrite v s
    | _ => s

/-- The registers of the event recorder (Table 16-4). -/
def evrRegWrite (off : Nat) (v : W32) (s : State) : State := match off with
  | 0x020 => setThresh (fld v 0 16) s
  | 0x108 => cursorAdvance 1 (fld v 0 16) s
  | 0x128 => cursorAdvance 2 (fld v 0 16) s
  | 0x10C => setEvr (fun e => { e with cur1 := { e.cur1 with lost := w1cb e.cur1.lost (bitOf v 0) } }) s
  | 0x12C => setEvr (fun e => { e with cur2 := { e.cur2 with lost := w1cb e.cur2.lost (bitOf v 0) } }) s
  | _ => s

/-- Replace bytes of the counter reader's list, from byte `off` of it on. -/
def listPut : Tab W32 → Nat → Bytes → Tab W32
  | t, _, [] => t
  | t, off, b :: bs => listPut (tmod 0 t (off / 4) (fun w => BitVec.ofNat 32 (putBits w.toNat (off % 4 * 8) 8 b.toNat))) (off + 1) bs

/-- The registers and the list of the counter reader (Table 17-4). -/
def crdRegWrite (off : Nat) (v : W32) (s : State) : State :=
  if 0x1000 ≤ off && off < 0x2000 then setCnt (fun c => { c with crdList := tset 0 c.crdList ((off - 0x1000) / 4) v }) s
  else match off with
    | 0x000 => crdCtrlWrite v s
    | 0x004 => setCnt (fun c => { c with crdCount := v.setWidth 11 }) s
    | 0x008 => setCnt (fun c => { c with
        crdDone := w1cb c.crdDone (bitOf v 1), crdInvalid := w1cb c.crdInvalid (bitOf v 2)
        crdOverrun := w1cb c.crdOverrun (bitOf v 3) }) s
    | _ => s

/-- A write of any length to the counter reader: the list takes any bytes, the registers one aligned word (R390). -/
def crdPut (off : Nat) (data : Bytes) (s : State) : State :=
  if 0x1000 ≤ off && off < 0x2000 then setCnt (fun c => { c with crdList := listPut c.crdList (off - 0x1000) data }) s
  else if off % 4 == 0 && data.length == 4 then crdRegWrite off (BitVec.ofNat 32 (leNat data)) s
  else s

/-- The registers of the meter (Table 18-2). -/
def mtrRegWrite (off : Nat) (v : W32) (s : State) : State :=
  if off < 0x20 then mbRegWrite 8 off v s
  else if off == 0x040 then setMtr (fun m => { m with changed := w1cb m.changed (bitOf v 4) }) s
  else s

/-- A 32-bit write at an offset of BAR0, one that is no boundary fault (Table 12-2). -/
def barRegWrite (addr : Nat) (v : W32) (s : State) : State :=
  if addr < 0x1000 then hifRegWrite addr v s
  else if addr < 0x11000 then
    if (addr - 0x1000) % 0x2000 < 0x1000 then
      mbRequestWrite ((addr - 0x1000) / 0x2000) ((addr - 0x1000) % 0x2000) (le 4 v.toNat) s
    else s
  else if addr / 0x10000 == 2 then (if addr % 4 == 0 then evrRegWrite (addr % 0x10000) v s else s)
  else if addr / 0x10000 == 3 then crdPut (addr % 0x10000) (le 4 v.toNat) s
  else if 0x50000 ≤ addr && addr < 0x50400 && addr % 4 == 0 then
    setHif (fun h => msixFlush (msixPut h ((addr - 0x50000) / 4) v)) s
  else if !(s.boot.meterFuse && s.mtr.powered) then s
  else if 0x80000 ≤ addr && addr < 0x81000 then (if addr % 4 == 0 then mtrRegWrite (addr - 0x80000) v s else s)
  else if 0x81000 ≤ addr && addr < 0x82000 then mbRequestWrite 8 (addr - 0x81000) (le 4 v.toNat) s
  else s

/-- The aligned words of a host write, one after another. -/
def barWords : List Bytes → Nat → State → State
  | [], _, s => s
  | b :: bs, addr, s => barWords bs (addr + 4) (barRegWrite addr (BitVec.ofNat 32 (leNat b)) s)

/-- A host write of any length that is no boundary fault: a request area and the counter reader's list take any bytes, the rest of
BAR0 aligned words, and the counter reader's registers one of them (R286, R390; log entry 146). -/
def barPut (addr : Nat) (data : Bytes) (s : State) : State :=
  if 0x1000 ≤ addr && addr < 0x11000 && (addr - 0x1000) % 0x2000 < 0x1000 then
    mbRequestWrite ((addr - 0x1000) / 0x2000) ((addr - 0x1000) % 0x2000) data s
  else if 0x81000 ≤ addr && addr < 0x82000 && s.boot.meterFuse && s.mtr.powered then mbRequestWrite 8 (addr - 0x81000) data s
  else if addr / 0x10000 == 3 then crdPut (addr % 0x10000) data s
  else if addr % 4 == 0 && data.length % 4 == 0 then barWords (pieces 4 (data.length / 4) data) addr s
  else s

/-- A host write of 1 to 128 bytes to BAR0, judged where the window is master 2's (R286, R287, R311). -/
def barWriteBytes (addr : Nat) (data : Bytes) (s : State) : State :=
  if !live s || data.isEmpty || 128 < data.length || 0x100000 < addr + data.length then s
  else
    let s := barSeen true s
    if barFault addr data.length then xbound addr true s
    else hifAccess addr data.length (barPut addr data) s

/-- A host write of 4 bytes to BAR0. -/
def barWrite (addr : Nat) (v : W32) (s : State) : State := barWriteBytes addr (le 4 v.toNat) s

/-! ### The CP address map (Table 13-2) -/

/-- A region register of the firewall: RWL, locked as well by the closing of the window (R317). -/
def fwlRegionWrite (off : Nat) (v : W32) (s : State) : State :=
  let n := (off - 0x100) / 0x10
  if (fwlRegion s n).lock || !s.prot.window then fwlIgnored off s
  else setProt (fun p => { p with regions := tmod .reset p.regions n (fun r => match off % 0x10 with
    | 0x0 => { r with base := putBits r.base 0 32 (v.toNat / 4096 * 4096) }
    | 0x4 => { r with base := putBits r.base 32 8 v.toNat }
    | _ => { r with enable := bitOf v 0, lock := bitOf v 1, size := BitVec.ofNat 6 (fld v 2 6),
                    perm := BitVec.ofNat 9 (fld v 8 9) }) }) s

/-- FWL (Table 13-4). -/
def fwlRegWrite (off : Nat) (v : W32) (s : State) : State :=
  if 0x100 ≤ off && off < 0x300 then (if off % 0x10 == 0xC then s else fwlRegionWrite off v s)
  else match off with
    | 0x000 => if !s.prot.window then fwlIgnored 0 s else if bitOf v 1 then windowClose s else s
    | 0x004 => setProt (fun p => { p with wrIgnored := w1cb p.wrIgnored (bitOf v 0) }) s
    | 0x018 => setProt (fun p => { p with
        fwlValid := w1cb p.fwlValid (bitOf v 0), fwlOverflow := w1cb p.fwlOverflow (bitOf v 1) }) s
    | _ => s

/-- The processor MPU (Table 13-5): regions 0 to 7 are RWL under MPU_CTRL.LOCK. -/
def mpuRegWrite (off : Nat) (v : W32) (s : State) : State :=
  if 0x100 ≤ off && off < 0x300 then
    let n := (off - 0x100) / 0x20
    if n < 8 && s.prot.mpuLock then s
    else setProt (fun p => { p with mpuRegions := tmod .reset p.mpuRegions n (fun r => match off % 0x20 with
      | 0x00 => { r with start := putBits r.start 0 32 (v.toNat / 32 * 32) }
      | 0x04 => { r with start := putBits r.start 32 8 v.toNat }
      | 0x08 => { r with fin := putBits r.fin 0 32 (v.toNat / 32 * 32) }
      | 0x0C => { r with fin := putBits r.fin 32 8 v.toNat }
      | 0x10 => { r with enable := bitOf v 0, perm := BitVec.ofNat 6 (fld v 1 6) }
      | _ => r) }) s
  else match off with
    | 0x000 => mpuCtrlWrite v s
    | 0x010 => setProt (fun p => { p with mpuValid := w1cb p.mpuValid (bitOf v 0) }) s
    | _ => s

/-- An operation code of CLS_TCU_CMD, staged or not. -/
def tcuOp (side : Nat) (stage : Bool) (op : Nat) (s : State) : State :=
  if stage then tcuStaged side op s
  else match op with
    | 1 => tcuStart side (tcuDtWrite false) s
    | 3 => tcuStart side (tcuXtInsert false) s
    | 4 => tcuStart side (tcuXtModify false) s
    | 5 => tcuStart side (tcuXtDelete false) s
    | 7 => tcuStart side (tcuPtWrite false) s
    | 9 => tcuStart side (tcuXtRemove false) s
    | _ => tcuStaged side op s

/-- The Table Command Unit of a side (Table 3-9). Of several commands in one write COMMIT acts before ABORT, and ABORT
before an operation (log entry 60). AGE_TICK and AGE_LIMIT take any value (log entry 103). -/
def clsRegWrite (side off : Nat) (v : W32) (s : State) : State :=
  if 0x040 ≤ off && off < 0x088 then setCls side (fun c => { c with data := tset 0 c.data ((off - 0x040) / 4) v }) s
  else match off with
    | 0x000 => if bitOf v 5 then tcuCommit side s else if bitOf v 6 then tcuAbort side s
        else tcuOp side (bitOf v 4) (fld v 0 4) s
    | 0x004 => setCls side (fun c => { c with
        doneBit := w1cb c.doneBit (bitOf v 1), overrun := w1cb c.overrun (bitOf v 2) }) s
    | 0x008 => setCls side (fun c => { c with argIndex := v.setWidth 16, argPort := BitVec.ofNat 8 (fld v 16 8) }) s
    | 0x014 => setCls side (fun c => { c with ageTick := v.setWidth 16, ageLimit := BitVec.ofNat 8 (fld v 16 8) }) s
    | _ => s

/-- MEAS_CTRL (Table 14-6): LOCK_LOW is W1S, and an extension started by the same write sees it. -/
def measCtrlWrite (v : W32) (s : State) : State :=
  let s := setBoot (fun b => { b with
    measIndex := v.setWidth 3, lockLow := w1sb b.lockLow (bitOf v 5), measIgnored := w1cb b.measIgnored (bitOf v 6) }) s
  if bitOf v 3 then measExtend (fld v 0 3) s else s

/-- The key manager: staging and measurement registers (Tables 7-9 and 14-6). Of WRAP and CLEAR in one write WRAP acts
(log entry 60). -/
def kmRegWrite (off : Nat) (v : W32) (s : State) : State :=
  if off < 0x02C then stgKeyWrite (off / 4) v s
  else if 0x1010 ≤ off && off < 0x1040 then setBoot (fun b => { b with measData := tset 0 b.measData ((off - 0x1010) / 4) v }) s
  else match off with
    | 0x030 => setStg (fun g => { g with suite := v.setWidth 3, saltValid := bitOf v 3, usage := BitVec.ofNat 2 (fld v 4 2) }) s
    | 0x034 => setStg (fun g => { g with target := v.setWidth 17 }) s
    | 0x038 => setStg (fun g => { g with lineage := v.setWidth 24 }) s
    | 0x03C => if bitOf v 0 then kmWrap (bitOf v 2) .staged s else if bitOf v 1 then kmClear s else s
    | 0x040 => setStg (fun g => { g with doneBit := w1cb g.doneBit (bitOf v 2), denied := w1cb g.denied (bitOf v 3) }) s
    | 0x1000 => measCtrlWrite v s
    | _ => s

/-- TOD_CTRL: of several commands in one write LOAD acts before STEP, STEP before SLEW, SLEW before SLEW_ABORT (log
entry 60). -/
def todCtrlWrite (v : W32) (s : State) : State :=
  if bitOf v 1 then todCtrl true (bitOf v 4) s
  else if bitOf v 0 then todCtrl false (bitOf v 4) s
  else if bitOf v 2 then todSlew s
  else if bitOf v 3 then todSlewAbort s
  else s

/-- The time-sync unit (Table 10-1). -/
def tsuRegWrite (off : Nat) (v : W32) (s : State) : State := match off with
  | 0x018 => setTsu (fun t => { t with incFrac := v }) s
  | 0x01C => todIncApply v s
  | 0x020 => setTsu (fun t => { t with adj := BitVec.ofNat 64 (putBits t.adj.toNat 0 32 v.toNat) }) s
  | 0x024 => setTsu (fun t => { t with adj := BitVec.ofNat 64 (putBits t.adj.toNat 32 32 v.toNat) }) s
  | 0x028 => todCtrlWrite v s
  | 0x02C => setTsu (fun t => { t with stepped := w1cb t.stepped (bitOf v 1), ppsEdge := w1cb t.ppsEdge (bitOf v 2) }) s
  | _ => s

/-- The port complex: the asymmetry registers (Table 10-1). -/
def pxRegWrite (off : Nat) (v : W32) (s : State) : State :=
  if 0x400 ≤ off && off < 0x504 then setPtp ((off - 0x400) / 4) (fun x => { x with asymRx := v }) s
  else if 0x600 ≤ off && off < 0x704 then setPtp ((off - 0x600) / 4) (fun x => { x with asymTx := v }) s
  else s

/-- SEC_ALARM_CFGa: RWL under SEC_CTRL.LOCK; a class outside the alarm's range leaves the class; a register at its safe
value keeps it (Table 15-4, R365). -/
def secCfgWrite (a : Nat) (v : W32) (s : State) : State :=
  let c := fld v 0 3
  if s.tamper.lock || s.tamper.safe.contains (1, a) then s
  else setTamper (fun t => { t with cfg := { t.cfg with alarms := (List.range 24).map (fun i =>
    let old := t.cfg.alarms.getD i (0, false)
    if i == a then (if alarmLow a ≤ c && c ≤ alarmTop a then c else old.1, bitOf v 3) else old) } }) s

/-- The security monitors (Table 15-4). -/
def secRegWrite (off : Nat) (v : W32) (s : State) : State :=
  if 0x100 ≤ off && off < 0x160 then secCfgWrite ((off - 0x100) / 4) v s
  else match off with
    | 0x004 => latchedClear v s
    | 0x00C => setTamper (fun t => { t with lock := w1sb t.lock (bitOf v 0) }) s
    | 0x010 => if s.tamper.lock || s.tamper.safe.contains (1, 24) then s
        else setTamper (fun t => { t with cfg := { t.cfg with loops := v.setWidth 4, lid := bitOf v 4 } }) s
    | _ => s

/-- The performance counters of a block, from its offset 0xF000 (Table 17-2). -/
def pmcRegWrite (k off : Nat) (v : W32) (s : State) : State :=
  let n := (off - 0xF000) / 8
  if off % 8 == 0 then pmcCfgWrite k n v s else pmcWrite k n v false s

/-- A 32-bit write at an aligned offset of peripheral block `k`. Offsets that the spec gives no register are discarded. -/
def blockWrite (k off : Nat) (v : W32) (s : State) : State :=
  if 0xF000 ≤ off && off < 0xF040 && pmcBlock k then pmcRegWrite k off v s
  else match k with
    | 0 => fwlRegWrite off v s
    | 1 => if off < 0x1000 then hifRegWrite off v s else s
    | 2 => clsRegWrite 0 off v s
    | 3 => clsRegWrite 1 off v s
    | 6 => kmRegWrite off v s
    | 9 => tsuRegWrite off v s
    | 10 => pxRegWrite off v s
    | 12 => secRegWrite off v s
    | 13 => evrRegWrite off v s
    | 14 => crdRegWrite off v s
    | _ => s

/-- A 32-bit write of the CP that both judges allow, in the register blocks and the MPU page (Tables 13-2 and 13-5). -/
def cpRegPut (addr : Nat) (v : W32) (s : State) : State :=
  if inMpuPage addr then mpuRegWrite (addr - 0xE0000000) v s
  else if inBlocks addr then blockWrite ((addr - 0x40000000) / 0x10000) (addr % 0x10000) v s
  else s

/-- A 32-bit write of the CP, judged as every access of it is (R311, R320; log entry 61). -/
def cpRegWrite (priv : Bool) (task addr : Nat) (v : W32) (s : State) : State :=
  if addr % 4 != 0 then s else cpAccess .write priv addr 4 task (cpRegPut addr v) s

/-- A write of the dword that holds Message Control of the MSI-X capability: bit 31 MSI-X Enable, bit 30 Function Mask
(Table 12-1, R304; log entry 126). -/
def msixCtrlWrite (v : W32) (s : State) : State :=
  if live s then setHif (fun h => msixFlush { h with msixEnable := bitOf v 31, msixFuncMask := bitOf v 30 }) s else s

/-- REGISTER_WRITE. -/
def execRegisterWrite (space : RegSpace) (addr : Nat) (value : W32) (s : State) : Host.Outcome State Fault Refusal :=
  match space with
  | .bar0 => .next (barWrite addr value s)
  | .bar0Data data => .next (barWriteBytes addr data s)
  | .cp priv task => .next (cpRegWrite priv task addr value s)
  | .msix => .next (msixCtrlWrite value s)

end Sys2Proof.Machine
end

