-- ==== Sys2Proof/Machine/Debug.lean ====
section
/-! DEFINITION. Reads of registers by address, in BAR0 and in the CP address map, as the access codes of Table 0-3 say
(R2, R4, R9, R11, R285, R286, R305, R312), and the debug port's memory accesses (R311 to R316, R323, R327 of
13_protection.md). -/
namespace Sys2Proof.Machine

/-- A number as a 32-bit register. -/
def reg32 (n : Nat) : W32 := BitVec.ofNat 32 n

/-- A 64-bit pair of the CP map: a read of _LO latches _HI, under the address of _LO (R286). -/
def pairLo (key : Nat) (v : W64) (s : State) : W32 × State :=
  (lo32 v, setHif (fun h => { h with latched := tset 0 h.latched key (hi32 v) }) s)
/-- The latched upper half. -/
def pairHi (key : Nat) (s : State) : W32 × State := (tget 0 s.hif.latched key, s)

/-! ### HIF, mailboxes, meter and summary (Tables 12-3, 12-4, 12-11, 18-2) -/

/-- The registers of a mailbox, by offset in its 32 bytes; a write-only bit and a reserved one read 0 (Table 12-4, R9,
R11). -/
def mbRegRead (mb off : Nat) (s : State) : W32 :=
  let m := getMb s mb
  match off with
  | 0x04 => reg32 (m.st.code + 4 * b2n m.overrun + 256 * m.completions.toNat)
  | 0x08 => reg32 (b2n m.irqEn + 65536 * m.timeoutMs.toNat)
  | 0x0C => m.tag.setWidth 32
  | _ => 0

/-- The HIF registers (Table 12-3); an offset without a register reads 0 (R286). -/
def hifRegRead (off : Nat) (s : State) : W32 × State :=
  let h := s.hif
  let b := s.boot
  if 0x100 ≤ off && off < 0x200 then (mbRegRead ((off - 0x100) / 0x20) (off % 0x20) s, s)
  else match off with
    | 0x000 => (reg32 (0x3200 + 65536 + 16777216 * b2n b.meterFuse + 33554432 * b2n b.gradeE), s)
    | 0x004 => (reg32 (b.agent + 16 * b.lcView + 128 * b2n b.zeroized), s)
    | 0x010 => (h.irqStatus.setWidth 32, s)
    | 0x014 => (h.irqMask.setWidth 32, s)
    | 0x018 => pairLo off h.xboundCnt s
    | 0x020 => (reg32 (h.smbAddr.toNat + 128 * b2n h.smbLock), s)
    | 0x040 => (lo32 h.nqBase, s)
    | 0x044 => (hi32 h.nqBase, s)
    | 0x048 => (reg32 (b2n h.nqEnable + 2 * h.nqSize.toNat + 256 * h.coalCount.toNat + 65536 * h.coalUs.toNat), s)
    | 0x04C => (h.nqHead.setWidth 32, s)
    | 0x050 => (reg32 (h.nqTail.toNat + 65536 * b2n h.nqPhase), s)
    | 0x058 => pairLo off h.nqLostCnt s
    | 0x060 => pairLo off h.authFailCnt s
    | 0x01C | 0x05C | 0x064 => pairHi (off - 4) s
    | _ => (0, s)

/-- The summary (Table 12-11). -/
def sumRead (off : Nat) (s : State) : W32 :=
  let b := s.boot
  match off with
  | 0x000 => reg32 (b.lcView + 8 * b2n b.zeroized + 16 * b2n s.km.muzzled + 32 * b2n b.meterFuse + 64 * b2n b.gradeE +
      128 * b2n s.tamper.lock)
  | 0x004 => s.tamper.active
  | 0x008 => s.tamper.latched
  | 0x00C => reg32 s.tamper.severity
  | 0x010 => reg32 (leNat (leInt 2 (sumTemp s)))
  | 0x014 => reg32 s.cnt.days
  | _ => 0

/-- The registers of the meter (Table 18-2). The meter PLL loses its lock while SYS_REFCLK fails, which is alarm 7's condition (R25, R406;
log entry 150). -/
def mtrRegRead (off : Nat) (s : State) : W32 × State :=
  let m := s.mtr
  if off < 0x20 then (mbRegRead 8 off s, s)
  else match off with
    | 0x040 => (reg32 (b2n (m.ready && !s.tamper.active.getLsbD 7) + 2 * m.st + 8 * b2n m.clockLost + 16 * b2n m.changed), s)
    | 0x044 => (reg32 m.life, s)
    | 0x048 => (m.gen, s)
    | 0x050 => pairLo 0x80050 m.authFail s
    | 0x054 => pairHi 0x80050 s
    | _ => (0, s)

/-! ### The CP address map -/

/-- The registers of the firewall (Table 13-4). -/
def fwlRegRead (off : Nat) (s : State) : Option (W32 × State) :=
  let p := s.prot
  if 0x020 ≤ off && off < 0x040 then
    let m := (off - 0x020) / 8
    some (if off % 8 == 0 then pairLo (blockBase 0 + off) (tget 0 p.denyCnt m) s else pairHi (blockBase 0 + off - 4) s)
  else if 0x100 ≤ off && off < 0x300 then
    let r := fwlRegion s ((off - 0x100) / 0x10)
    match off % 0x10 with
    | 0x0 => some (reg32 (r.base % 2 ^ 32), s)
    | 0x4 => some (reg32 (r.base / 2 ^ 32), s)
    | 0x8 => some (reg32 (b2n r.enable + 2 * b2n r.lock + 4 * r.size.toNat + 256 * r.perm.toNat), s)
    | _ => none
  else match off with
    | 0x000 => some (reg32 (b2n p.window), s)
    | 0x004 => some (reg32 (b2n p.wrIgnored), s)
    | 0x010 => some (reg32 (p.fwlAddr % 2 ^ 32), s)
    | 0x014 => some (reg32 (p.fwlAddr / 2 ^ 32), s)
    | 0x018 => some (reg32 (b2n p.fwlValid + 2 * b2n p.fwlOverflow + 4 * p.fwlMaster + 16 * p.fwlAccess +
        64 * p.fwlCause + 512 * p.fwlSize), s)
    | _ => none

/-- The Table Command Unit of a side (Table 3-9). -/
def clsRegRead (side off : Nat) (s : State) : Option W32 :=
  let c := clsOf s side
  if 0x040 ≤ off && off < 0x088 then some (tget 0 c.data ((off - 0x040) / 4))
  else match off with
    | 0x000 => some 0
    | 0x004 => some (reg32 (b2n c.busy + 2 * b2n c.doneBit + 4 * b2n c.overrun + 16 * c.code + 256 * c.moves +
        1024 * b2n c.stashed))
    | 0x008 => some (reg32 (c.argIndex.toNat + 65536 * c.argPort.toNat))
    | 0x00C => some c.loc
    | 0x010 => some (reg32 (c.staging.length + 512 * b2n c.committed))
    | 0x014 => some (reg32 (c.ageTick.toNat + 65536 * c.ageLimit.toNat))
    | _ => none

/-- The measurement and life-cycle registers (Table 14-6). -/
def measRegRead (off : Nat) (s : State) : Option W32 :=
  let b := s.boot
  if 0x1010 ≤ off && off < 0x1040 then some 0
  else if 0x1100 ≤ off && off < 0x1300 then
    (if off % 0x40 < 0x30 then
      some (reg32 (u32 (pad 48 (tget [] b.meas ((off - 0x1100) / 0x40))) (off % 0x40)))
    else none)
  else match off with
    | 0x1000 => some (reg32 (b.measIndex.toNat + 16 * b2n b.measBusy.isSome + 32 * b2n b.lockLow + 64 * b2n b.measIgnored))
    | 0x1400 => some (reg32 (b.lc + 8 * b2n b.zeroized + 16 * b2n (b.ownerScheme != 0) + 256 * b.revoked.toNat))
    | 0x1404 => some (reg32 (b.svn + 256 * b.transitions))
    | _ => none

/-- The time-sync unit (Table 10-1): a read of TOD_FRAC latches the others. -/
def tsuRegRead (off : Nat) (s : State) : Option (W32 × State) :=
  let t := s.tsu
  match off with
  | 0x000 => some (lo32 t.latched, s)
  | 0x004 => some (hi32 t.latched, s)
  | 0x008 => some (t.frac, setTsu (fun t => { t with latched := t.ns, latchedFrac := t.frac }) s)
  | 0x00C => some (reg32 (t.latched.toNat / 1000000000 % 2 ^ 32), s)
  | 0x010 => some (reg32 (t.latched.toNat / 1000000000 / 2 ^ 32), s)
  | 0x014 => some (reg32 (t.latched.toNat % 1000000000), s)
  | 0x018 => some (t.incFrac, s)
  | 0x01C => some (t.incNs.setWidth 32, s)
  | 0x020 => some (lo32 t.adj, s)
  | 0x024 => some (hi32 t.adj, s)
  | 0x028 => some (0, s)
  | 0x02C => some (reg32 (mask [t.slew != 0, t.stepped, t.ppsEdge, t.ref10m, t.ppsOk, t.timeSet, t.armed.isSome]), s)
  | 0x030 => some (BitVec.ofInt 32 (t.slew.tdiv 4294967296), s)
  | _ => none

/-- The asymmetry registers (Table 10-1). -/
def pxRegRead (off : Nat) (s : State) : Option W32 :=
  if 0x400 ≤ off && off < 0x504 then some (ptpPort s ((off - 0x400) / 4)).asymRx
  else if 0x600 ≤ off && off < 0x704 then some (ptpPort s ((off - 0x600) / 4)).asymTx
  else none

/-- The security monitors (Table 15-4). -/
def secRegRead (off : Nat) (s : State) : Option W32 :=
  let t := s.tamper
  if 0x100 ≤ off && off < 0x160 then
    let a := (off - 0x100) / 4
    some (reg32 (alarmClass s a + 8 * b2n (t.cfg.alarms.getD a (0, false)).2))
  else if 0x200 ≤ off && off < 0x280 then some (tget 0 t.cnt ((off - 0x200) / 4))
  else match off with
    | 0x000 => some t.active
    | 0x004 => some t.latched
    | 0x008 => some (reg32 t.severity)
    | 0x00C => some (reg32 (b2n t.lock + 2 * b2n t.onBattery))
    | 0x010 => some (reg32 ((loopsInForce s).toNat + 16 * b2n (lidInForce s)))
    | _ => none

/-- A record's bytes (Table 16-1). -/
def recBytes (r : Rec) : Bytes :=
  pad r.size (le 2 r.size ++ le 2 r.code ++ le 1 r.params.length ++ le 1 (mask [r.opn, r.notSet, r.fw]) ++ le 2 r.rep ++
    le 8 r.seq ++ le64 r.first ++ le64 r.last ++ r.params)

/-- The stream of records from a cursor's on (R379). -/
def apertureBytes (e : Evr) (c : Cursor) : Bytes :=
  (e.ring.filter (fun r => decide (c.seq ≤ r.seq))).flatMap recBytes

/-- The event recorder, its registers and its two apertures (Table 16-4, R379). -/
def evrRegRead (off : Nat) (s : State) : Option (W32 × State) :=
  let e := s.evr
  if 0x8000 ≤ off then
    some (reg32 (u32 (apertureBytes e (if off < 0xC000 then e.cur1 else e.cur2)) (off % 0x4000)), s)
  else
    let lo (v : W64) : Option (W32 × State) := some (pairLo (0x20000 + off) v s)
    let hi : Option (W32 × State) := some (pairHi (0x20000 + off - 4) s)
    let c := cursorOf e ((off - 0x100) / 0x20 + 1)
    match off with
    | 0x000 => some (reg32 (b2n ((e.ring.getLast?.map (·.opn)).getD false) + 2 * b2n e.wrapped), s)
    | 0x008 => lo (BitVec.ofNat 64 (evrOldest e))
    | 0x00C => hi
    | 0x010 => lo (BitVec.ofNat 64 e.next)
    | 0x014 => hi
    | 0x018 => some (reg32 (evrUsed e), s)
    | 0x020 => some (e.thresh.setWidth 32, s)
    | 0x100 | 0x120 => lo (BitVec.ofNat 64 c.seq)
    | 0x104 | 0x124 => hi
    | 0x108 | 0x128 => some (0, s)
    | 0x10C | 0x12C => some (reg32 (b2n c.lost), s)
    | 0x110 | 0x130 => some (reg32 (evrPend e c), s)
    | 0x118 | 0x138 => lo c.lostCnt
    | 0x11C | 0x13C => hi
    | _ => none

/-- The counter reader, its list and its results (Table 17-4). -/
def crdRegRead (off : Nat) (s : State) : Option (W32 × State) :=
  let c := s.cnt
  if 0x1000 ≤ off && off < 0x2000 then some (tget 0 c.crdList ((off - 0x1000) / 4), s)
  else if 0x2000 ≤ off && off < 0x4000 then
    let v := tget 0 c.crdResult ((off - 0x2000) / 8)
    some (if off % 8 == 0 then lo32 v else hi32 v, s)
  else match off with
    | 0x000 => some (0, s)
    | 0x004 => some (c.crdCount.setWidth 32, s)
    | 0x008 => some (reg32 (mask [c.crdBusy, c.crdDone, c.crdInvalid, c.crdOverrun]), s)
    | 0x00C => some (reg32 c.crdInvalidIdx, s)
    | 0x010 => some (pairLo 0x30010 c.crdTod s)
    | 0x014 => some (pairHi 0x30010 s)
    | 0x018 => some (reg32 c.crdDuration, s)
    | _ => none

/-- A performance counter's registers; an enabled one has gone on (Table 17-2, log entry 59). -/
def pmcRegRead (k off : Nat) (s : State) : W32 × State :=
  let n := (off - 0xF000) / 8
  let s := pmcSettle k n s
  (if off % 8 == 0 then reg32 (pmcCfg (pmcOf s k n)) else (pmcOf s k n).value, s)

/-- A 32-bit read at an aligned offset of peripheral block `k`, none at an offset that the spec gives no register. The
key staging page is not here: no master but the CP reads it (R313, R327). -/
def blockRead (k off : Nat) (s : State) : Option (W32 × State) :=
  if 0xF000 ≤ off && off < 0xF040 && pmcBlock k then some (pmcRegRead k off s)
  else match k with
    | 0 => fwlRegRead off s
    | 1 => if off < 0x1000 then some (hifRegRead off s) else none
    | 2 => (clsRegRead 0 off s).map (fun v => (v, s))
    | 3 => (clsRegRead 1 off s).map (fun v => (v, s))
    | 6 => (measRegRead off s).map (fun v => (v, s))
    | 9 => tsuRegRead off s
    | 10 => (pxRegRead off s).map (fun v => (v, s))
    | 12 => (secRegRead off s).map (fun v => (v, s))
    | 13 => evrRegRead off s
    | 14 => crdRegRead off s
    | _ => none

/-! ### Reads of BAR0 (Table 12-2, R286, R287) -/

/-- An aligned word of the meter range of BAR0: all zero without its fuse, its power, and from offset 0x3000 on (R2, R409; log
entry 129). -/
def mtrRead (addr : Nat) (s : State) : W32 × State :=
  if !(s.boot.meterFuse && s.mtr.powered) then (0, s)
  else if addr < 0x81000 then mtrRegRead (addr - 0x80000) s
  else if addr < 0x82000 then (reg32 (leNat (bufRead s.mtr.mb.req (addr - 0x81000) 4)), s)
  else if addr < 0x83000 then (reg32 (leNat (bufRead s.mtr.mb.resp (addr - 0x82000) 4)), s)
  else (0, s)

/-- An aligned word of the MSI-X table and the pending bit array (Table 12-2). -/
def msixRead (off : Nat) (s : State) : W32 :=
  if off < 0x400 then msixWord s.hif (off / 4)
  else if off == 0x1000 then lo32 s.hif.msixPending
  else if off == 0x1004 then hi32 s.hif.msixPending
  else 0

/-- An aligned word of BAR0; an offset without a register reads 0 (Table 12-2, R9, R286). -/
def barWord (addr : Nat) (s : State) : W32 × State :=
  if addr < 0x1000 then hifRegRead addr s
  else if addr < 0x11000 then
    let m := getMb s ((addr - 0x1000) / 0x2000)
    (reg32 (leNat (bufRead (if (addr - 0x1000) % 0x2000 < 0x1000 then m.req else m.resp) (addr % 0x1000) 4)), s)
  else if addr / 0x10000 == 2 then (evrRegRead (addr % 0x10000) s).getD (0, s)
  else if addr / 0x10000 == 3 then (crdRegRead (addr % 0x10000) s).getD (0, s)
  else if addr / 0x1000 == 0x40 then (sumRead (addr % 0x1000) s, s)
  else if addr / 0x10000 == 5 then (msixRead (addr % 0x10000) s, s)
  else if addr / 0x4000 == 0x20 then mtrRead addr s
  else (0, s)

/-- `n` aligned words of BAR0, one after another. -/
def barWordBytes : Nat → Nat → State → Bytes × State
  | 0, _, s => ([], s)
  | n + 1, addr, s =>
    let r := barWord addr s
    let t := barWordBytes n (addr + 4) r.2
    (le 4 r.1.toNat ++ t.1, t.2)

/-- An access that the counter reader's registers do not accept: they take naturally aligned 32-bit ones alone (R390). -/
def crdRefuses (addr size : Nat) : Bool :=
  spans addr 0x30000 0x10000 && !(spans (addr % 0x10000) 0x1000 0x3000) && !(addr % 4 == 0 && size == 4)

/-- The bytes of a host read that is no boundary fault and not denied: those of the aligned words that hold them (R286, R379,
R390; log entry 146). -/
def barBytes (addr size : Nat) (s : State) : Bytes × State :=
  if crdRefuses addr size then (zb size, s)
  else
    let r := barWordBytes ((addr % 4 + size + 3) / 4) (addr / 4 * 4) s
    (sub r.1 (addr % 4) size, r.2)

/-- A host read of 1 to 128 bytes of BAR0, judged as master 2 in the windows: the data it completes with, none for a Completer
Abort or a read that does not reach BAR0 (R286, R287, R311, R315). -/
def barRead (addr size : Nat) (s : State) : Option Bytes × State :=
  if !live s || size == 0 || 128 < size || 0x100000 < addr + size then (none, s)
  else
    let s := barSeen false s
    if barFault addr size then (none, xbound addr false s)
    else
      let c := (windowCp addr).elim 0 (fun w => fwlJudge s mHif w size 0)
      if c != 0 then (none, fwlDeny mHif ((windowCp addr).getD 0) size 0 c s)
      else
        let r := barBytes addr size s
        (some r.1, r.2)

/-- COUNTER_LO_READ: a host read of BAR0. A read of a _LO half latches the _HI half of the same cycle (R286; log entry 146). -/
def counterLoRead (addr size : Nat) (s : State) : State :=
  let r := barRead addr size s
  setHif (fun h => { h with readData := r.1 }) r.2

/-- COUNTER_LO_READ. -/
def execCounterLoRead (addr size : Nat) (s : State) : Host.Outcome State Fault Refusal := .next (counterLoRead addr size s)

/-! ### Memory and the debug port -/

/-! ### Reads of the CP's own pages (Tables 7-9 and 13-5) -/

/-- The MPU registers, private to the CP (Table 13-5). -/
def mpuRegRead (off : Nat) (s : State) : W32 × State :=
  let p := s.prot
  if 0x100 ≤ off && off < 0x300 then
    let r := mpuRegion s ((off - 0x100) / 0x20)
    (match off % 0x20 with
      | 0x00 => reg32 (r.start % 2 ^ 32)
      | 0x04 => reg32 (r.start / 2 ^ 32)
      | 0x08 => reg32 (r.fin % 2 ^ 32)
      | 0x0C => reg32 (r.fin / 2 ^ 32)
      | 0x10 => reg32 (b2n r.enable + 2 * r.perm.toNat)
      | _ => 0, s)
  else match off with
    | 0x000 => (reg32 (b2n p.mpuEnable + 2 * b2n p.privdef + 4 * b2n p.mpuLock), s)
    | 0x008 => (reg32 (p.mpuAddr % 2 ^ 32), s)
    | 0x00C => (reg32 (p.mpuAddr / 2 ^ 32), s)
    | 0x010 => (reg32 (b2n p.mpuValid + 2 * b2n p.mpuPriv + 4 * p.mpuAccess + 16 * p.mpuCause), s)
    | 0x018 => pairLo (0xE0000000 + off) p.mpuCntP s
    | 0x020 => pairLo (0xE0000000 + off) p.mpuCntU s
    | 0x01C | 0x024 => pairHi (0xE0000000 + off - 4) s
    | _ => (0, s)

/-- The key staging page: what is WO-K or WO reads 0 (Table 7-9, R9). -/
def stgRegRead (off : Nat) (s : State) : W32 :=
  let g := s.km.stg
  match off with
  | 0x030 => reg32 (g.suite.toNat + 8 * b2n g.saltValid + 16 * g.usage.toNat + 256 * g.source)
  | 0x034 => g.target.setWidth 32
  | 0x038 => g.lineage.setWidth 32
  | 0x040 => reg32 (mask [g.loaded, g.busy, g.doneBit, g.denied] + 16 * g.code + 256 * g.gen.toNat)
  | _ => 0

/-- A 32-bit read of the CP that both judges allow, in the register blocks and the MPU page; none at an offset that the spec
gives no register. -/
def cpRegRead (addr : Nat) (s : State) : Option (W32 × State) :=
  let k := (addr - 0x40000000) / 0x10000
  if inMpuPage addr then some (mpuRegRead (addr - 0xE0000000) s)
  else if !inBlocks addr then none
  else if k == 6 && addr % 0x10000 < 0x1000 then some (stgRegRead (addr % 0x10000) s, s)
  else blockRead k (addr % 0x10000) s

/-- Four bytes the spec does not give (log entry 43). -/
def freeWord (s : State) : Bytes × State :=
  let r := drawFree 43 s
  (le 4 r.1.toNat, r.2)

/-- The aligned word at an address of the CP map. -/
def wordRead (w : Nat) (s : State) : Bytes × State :=
  if inRom w then ((List.range 4).map (fun i => Config.romByte (w + i)), s)
  else if inSram w || inDram w then (bufRead s.prot.mem w 4, s)
  else if inBlocks w then
    match blockRead ((w - 0x40000000) / 0x10000) (w % 0x10000) s with
    | some r => (le 4 r.1.toNat, r.2)
    | none => freeWord s
  else if inFlash w then
    let r := freeWord s
    ((List.range 4).map (fun i => (flashByte s.boot (w - 0x100000000 + i)).getD (r.1.getD i 0)), r.2)
  else freeWord s

/-- `n` words from an aligned address on. -/
def wordsRead : Nat → Nat → State → Bytes × State
  | 0, _, s => ([], s)
  | n + 1, w, s =>
    let r := wordRead w s
    let t := wordsRead n (w + 4) r.2
    (r.1 ++ t.1, t.2)

/-- The bytes of a read, from the aligned words that hold them. -/
def cpRead (addr size : Nat) (s : State) : Bytes × State :=
  let r := wordsRead ((addr % 4 + size + 3) / 4) (addr / 4 * 4) s
  (sub r.1 (addr % 4) size, r.2)

/-- A register write takes effect whoever makes it, though the CP stands halted. -/
def asCp (f : State → State) (s : State) : State :=
  let halted := s.boot.agent == 3
  let t := f { s with
    prot := { s.prot with dapHalted := false }, boot := { s.boot with agent := if halted then 0 else s.boot.agent } }
  { t with
    prot := { t.prot with dapHalted := s.prot.dapHalted }, boot := { t.boot with agent := if halted then 3 else t.boot.agent } }

/-- The aligned words of a register access, written one after another. -/
def wordsWrite : List Bytes → Nat → State → State
  | [], _, s => s
  | b :: bs, w, s =>
    wordsWrite bs (w + 4) (blockWrite ((w - 0x40000000) / 0x10000) (w % 0x10000) (BitVec.ofNat 32 (leNat b)) s)

/-- The bytes of a write: memory takes them, registers take whole aligned words; the flash window takes none (log
entry 62). -/
def cpWrite (addr : Nat) (data : Bytes) (s : State) : State :=
  if inSram addr || inDram addr then setProt (fun p => { p with mem := bufWrite p.mem addr data }) s
  else if inBlocks addr && addr % 4 == 0 && data.length % 4 == 0 then
    asCp (wordsWrite (pieces 4 (data.length / 4) data) addr) s
  else s

/-- DAP_ACCESS: an access of 1 to 128 bytes is judged as master 3; one that is allowed reads or writes (R323, R314,
R315). -/
def dapAccess (write : Bool) (addr size : Nat) (data : Bytes) (s : State) : State :=
  if !live s || size == 0 || 128 < size || 2 ^ 40 < addr + size then s
  else
    let c := fwlJudge s mDap addr size (b2n write)
    if c != 0 then dapError (fwlDeny mDap addr size (b2n write) c s)
    else if write then setProt (fun p => { p with dapData := some [] }) (cpWrite addr (pad size data) s)
    else
      let r := cpRead addr size s
      setProt (fun p => { p with dapData := some r.1 }) r.2

/-- DAP_ACCESS. -/
def execDapAccess (write : Bool) (addr size : Nat) (data : Bytes) (s : State) : Host.Outcome State Fault Refusal :=
  .next (dapAccess write addr size data s)

end Sys2Proof.Machine
end

