-- ==== Sys2Proof/Machine/Slices.lean ====
section
/-! DEFINITION. The units of the cipher slices, the pre-roll engines and the hot set, and their commands
(05_cipher_slices.md, R116 to R142); the device-wide knobs (01_architecture.md, R19 to R24). DEDUCED: log entry 77. -/
namespace Sys2Proof.Machine

/-! ### Units (R124, R134, R135) -/

/-- The faults of the last 1 s of TOD (R135). -/
def recentFaults (s : State) (u : Nat) : List W64 :=
  (unitOf s u).faults.filter (fun t => !reached s.tsu.ns (t + 1000000000))

/-- The hot entries an engine serves: its own, and those before it whose SC is on an 800GbE port (R127). -/
def engineServes (s : State) (eng i : Nat) : Bool :=
  i % 8 == eng ||
    ((i + 1) % 8 == eng && (match hotOf s i with
      | some h => ((saOf s h.sah).bind (fun a => scOf s a.sch)).any (fun c => portRate s c.port == 800)
      | none => false))

/-- An engine's heads are discarded and counted; the entries stay hot (R134). -/
def engineDiscard (eng : Nat) (s : State) : State :=
  (s.slices.hot.map (·.1)).foldl (fun t i =>
    match hotOf t i with
    | some h =>
      if engineServes t eng i then headsLapse h.sah (setHot i (some { h with h1 := .empty, h2 := .empty }) (discardHeads h t)) else t
    | none => t) s

/-- A slice is free from now on: it goes last in the longest-free order (R117). -/
def freeLast (u : Nat) (s : State) : State :=
  if 16 ≤ u then s else setGroup (u / 8) (fun g => { g with freeOrder := g.freeOrder.erase u ++ [u] }) s

/-- A unit, or its pair, holds a frame: in its slice or in its hold buffer. -/
def unitHolds (u : Nat) (f : Frame) : Bool :=
  inUnit f && (f.unit == some u || (f.pair && u % 2 == 1 && f.unit == some (u - 1)))

/-- SLICE_FAULT: the frames in the unit and in its hold buffer are ended, an engine's heads are discarded, the unit enters RESET
(R134, R135). -/
def sliceFault (u cause : Nat) (s : State) : State :=
  if !live s || 24 ≤ u || cause == 0 || 4 < cause || !inService s u then s
  else
    let s := holdSettle s
    let s := (framesWith s (unitHolds u)).foldl (fun t id => abortFrame id (some u) t) s
    let s := if 16 ≤ u then engineDiscard (u - 16) s else stallDrain (u / 8) s
    let s := setUnit u (fun x =>
      { unitClear x with st := .reset, faultCnt := x.faultCnt + 1, faults := recentFaults s u ++ [s.tsu.ns] }) s
    let s := evH 0x0201 (le 1 u ++ le 1 cause) (unitReseed u s)
    if u < 16 then pairsCheck (u / 8) s else s

/-- UNIT_RESET_END: 64 CCLK after RESET, back to service, or QUARANTINED at the third fault within 1 s (R135). -/
def unitResetEnd (u : Nat) (s : State) : State :=
  if !live s || (unitOf s u).st != .reset then s
  else if 3 ≤ (recentFaults s u).length then
    evH 0x0202 (le 1 u) (setUnit u (fun x => { x with st := .quarantined, restoring := false }) s)
  else
    let back := (unitOf s u).restoring
    let s := freeLast u (setUnit u (fun x => { x with st := .inService, restoring := false }) s)
    if back then evH 0x0203 (le 1 u) s else s

/-- The blocks an entry still wants on its next-PN head and on its second-PN head (R128). -/
def headShort (s : State) (h : Hot) : Nat × Nat :=
  match saOf s h.sah with
  | none => (0, 0)
  | some a =>
    let t1 := headTarget a (saSpeed s a)
    let n := h.h1.blocks.length
    (t1 - n, Nat.min t1 (48 - Nat.max t1 n) - h.h2.blocks.length)

/-- An engine is in the middle of a head: one that it has begun wants more blocks (R124). -/
def engineMid (s : State) (eng : Nat) : Bool :=
  s.slices.hot.any (fun e => e.2.any (fun h =>
    let r := headShort s h
    (r.1 != 0 && h.h1.work.any (·.eng == eng)) || (r.2 != 0 && h.h2.work.any (·.eng == eng))))

/-- MASK_RESEED: the reseed due every 2^24 CCLK; a unit at a frame or a head reseeds at the next boundary (R124, Table 5-7). -/
def maskReseed (u : Nat) (s : State) : State :=
  if !live s || 24 ≤ u || (unitOf s u).st == .stopped then s
  else
    let s := setUnit u (fun x => { x with reseedDue := true }) s
    if (unitOf s u).frame.isSome || (decide (16 ≤ u) && engineMid s (u - 16)) then s else unitBoundary u s

/-- A unit whose mask generator has repeated a word is at fault, cause 3 (R124, R134). -/
def maskTest (u : Nat) (s : State) : State := if (unitOf s u).repeated then sliceFault u 3 s else s

/-- A stopped unit returns to the state it remembers, RESET taken as IN_SERVICE: one that was being restored is back in
service (Table 5-6, R140). -/
def unitResume (u : Nat) (s : State) : State :=
  let x := unitOf s u
  if x.st != .stopped then s
  else
    let s := setUnit u (fun x => { x with st := x.prior, restoring := false }) s
    if x.restoring then evH 0x0203 (le 1 u) s else s

/-- SERVICE_RESUME: ENTROPY_FAIL is cleared, the start-up tests have passed and the DRBG has reseeded; every unit
reseeds and returns to its state, and ports leave BLOCKED (R126). -/
def serviceResume (s : State) : State :=
  if !live s || !s.slices.entropyFail || s.tamper.latched.getLsbD 13 then s
  else
    let s := (List.range 24).foldl (fun t u => unitReseed u (unitResume u t)) s
    evH 0x0205 [0xFF] { s with slices := { s.slices with entropyFail := false } }

/-! ### Clock gating (R20) -/

/-- The slices of a group that clock gating leaves running. -/
def ungated (s : State) (g : Nat) : List Nat := (groupUnits g).filter (fun u => inService s u && !(unitOf s u).gated)

/-- How many slices of a direction stay ungated (Table 1-5). -/
def keepUngated (s : State) : Nat := match s.profile.gating with
  | 1 => 2 | 2 => 1 | _ => 8

/-- CLOCK_GATING_IDLE_EXPIRY: an idle unit is gated, subject to the minimum of ungated slices (R20). -/
def gatingExpiry (u : Nat) (s : State) : State :=
  if !live s || 24 ≤ u || s.profile.gating == 0 || !inService s u || (unitOf s u).gated || (unitOf s u).frame.isSome
    || (decide (u < 16) && decide ((ungated s (u / 8)).length ≤ keepUngated s)) then s
  else setUnit u (fun x => { x with gated := true }) s

/-- A group has at least the ungated slices its knob asks for: gated ones wake, lowest first. -/
def gatingKeep (g : Nat) (s : State) : State :=
  (groupUnits g).foldl (fun t u =>
    if (unitOf t u).gated && decide ((ungated t g).length < keepUngated t) then
      setUnit u (fun x => { x with gated := false }) t
    else t) s

/-- The clock gating knob takes effect at once (R24): OFF wakes every unit. -/
def gatingApply (s : State) : State :=
  if s.profile.gating == 0 then (List.range 24).foldl (fun t u => setUnit u (fun x => { x with gated := false }) t) s
  else gatingKeep 1 (gatingKeep 0 s)

/-! ### Pre-roll (R127 to R131) -/

/-- An engine begins its work on a head: a head boundary, at which it takes the masking mode in force and, in FRAME, the mask set
of its work on the head (R123, R124). -/
def headBegin (u : Nat) (s : State) : HeadWork × State :=
  let s := setUnit u (fun x => maskBegin { x with maskFull := s.profile.maskFull }) (unitBoundary u s)
  let x := unitOf s u
  (⟨u - 16, x.maskFull, x.maskSet.getD x.maskAt⟩, s)

/-- The masks of an engine's next issue on a head, in the mode of its work there: in FULL they are fresh (R123). -/
def headMasks (u n : Nat) (w : HeadWork) (s : State) : HeadWork × State :=
  let s := setUnit u (fun x => maskUse n { x with maskFull := w.full, maskSet := some w.set }) s
  ({ w with set := ((unitOf s u).maskSet).getD w.set }, s)

/-- A head with `n` more blocks of the keystream of an IV, each split under the engine's masks: block 0 is the tag mask, block j
the j-th data block (R127, R130). -/
def headGrow (w : HeadWork) (x : Slot) (iv : Bytes) (n : Nat) (h : Head) : Head :=
  let m := maskBytes w.set.key w.set.pos 576
  { blocks := h.blocks ++ (List.range n).map (fun i =>
      let j := h.blocks.length + i
      Shares.split (sub m (16 * (j % 36)) 16) (aesRk (rksOf x.roundKeys) (gcmBlock iv (j + 1))))
    work := if h.work.any (·.eng == w.eng) then h.work.map (fun y => if y.eng == w.eng then w else y) else h.work ++ [w] }

/-- The second head keeps what 48 blocks leave it; what it loses is discarded (R128; log entry 125). -/
def headTrim (i : Nat) (s : State) : State :=
  match hotOf s i with
  | none => s
  | some h =>
    let most := 48 - h.h1.blocks.length
    let lost := h.h2.blocks.length - most
    setHot i (some { h with h2 := if most == 0 then .empty else { h.h2 with blocks := h.h2.blocks.take most } })
      { s with slices := { s.slices with discardBlk := s.slices.discardBlk + BitVec.ofNat 64 lost } }

/-- Engine unit `u` issues up to 2 blocks of an entry's next-PN head, or of its second one (R123, R127, R131). A head it completes
is a head boundary (R124). -/
def headIssue (u i : Nat) (second : Bool) (s : State) : State :=
  match hotOf s i with
  | none => s
  | some h => match saOf s h.sah, slotBy s h.sah with
    | some a, some k =>
      let x := slotOf s k
      let old := if second then h.h2 else h.h1
      let n := Nat.min 2 (if second then (headShort s h).2 else (headShort s h).1)
      let sci := ((scOf s a.sch).map (·.sci)).getD 0
      let iv := frameIv x.suite sci a.ssci (a.next + b2n second) x.salt
      let b := match old.work.find? (·.eng + 16 == u) with
        | some w => (w, s)
        | none => headBegin u s
      let r := headMasks u n b.1 b.2
      let new := headGrow r.1 x iv n old
      let last := (new.blocks.getLast?).getD Shares.none
      let s := setUnit u (fun e => { unitLoad x e with gated := false, aes := last, keystream := last }) r.2
      let s := occur 4 6 0 n (headTrim i (setHot i (some (if second then { h with h2 := new } else { h with h1 := new })) s))
      maskTest u (if engineMid s (u - 16) then s else unitBoundary u s)
    | _, _ => s

/-- The entry an engine serves that is shortest by a measure; the lowest index on a tie (R131). -/
def shortest (s : State) (eng : Nat) (f : Nat × Nat → Nat) : Option Nat :=
  (s.slices.hot.filterMap (fun e => match e.2 with
    | some h => if engineServes s eng e.1 then some (e.1, f (headShort s h)) else none
    | none => none)).foldl (fun (b : Option (Nat × Nat)) e =>
      match b with
      | none => if e.2 == 0 then none else some e
      | some c => if c.2 < e.2 then some e else b) none |>.map (·.1)

/-- One engine issues 2 blocks for the entry that is shortest (R131); an engine whose generator is not seeded begins none (R124). -/
def engineIssue (eng : Nat) (s : State) : State :=
  let u := 16 + eng
  if !inService s u || !(unitOf s u).seeded then s
  else match shortest s eng (·.1) with
    | some i => headIssue u i false s
    | none => match shortest s eng (·.2) with
      | some i => headIssue u i true s
      | none => s

/-- PREROLL_REFILL: each engine in turn (R131). -/
def prerollRefill (s : State) : State :=
  if !live s || !s.profile.preroll || s.slices.entropyFail then s
  else (List.range 8).foldl (fun t e => engineIssue e t) s

/-- HOTSET_DECAY: every activity count is halved (R127). -/
def hotsetDecay (s : State) : State :=
  if !live s then s
  else { s with slices := { s.slices with hot := s.slices.hot.map (fun e =>
    (e.1, e.2.map (fun h => { h with act := h.act / 2 }))) } }

/-! ### Commands of the slices (R141, R142) -/

/-- A slice's block of Table 5-10. -/
def sliceBlock (s : State) (u : Nat) : Bytes :=
  let x := unitOf s u
  let pair := inService s (u / 2 * 2) && inService s (u / 2 * 2 + 1)
  le 1 u ++ le 1 x.st.code ++ le 1 (mask [x.gated, pair, x.st == .stopped && x.prior == .quarantined]) ++
    le 1 (Nat.min 3 (recentFaults s u).length) ++ zb 4 ++ le64 x.frames ++ le64 x.octets ++ le64 x.aborts ++
    le64 x.faultCnt ++ le64 x.hits ++ (if u < 8 then le64 x.misses else le 8 x.highWater) ++ le64 x.pairFrames

/-- DEV_SLICE_STATS_GET (0x0012), Table 5-9. -/
def devSliceStatsGet (c : Cmd) (s : State) : Res :=
  let p := c.payload
  if lcBad s then fail stWrongState s
  else if p.length != 4 || 1 < u8 p 0 || !zeros p 1 3 then fail stInvalid s
  else
    let g := u8 p 0
    let x := s.slices
    okWith (le 1 g ++ zb 7 ++ le64 s.tsu.ns ++ (groupUnits g).flatMap (sliceBlock s) ++ le64 (groupOf s g).aborts ++
      (if g == 0 then
        [x.missNotHot, x.missNotReady, x.missShort, x.discardBlk, x.admitCnt, x.denyCnt].flatMap le64 ++
          (List.range 8).flatMap (fun e => le 1 (unitOf s (16 + e)).st.code) ++ le 4 x.hot.length ++ zb 4
      else le64 x.heel ++ le64 x.lurcher ++ (List.range 32).flatMap (fun p => le64 (tget 0 x.icvFail p)))) s

/-- DEV_SLICE_RESTORE (0x0013): QUARANTINED to RESET, the fault history cleared (R142). -/
def devSliceRestore (c : Cmd) (s : State) : Res :=
  let p := c.payload
  let u := u8 p 0
  if lcBad s then fail stWrongState s
  else if p.length != 4 || 0x17 < u || !zeros p 1 3 then fail stInvalid s
  else if (unitOf s u).st != .quarantined then fail stWrongState s
  else ok (unitReseed u (setUnit u (fun x => { x with st := .reset, faults := [], restoring := true }) s))

/-! ### The knobs (R19 to R24) -/

/-- The knobs of a profile: LATENCY leaves the release default unchanged (Table 1-4). -/
def profileOf (old : Profile) (n : Nat) : Profile := match n with
  | 0 => { preroll := true, maskFull := true, lurcher := old.lurcher, split := 0, gating := 0 }
  | 1 => { preroll := true, maskFull := true, lurcher := false, split := 1, gating := 1 }
  | 2 => { preroll := false, maskFull := false, lurcher := false, split := 2, gating := 2 }
  | _ => old

/-- The effective profile: 3 CUSTOM when the knobs match no row; LATENCY ignores the release default (R20). -/
def profileCode (p : Profile) : Nat :=
  if p = profileOf p 0 then 0 else if p = profileOf p 1 then 1 else if p = profileOf p 2 then 2 else 3

/-- Table 1-7. -/
def profileBytes (p : Profile) : Bytes :=
  le 1 (profileCode p) ++ bit8 p.preroll ++ bit8 p.maskFull ++ bit8 p.lurcher ++ le 1 p.split ++ le 1 p.gating ++ zb 2

/-- The overridden knobs of a request (Table 1-6). -/
def profileOverride (b : Bytes) (p : Profile) : Profile :=
  let m := u16 b 2
  { preroll := if nbit m 0 then u8 b 4 == 1 else p.preroll
    maskFull := if nbit m 1 then u8 b 5 == 1 else p.maskFull
    lurcher := if nbit m 2 then u8 b 6 == 1 else p.lurcher
    split := if nbit m 3 then u8 b 7 else p.split
    gating := if nbit m 4 then u8 b 8 else p.gating }

/-- A request is well formed (R23). -/
def profileOk (b : Bytes) : Bool :=
  let m := u16 b 2
  b.length == 12 && (u8 b 0 ≤ 2 || u8 b 0 == 0xFF) && zeros b 1 1 && zeros b 9 3 && m < 32 &&
    !(u8 b 0 == 0xFF && m == 0) &&
    (List.range 5).all (fun i => nbit m i || u8 b (4 + i) == 0) &&
    u8 b 4 ≤ 1 && u8 b 5 ≤ 1 && u8 b 6 ≤ 1 && u8 b 7 ≤ 2 && u8 b 8 ≤ 2

/-- A committed change of knobs at its effect points (R24, Table 1-8): pre-roll OFF empties the hot set, the split
changes admission, gating applies at once; masking changes at each unit's next boundary. -/
def profileCommit (p : Profile) (s : State) : State :=
  let s := { s with profile := p }
  let s := if p.preroll then s else hotClear s
  gatingApply (sharedEvents 1 (sharedEvents 0 s))

/-- DEV_PROFILE_SET (0x0010). -/
def devProfileSet (c : Cmd) (s : State) : Res :=
  if lcBad s then fail stWrongState s
  else if !profileOk c.payload then fail stInvalid s
  else
    let s := profileCommit (profileOverride c.payload (profileOf s.profile (u8 c.payload 0))) s
    okWith (profileBytes s.profile) s

/-- DEV_PROFILE_GET (0x0011). -/
def devProfileGet (c : Cmd) (s : State) : Res :=
  if c.payload.isEmpty then okWith (profileBytes s.profile) s else fail stInvalid s

/-! ### The meanings -/

/-- DEV_PROFILE_SET. -/
def execDevProfileSet (mb : Nat) (s : State) : Host.Outcome State Fault Refusal := .next (fcp 0x0010 mb devProfileSet s)
/-- DEV_PROFILE_GET. -/
def execDevProfileGet (mb : Nat) (s : State) : Host.Outcome State Fault Refusal := .next (fcp 0x0011 mb devProfileGet s)
/-- SLICE_FAULT. -/
def execSliceFault (unit cause : Nat) (s : State) : Host.Outcome State Fault Refusal := .next (sliceFault unit cause s)
/-- UNIT_RESET_END. -/
def execUnitResetEnd (unit : Nat) (s : State) : Host.Outcome State Fault Refusal := .next (unitResetEnd unit s)
/-- DEV_SLICE_STATS_GET. -/
def execDevSliceStatsGet (mb : Nat) (s : State) : Host.Outcome State Fault Refusal :=
  .next (fcp 0x0012 mb devSliceStatsGet s)
/-- DEV_SLICE_RESTORE. -/
def execDevSliceRestore (mb : Nat) (s : State) : Host.Outcome State Fault Refusal :=
  .next (fcp 0x0013 mb devSliceRestore s)
/-- SERVICE_RESUME. -/
def execServiceResume (s : State) : Host.Outcome State Fault Refusal := .next (serviceResume s)
/-- MASK_RESEED. -/
def execMaskReseed (unit : Nat) (s : State) : Host.Outcome State Fault Refusal := .next (maskReseed unit s)
/-- HOTSET_DECAY. -/
def execHotsetDecay (s : State) : Host.Outcome State Fault Refusal := .next (hotsetDecay s)
/-- PREROLL_REFILL. -/
def execPrerollRefill (s : State) : Host.Outcome State Fault Refusal := .next (prerollRefill s)
/-- CLOCK_GATING_IDLE_EXPIRY. -/
def execClockGatingIdleExpiry (unit : Nat) (s : State) : Host.Outcome State Fault Refusal := .next (gatingExpiry unit s)

end Sys2Proof.Machine
end

