-- ==== Sys2Proof/Machine/FramePath.lean ====
section
/-! DEFINITION. The frame path (02_ports_frame_path.md, R43 to R53; 05_cipher_slices.md, R116 to R133; 06_transcryption.md,
R144; 07_key_manager.md, R171 to R174): from the ingress MAC to the traffic manager. DEDUCED: log entries 80, 97.
DESIGN CHOICE: log entry 71. -/
namespace Sys2Proof.Machine

/-! ### The KENNEL stage (R120, R163, R171, R173) -/

/-- The cells a frame needs in a KWB (R173); a frame with no ingress port needs those of its length. -/
def kwbNeed (s : State) (f : Frame) : Nat :=
  let m := match f.ingress with
    | some p => (port s p).cfg.maxFrame
    | none => knownLen f + 4
  if f.kind == .xcEnc then (m + 127) / 128 else cellsOf m

/-- The cells a whole frame uses. -/
def kwbUsed (f : Frame) : Option Nat := match f.kind with
  | .xcEnc => f.shared.map (fun d => (12 + d.a.length + 127) / 128)
  | _ => f.data.map (fun d => cellsOf (d.length + 4))

/-- Conditions 3 and 4 of R173. -/
def kwbPortFits (s : State) (side p c : Nat) : Bool :=
  let l := s.km.lim.get side
  let use (k : Nat) := kwbCellsOf s side (fun f => kwbPort side f == k)
  let shared := ((List.range 32).map (fun k => use k - l.reserve)).sum
  decide (use p + c ≤ l.port) && decide (c ≤ (l.reserve - use p) + (4096 - 32 * l.reserve - shared))

/-- Condition 2 of R173. -/
def kwbSaFits (s : State) (side : Nat) (sah : Option Nat) (c : Nat) : Bool :=
  decide (kwbCellsOf s side (fun f => kwbSah side f == sah) + c ≤ (s.km.lim.get side).sa)

/-- Drop a frame that the KWB does not take (R173). -/
def kwbFull (side id : Nat) (f : Frame) (s : State) : State :=
  discard id { s with km := { s.km with kwbDrop := s.km.kwbDrop.upd side (fun t => tmod 0 t (kwbPort side f) (· + 1)) } }

/-- A frame joins a KWB at its end, with the slot it waits for; its high-water mark and KWB_HIGH follow (R184). -/
def kwbJoin (side id : Nat) (f : Frame) (c : Nat) (slot : Option (Nat × BitVec 8)) (s : State) : State :=
  let c := match kwbUsed f with
    | some n => Nat.min c n
    | none => c
  let f := if side == 0 then { f with txSlot := slot } else { f with rxSlot := slot }
  let s := setFrame id (some { f with stage := .kwb, kwbCells := c }) s
  let s := { s with flow := { s.flow with kwb := s.flow.kwb.upd side (fun l => l ++ [id]) } }
  let s := match slot with
    | some (i, _) => setSlot i (fun x => { x with ref := x.ref + 1 }) s
    | none => s
  let n := kwbUse s side
  let s := { s with km := { s.km with kwbHighWater := s.km.kwbHighWater.upd side (Nat.max n) } }
  if !s.km.kwbHigh.get side && decide (3072 ≤ n) then
    evH 0x4004 (le 1 side) { s with km := { s.km with kwbHigh := s.km.kwbHigh.set side true } }
  else s

/-- A frame is bound to a RESIDENT slot and leaves for its distributor (R168, R129). -/
def kennelBind (side id i : Nat) (f : Frame) (s : State) : State :=
  let b := some (i, (slotOf s i).gen)
  let s := setSlot i (fun x => { x with ref := x.ref + 1, use := true }) s
  let s := setFrame id (some (if side == 0 then { f with txSlot := b } else { f with rxSlot := b })) s
  let s := cntKm side (fun c => { c with hit := c.hit + 1 }) s
  distEnter id (if side == 0 then hitCheck id s else s)

/-- A frame whose SAH is not RESIDENT takes a miss-table entry and waits, or is dropped (R171, R173). -/
def kennelMiss (side id sah : Nat) (f : Frame) (slot : Option Nat) (s : State) : State :=
  let s := cntKm side (fun c => { c with miss := c.miss + 1 }) s
  let ms := s.km.misses.get side
  let has := ms.any (fun m => m.sah == sah)
  let c := kwbNeed s f
  if (!has && decide (256 ≤ ms.length)) || !kwbSaFits s side (some sah) c || !kwbPortFits s side (kwbPort side f) c then
    kwbFull side id f s
  else
    let s := if has then s else setMisses side (fun l => l ++ [⟨sah, slot⟩]) s
    let b := slot.map (fun i => (i, (slotOf s i).gen))
    kwbJoin side id f c b s

/-- The KENNEL stage: side 0 encrypts, side 1 decrypts. -/
def kennel (side id : Nat) (s : State) : State :=
  match frameOf s id with
  | none => s
  | some f => match kwbSah side f with
    | none => s
    | some sah =>
      let held := (kwbList s side).filterMap (frameOf s)
      let same := held.any (fun h => kwbSah side h == some sah)
      let missed := cntKm side (fun c => { c with miss := c.miss + 1 }) s
      if s.km.muzzled then dropUnavail side id missed
      else match slotBy s sah with
        | some i =>
          if (slotOf s i).st == .resident then
            if !kwbBehind side held f then kennelBind side id i f s
            else
              let c := kwbNeed s f
              if (same && !f.strict && !kwbSaFits s side (some sah) c) || !kwbPortFits s side (kwbPort side f) c then kwbFull side id f s
              else kwbJoin side id f c (some (i, (slotOf s i).gen)) s
          else kennelMiss side id sah f (some i) s
        | none =>
          if (keyOf s sah).st == .present then kennelMiss side id sah f none s else dropUnavail side id missed

/-! ### The PN allocator's side (R44, R45, R93, R203, R249) -/

/-- The TCI/AN byte and the explicit SCI of a SecTAG (Tables 2-6 and 2-7, R46, R47). -/
def txTag (c : Sc) (a : Sa) (d : Bytes) : Nat × Option Nat :=
  let es := c.option == 1 && hbe d 6 6 == c.sci / 65536 && c.sci % 65536 == 1
  let sc := c.option == 0 || (c.option == 1 && !es)
  (64 * b2n es + 32 * b2n sc + 16 * b2n (c.option == 2) + (if a.integrityOnly then 0 else 12) + a.an % 4,
   if sc then some c.sci else none)

/-- What the E slice writes into an express frame that has its slot (R249). -/
def expressWrite (id : Nat) (f : Frame) (d : Int) (s : State) : State :=
  let wrote (f : Frame) : State :=
    setPtp f.egress (fun x => { x with write := x.write + 1 }) (setFrame id (some f) s)
  match f.ingress, ptpEvent (f.data.getD f.hdr) with
  | some p, some typ =>
    let res := timeGap d (todNow s) + ((s.tsu.count : Int) - (f.rxCount : Int)) + rxDelay s p
    match ptpAmount s p f.egress typ res with
    | some k => wrote { f with fix := some k }
    | none => s
  | none, some _ =>
    if f.origin then
      wrote { f with stamp := some (timeOf d).1, fix := some ((timeOf d).2.toNat / 65536 : Nat) }
    else s
  | _, none => s

/-- The reservation of an express frame's slot, and what follows from it (R203, R249, R250). -/
def expressReserve (id : Nat) (s : State) : State :=
  match frameOf s id with
  | none => s
  | some f =>
    if !f.express then s
    else match slotReserve id f.egress s with
      | (none, t) => if f.ingress.isNone && f.origin then setFrame id (some { f with twoStep := true }) t else t
      | (some b, t) =>
        let d : Int := b + (Config.blockWait f.egress b : Int) + txDelay t f.egress
        let f := { f with slot := some b, depart := some (timeOf d) }
        expressWrite id f d (setFrame id (some f) t)

/-- A PN has been allocated: the frame is bound to its SA, its SecTAG and its head, and enters the KENNEL. -/
def txBind (id sch sah pn : Nat) (s : State) : State :=
  match frameOf s id, scOf s sch, saOf s sah with
  | some f, some c, some a =>
    let r := hotTake sah s
    let t := txTag c a (txParts f).mac
    let f := { f with txSch := some sch, txSah := some sah, pn := pn, tci := t.1, tagSci := t.2, head := r.1 }
    kennel 0 id (expressReserve id (setFrame id (some f) r.2))
  | _, _, _ => s

/-- A frame of a TX SC enters the PN allocator (R93, R104). -/
def txEnter (id sch : Nat) (s : State) : State :=
  match pnAlloc sch none s with
  | (.pn sah pn, t) => txBind id sch sah pn t
  | (_, t) => discard id t

/-- A transcrypted frame enters the PN allocator from the crossbar: the checks of Table 6-1. -/
def xcEnter (id : Nat) (s : State) : State :=
  match frameOf s id with
  | none => s
  | some f =>
    let p := f.ingress.getD 0
    let n := (f.shared.map (·.a.length)).getD 0
    let s := if f.holdCells == 0 then s else sliceLeave id s
    let s := modFrame id (fun f => { f with kind := .xcEnc, unit := none, verified := false, out := false, masks := none }) s
    match f.rxSch.bind (pairedTx s) with
    | none => discard id (cntXc p (fun c => { c with nopair := c.nopair + 1 }) s)
    | some sch =>
      match pnAlloc sch (some (f.rxClear, n)) s with
      | (.pn sah pn, t) =>
        txBind id sch sah pn (cntXc p (fun c =>
          { c with frames := c.frames + 1, octets := c.octets + BitVec.ofNat 64 n }) t)
      | (.expose, t) => discard id (cntXc p (fun c => { c with expose := c.expose + 1 }) t)
      | (_, t) => discard id t

/-! ### The slices at work (R45 to R49, R116 to R118, R132) -/

/-- The frame has passed its last word out of the reorder stage: its sequence number is done (R118). -/
def orderDone (id : Nat) (s : State) : State :=
  match frameOf s id with
  | none => s
  | some f =>
    if f.data.isNone || f.stage == .slice || f.stage == .order then s
    else setGroup (kindGroup f.kind) (groupDrop id) s

/-- A slice that is not held back is free again (R117, R118). -/
def sliceGoes (id : Nat) (f : Frame) (s : State) : State := if f.stall then s else unitsFree id s

/-- The members of a frame's slice have failed the continuous test (R124). -/
def unitsRepeat (f : Frame) (s : State) : Bool :=
  f.unit.any (fun u => (unitOf s u).repeated || (f.pair && (unitOf s (u + 1)).repeated))

/-- The faults that the continuous test finds in a frame's slice or pair (R124, R134). -/
def unitsTest (f : Frame) (s : State) : State := match f.unit with
  | none => s
  | some u => (if f.pair then maskTest (u + 1) else (·)) (maskTest u s)

/-- An E slice has taken the last word of a whole frame: the ICV is appended, the slot released, the SA's counters kept
(R111, R138, R168). -/
def sliceSeal (id : Nat) (s : State) : State :=
  match frameOf s id with
  | none => s
  | some f => match f.txSah.bind (fun h => (saOf s h).map (h, ·)), f.txSch.bind (scOf s), f.txSlot with
    | some (sah, a), some c, some (i, _) =>
      let n := secureLen f
      let x := slotOf s i
      let w := unitsRun id f x (frameIv c.suite c.sci a.ssci f.pn x.salt) (n - clearPart a n) (sliceOctets f n s)
      if unitsRepeat f w.2 then unitsTest f w.2
      else
        let r := encrypt c a x (frameMask w.2 w.1 n) w.1
        let s := setFrame id (some { w.1 with cipher := some (r.1 ++ r.2), txSlot := none, head := none }) w.2
        let s := slotRelease f.txSlot (sliceLeave id (sliceGoes id f s))
        let s := cntSa sah 2 n (cntSa sah (if a.integrityOnly then 1 else 0) 1 s)
        if f.stage == .cut then discard id s else tmTrim id (orderDone id s)
    | _, _, _ => s

/-- The cells a HEEL frame holds in each member of its slice: a transcrypted one lies there as two shares (R132, R147). -/
def heldCells (f : Frame) : Nat :=
  let n := if f.kind == .xcDec then 2 * secureLen f else knownLen f
  if f.pair then (n + 511) / 512 else cellsOf n

/-- A D slice takes a HEEL frame's bytes into its hold buffer (R132). -/
def holdTake (id : Nat) (s : State) : State :=
  match frameOf s id with
  | none => s
  | some f => match f.unit with
    | none => s
    | some u =>
      if !f.heel then s
      else
        let c := heldCells f
        let up (x : SUnit) : SUnit :=
          { x with cells := x.cells + c - f.holdCells, highWater := Nat.max x.highWater (x.cells + c - f.holdCells) }
        let s := setFrame id (some { f with holdCells := c }) (setUnit u up s)
        if f.pair then setUnit (u + 1) up s else s

/-- A D slice has taken the last word of a whole frame: its keystream has been generated. -/
def sliceTaken (id : Nat) (s : State) : State :=
  match frameOf s id with
  | none => s
  | some f =>
    let s := sliceOctets f (secureLen f) s
    let w := match halfKeys s f with
      | some (c, a, x) => unitsRun id f x (frameIv c.suite c.sci a.ssci f.rxPn x.salt)
          (secureLen f - clearPart a (secureLen f)) s
      | none => (f, s)
    if unitsRepeat f w.2 then unitsTest f w.2
    else orderDone id (holdTake id (sliceGoes id w.1 w.2))

/-- Decrypted messages that the D slice diverts to the control path: PTP of the clock port, Pdelay of a TC_P2P port
(R247, R248). -/
def diverts (s : State) (f : Frame) (plain : Bytes) : Bool := match f.kind, f.ingress with
  | .dec, some p => (s.tsu.clockPort == p && (ptpAt plain).isSome) || (ptpMode s p == 2 && ptpPdelay plain)
  | _, _ => false

/-- A frame enters the control-path FIFO, or is dropped when the FIFO cannot take it whole (R43). -/
def cpEnter (id : Nat) (f : Frame) (d : Bytes) (count : Bool) (s : State) : State :=
  let p := f.ingress.getD 0
  let used := (s.flow.cpFifo.map (fun x => x.data.length)).sum
  let s := discard id s
  if 65536 < used + d.length then cntPort p (fun c => { c with cpPathDrop := c.cpPathDrop + 1 }) s
  else
    let s := { s with flow := { s.flow with cpFifo := s.flow.cpFifo ++ [⟨p, d, f.tRx, b2n f.yellow⟩] } }
    let s := if (ptpAt d).isSome then tsPush (.rx p f.tRx f.tRxFrac) s else s
    if count then cntPort p (fun c => { c with toCp := c.toCp + 1 }) s else s

/-- A frame passes the reorder stage: to the traffic manager, the crossbar, or the control path (R118). -/
def orderPass (id : Nat) (s : State) : State :=
  match frameOf s id with
  | none => s
  | some f =>
    match f.kind with
    | .xcDec => xcEnter id (setGroup 1 (groupDrop id) s)
    | .dec =>
      if (f.plain.map (diverts s f)).getD false then cpEnter id f (f.plain.getD []) false (sliceLeave id s)
      else orderDone id (releaseBegin id (setFrame id (some { f with stage := .arrive }) s))
    | _ => orderDone id (setFrame id (some { f with stage := .arrive }) s)

/-- The frame is the first of its egress port's order. -/
def orderHead (s : State) (id : Nat) (f : Frame) : Bool :=
  (tget [] (groupOf s (kindGroup f.kind)).order f.egress).head? == some id

/-- A frame that can pass does so when it is the first of its port, else it waits in the completion buffer, which holds its slice
back when it has no room (R118). -/
def orderTry (id : Nat) (s : State) : State :=
  match frameOf s id with
  | none => s
  | some f =>
    if orderHead s id f then orderPass id s
    else if orderBytes s (kindGroup f.kind) + orderLen f ≤ 262144 then
      releaseBegin id (setFrame id (some { f with stage := .order }) s)
    else setFrame id (some { f with stall := true }) s

/-- A frame in the completion buffer has grown past its room: its slice is held back (R118). -/
def orderGrown (id : Nat) (s : State) : State :=
  modFrame id (fun f =>
    if f.stage == .order && !orderHead s id f && decide (262144 < orderBytes s (kindGroup f.kind)) then { f with stall := true }
    else f) s

/-- REORDER_RELEASE: every earlier frame of the port has passed (R118). -/
def reorderRelease (id : Nat) (s : State) : State :=
  match frameOf s id with
  | none => s
  | some f =>
    if live s && (f.stage == .order || (f.stage == .slice && f.stall)) && orderHead s id f then
      stallDrain (kindGroup f.kind) (orderPass id (unstall id s))
    else s

/-- A slice begins a frame: it wakes, takes the masking mode and its mask set, reads the slot's shares, and counts (R20, R123, R130,
R139). A hit frame's head brings the masks its continuation needs. -/
def unitBegin (u id : Nat) (pair : Bool) (x : Slot) (head : Option Head) (s : State) : State :=
  setUnit u (fun y =>
    let y := maskBegin (unitLoad x { y with maskFull := s.profile.maskFull })
    { y with
      frame := some id, gated := false, frames := y.frames + 1
      maskSet := (head.bind Head.masks).or y.maskSet
      pairFrames := if pair then y.pairFrames + 1 else y.pairFrames }) s

/-- The masks a frame takes from its slice where it begins: its head's, or in FRAME the slice's set; in FULL the keystream's own
will be drawn (R123, R130). -/
def beginMasks (u : Nat) (f : Frame) (s : State) : Option MaskAt :=
  (f.head.bind Head.masks).or (if (unitOf s u).maskFull then none else (unitOf s u).maskSet)

/-- Take a frame off its distributor FIFO and give it its sequence number (R117, R118). -/
def seqTake (g id : Nat) (f : Frame) (s : State) : State :=
  setGroup g (fun x => { x with
    pairQ := x.pairQ.erase id, singleQ := x.singleQ.erase id
    reserved := if f.pair then none else x.reserved
    nextSeq := tmod 0 x.nextSeq f.egress (· + 1)
    order := tset [] x.order f.egress (tget [] x.order f.egress ++ [id]) }) s

/-- The slot a frame was bound to in the half at hand still has its key. -/
def boundOk (s : State) (g : Nat) (f : Frame) : Bool :=
  match (if g == 0 then f.txSlot else f.rxSlot) with
  | some (i, gen) => (slotOf s i).gen == gen && ((slotOf s i).st == .resident || (slotOf s i).st == .draining)
  | none => false

/-- The slot a frame was bound to in the half at hand. -/
def boundSlot (s : State) (g : Nat) (f : Frame) : Slot :=
  match (if g == 0 then f.txSlot else f.rxSlot) with
  | some (i, _) => slotOf s i
  | none => .reset

/-- A frame whose first words say that it is one to divert waits until its plaintext is whole (R247, R248; log entry 37). -/
def divertsSoFar (s : State) (f : Frame) : Bool := match f.ingress, f.rxSch.bind (scOf s), f.rxSah.bind (saOf s) with
  | some p, some c, some a =>
    (s.tsu.clockPort == p || ptpMode s p == 2) && diverts s f (decryptSoFar c a (boundSlot s 1 f) f)
  | _, _, _ => false

/-- A slice or pair takes a frame (R116 to R118, R129, R132). -/
def sliceTake (g u id : Nat) (f : Frame) (s : State) : State :=
  let s := occur 5 (1 + g) 0 1 (seqTake g id f s)
  let n := tget 0 (groupOf s g).nextSeq f.egress - 1
  let x := boundSlot s g f
  let s := unitBegin u id f.pair x f.head s
  let s := if f.pair then unitBegin (u + 1) id false x f.head s else s
  let f := { f with stage := .slice, unit := some u, seqn := n, out := false, masks := beginMasks u f s }
  let s := setFrame id (some f) s
  let s := if g == 0 then setUnit u (fun x => { x with
      hits := x.hits + (if f.hit then 1 else 0), misses := x.misses + (if f.missed then 1 else 0) }) s
    else s
  if !boundOk s g f then sliceFault u 1 s
  else if unitsRepeat f s then unitsTest f s
  else if g == 0 then
    let s := orderTry id s
    if f.data.isSome || f.shared.isSome then sliceSeal id s else s
  else
    let s := if f.heel || divertsSoFar s f then s else orderTry id s
    if f.data.isSome then sliceTaken id s else holdTake id s

/-- SLICE_ASSIGN: the head of a group's FIFO goes to an available slice or pair, if there is one (R117). -/
def sliceAssign (g : Nat) (pair : Bool) (s : State) : State :=
  if !live s || 1 < g || s.slices.entropyFail then s
  else
    let s := pairReserve g (holdSettle s)
    let q := if pair then (groupOf s g).pairQ else (groupOf s g).singleQ
    match q.head? with
    | none => s
    | some id => match frameOf s id with
      | none => s
      | some f => match frameFor s g f with
        | none => s
        | some u => sliceTake g u id f s

/-! ### Verification (R100, R132, R133) -/

/-- An ICV failure: counted at the slice, the line port and the SA; HEEL drops, LURCHER ends the frame under R50. -/
def icvFailed (id sah u : Nat) (f : Frame) (s : State) : State :=
  let s := setUnit u (fun x => { x with hits := x.hits + 1 }) s
  let s := { s with slices := { s.slices with icvFail := tmod 0 s.slices.icvFail (f.ingress.getD 0 % 32) (· + 1) } }
  let s := sliceSpoil id true (cntSa sah 1 1 s)
  if f.heel then discard id s else endFrame id 0 s

/-- The frame verified: its plaintext stands, or its shares do, and its slot is given back; a HEEL frame is released from its hold
buffer, a LURCHER one has left its slice (R49, R132, R138, R146, R168, R219). The slot reference ends at verification, so the forced
end of a drain finds no frame in release (Table 7-4 against R52; DESIGN CHOICE: log entry 139). -/
def icvPassed (id sah : Nat) (a : Sa) (x : Shared) (f : Frame) (s : State) : State :=
  let g := if f.kind == .xcDec then { f with shared := some x }
    else { f with plain := some (if f.yellow then markYellow x.plain else x.plain) }
  let s := slotRelease f.rxSlot s
  let s := setFrame id (some { g with verified := true, rxSlot := none, rxClear := clearPart a x.a.length }) s
  let s := cntSa sah 2 x.a.length (cntSa sah 0 1 s)
  let s := if f.heel then s else sliceLeave id s
  if f.stage == .cut then discard id (if f.heel then sliceLeave id s else s)
  else tmTrim id (if f.stage == .slice then orderTry id s else orderDone id s)

/-- ICV_VERIFICATION: 6 CCLK after a decrypted frame's last byte. -/
def icvVerification (id : Nat) (s : State) : State :=
  match frameOf s id with
  | none => s
  | some f => match f.unit, f.rxSah.bind (fun h => (saOf s h).map (h, ·)), f.rxSch.bind (scOf s), f.rxSlot with
    | some u, some (sah, a), some c, some (i, _) =>
      if !live s || f.data.isNone || f.verified || f.stomp.isSome || kindGroup f.kind == 0 || f.stage == .kwb then s
      else
        let r := decrypt c a (slotOf s i) (frameMask s f (secureLen f)) f
        let s := { s with slices := (if f.heel then { s.slices with heel := s.slices.heel + 1 }
          else { s.slices with lurcher := s.slices.lurcher + 1 }) }
        if !r.2 then icvFailed id sah u f s
        else match replayVerified sah f.rxPn f.heel s with
          | (false, t) => discard id (sliceSpoil id true t)
          | (true, t) => icvPassed id sah a r.1 f t
    | _, _, _, _ => s

/-! ### Ingress (R43, R44, R48, R51, R55) -/

/-- Symbol errors by lane. -/
def fecSymbols : Nat → List Nat → Tab W64 → Tab W64
  | _, [], t => t
  | k, n :: ns, t => fecSymbols (k + 1) ns (tmod 0 t k (· + BitVec.ofNat 64 n))

/-- FEC codewords and symbol errors of a port; FEC_DEGRADED when more than 16 uncorrectable ones fall into one 1 ms interval (Table 2-11). -/
def fecCount (p : Nat) (r : FecReport) (s : State) : State :=
  let ms := s.tsu.ns.toNat / 1000000
  let s := setPort p (fun x =>
    if x.fecMs == ms then x else { x with fecMs := ms, fecBase := x.cnt.fecUncorr, fecRaised := false }) s
  let s := cntPort p (fun c =>
    { c with fecCorr := c.fecCorr + BitVec.ofNat 64 r.corr, fecUncorr := c.fecUncorr + BitVec.ofNat 64 r.uncorr }) s
  let s := setPort p (fun x => { x with fecSym := fecSymbols 0 (r.symbols.take (modeLanes x.cfg.lane)) x.fecSym }) s
  let x := port s p
  if !x.fecRaised && decide (16 < (x.cnt.fecUncorr - x.fecBase).toNat) then
    evH 0x1004 (le 1 p) (setPort p (fun x => { x with fecRaised := true }) s)
  else s

/-- The cases of R48 that the SecTAG itself shows. -/
def badTag (t : SecTag) : Bool :=
  nbit t.tci 7 || (nbit t.tci 6 && nbit t.tci 5) || (nbit t.tci 5 && nbit t.tci 4) || (!nbit t.tci 3 && nbit t.tci 2) ||
    decide (48 ≤ t.sl)

/-- The length conditions of R48, known at the frame's end; `d` runs from DA to the ICV. -/
def badLength (d : Bytes) (t : SecTag) : Bool :=
  let n := d.length - 28 - t.len
  decide (d.length < 28 + t.len) || (t.sl != 0 && t.sl != n) || (t.sl == 0 && decide (n < 48))

/-- Count a bad SecTAG. -/
def cntBadtag (p : Nat) (s : State) : State := cntPort p (fun c => { c with rxBadtag := c.rxBadtag + 1 }) s

/-- E and C agree with the SA (R48). -/
def ecOk (a : Sa) (t : SecTag) : Bool := nbit t.tci 3 == !a.integrityOnly && nbit t.tci 2 == !a.integrityOnly

/-- A frame to decrypt: the RX SA record read and the replay check, then the KENNEL (R48, R99, R21). -/
def rxEnter (id p sch : Nat) (t : SecTag) (s : State) : State :=
  let bad := match saAt s sch (t.tci % 4) with
    | some (_, (a : Sa)) => a.rx && (a.st == SaSt.active || a.st == SaSt.retiring) && !ecOk a t
    | none => false
  if bad then discard id (cntBadtag p s)
  else match replayCheck sch (t.tci % 4) t.pn s with
    | (none, s) => discard id s
    | (some (sah, pn), s) => match frameOf s id, saOf s sah with
      | some f, some a =>
        kennel 1 id (setFrame id (some { f with
          rxSch := some sch, rxSah := some sah, rxPn := pn, heel := heelMode s a (f.kind == Kind.xcDec) }) s)
      | _, _ => s

/-- The policer of a classified frame: CONTROLLED and TO_CP with a valid policer (R213, R216, R217). -/
def police (p : Nat) (ps : Parsed) (r : ClsRes) (s : State) : Option Debit :=
  if r.valid.getLsbD 2 && (r.decision == 0 || r.decision == 3) then
    let side := portSide p
    let x := polOf s side r.pol
    let dei := (ps.outer.map (fun t => nbit t.2 12)).getD false
    let d := polDecide x (r.flags.getLsbD 1 || dei)
    some { side := side, index := r.pol, epoch := x.epoch, c := d.2.1, e := d.2.2, colour := d.1 }
  else none

/-- The path the decision selects for a frame that is neither dropped nor red (R43). -/
def decided (id p : Nat) (ps : Parsed) (r : ClsRes) (f : Frame) (s : State) : State :=
  match r.decision with
  | 1 => cntPort p (fun c => { c with rxUncontrolled := c.rxUncontrolled + 1 })
      (setFrame id (some { f with kind := .clear, stage := .arrive }) s)
  | 3 => setFrame id (some { f with kind := .cp, stage := .toCp }) s
  | _ =>
    let pair := portRate s p == 800
    if p < 32 then
      txEnter id r.sch (setFrame id (some { f with
        kind := .enc, stage := .toCp, pair := pair, express := r.flags.getLsbD 0, txSch := some r.sch }) s)
    else match ps.tag with
      | some t =>
        let k := if (port s p).cfg.role == 3 then Kind.xcDec else Kind.dec
        rxEnter id p r.sch t (setFrame id (some { f with kind := k, stage := .toCp, pair := pair }) s)
      | none => s

/-- FRAME_RECEIVE: a frame's header at the ingress MAC. The frame stands as one whose bytes still arrive until it is
decided otherwise. A frame that the merge sublayer cannot reassemble does not reach the parser (R39); on GP0 only the receive checks and
the FEC apply (R44, R54). -/
def frameReceive (id p : Nat) (hdr : Bytes) (early : Option Nat) (fec : FecReport) (s : State) : State :=
  if !live s || 64 < p || !((port s p).st == .up || (port s p).st == .rfault) then s
  else
    let s := fecCount p fec s
    if (frameOf s id).isSome || hbe hdr 12 2 == 0x8808 then s
    else if fec.mergeBad && (port s p).preemptOn then cntPort p (fun c => { c with rxMerge := c.rxMerge + 1 }) s
    else
      let c := capturePhase s
      let t := rxStamp s p c.1
      let f := { Frame.enter .clear .gone (some p) ((pairOf s p).getD p) hdr with
        tRx := t.1, tRxFrac := t.2, rxCount := s.tsu.count + c.1, early := early, strict := (port s p).cfg.missOrder == 1 }
      let s := setFrame id (some f) c.2
      if p == 64 then s else
      let s := occur (2 + portSide p) 1 p 1 s
      let ps := parse (decide (32 ≤ p)) hdr
      if (ps.tag.map badTag).getD false then cntBadtag p s
      else match classify p hdr s with
        | (.drop, s) => s
        | (.go r, s) =>
          let d := police p ps r s
          let f := { f with
            debit := d, yellow := (d.map (fun x => x.colour == 1)).getD false, tc := r.tc
            clsQueue := if r.valid.getLsbD 4 then some r.queue else none }
          match d with
          | some x =>
            let s := if x.colour == 0 then s else occur (2 + portSide p) (9 - x.colour) p 1 s
            if x.colour == 2 then polRed x.side x.index (setFrame id (some f) s) else decided id p ps r f s
          | none => decided id p ps r f s

/-- What a frame owes its policer, at its last byte (R218, Table 9-7). -/
def polEnd (f : Frame) (len : Nat) (s : State) : State :=
  match f.debit with
  | none => s
  | some d => polCount d.side d.index d.colour len (if d.colour == 2 then s else polDebit d len s)

/-- A good frame's last byte, by where the frame is: control path, wait buffer, slice, traffic manager. -/
def lastByteGood (id : Nat) (f : Frame) (s : State) : State :=
  match f.stage with
  | .gone => setFrame id none s
  | .toCp => cpEnter id f (f.data.getD []) true s
  | .kwb =>
    let side := if kindGroup f.kind == 0 then 0 else 1
    let c := match kwbUsed f with
      | some n => Nat.min f.kwbCells n
      | none => f.kwbCells
    kwbLow side (setFrame id (some { f with kwbCells := c }) s)
  | .dist => distGrown id (kindGroup f.kind) s
  | _ =>
    if f.stomp.isSome || f.unit.isNone then tmTrim id s
    else if f.kind == .enc then sliceSeal id (orderGrown id s)
    else sliceTaken id (orderGrown id s)

/-- The length conditions of R48 fail at a frame's end, whatever its decision; a frame that has been dropped or stomped already is
counted there (R53). -/
def endBadtag (p : Nat) (f : Frame) (data : Bytes) : Bool :=
  decide (32 ≤ p) && !f.aborted && f.stomp.isNone && f.stage != .gone && f.stage != .cut &&
    ((rxTag data).map (badLength data)).getD (f.kind == .dec || f.kind == .xcDec)

/-- A frame fails a check at its last byte: it ends under R50, with what its slice has made of it; one that waits in a KWB leaves
it. -/
def endBad (id : Nat) (f : Frame) (s : State) : State :=
  if f.stage == .gone then setFrame id none s
  else (if f.stage == .kwb then kwbLost f else (·)) (endFrame id 2 (sliceSpoil id false s))

/-- FRAME_LAST_BYTE: the receive checks, the counters, the policer's debit, the end of the frame under R50 or its way on
(R48, R50, R51, R53, R218). Reception stops at MAX_FRAME + 1 bytes. A good frame of GP0 is the Gwynlen engine's (R44). -/
def frameLastByte (id : Nat) (data : Bytes) (check : RxCheck) (s : State) : State :=
  match frameOf s id with
  | none => s
  | some f => match f.ingress, f.data with
    | some p, none =>
      if !live s then s
      else
        let len := data.length + 4
        let maxF := (port s p).cfg.maxFrame
        let data := if maxF < len then data.take (maxF + 1) else data
        let f := { f with data := some data }
        let s := polEnd f (Nat.min len (maxF + 1)) (setFrame id (some f) s)
        match rxCause check len maxF with
        | some g => endBad id f (if f.aborted then s else cntPort p g s)
        | none =>
          if p == 64 then setFrame id none s
          else
            let s := cntPort p (fun c =>
              { c with rxFrames := c.rxFrames + 1, rxOctets := c.rxOctets + BitVec.ofNat 64 len }) s
            let s := meterTap p 0 data s
            if endBadtag p f data then endBad id f (cntBadtag p s) else lastByteGood id f s
    | _, _ => s

/-- CP_INJECT: a frame from the CP, whole, in clear or under a TX SC of the named port (R44, R189, R249). -/
def cpInject (id p tc : Nat) (sch : Option Nat) (data : Bytes) (o : InjectOpts) (s : State) : State :=
  if !cpRuns s || 64 ≤ p || 7 < tc || (frameOf s id).isSome then s
  else
    let f := { Frame.enter .clear .arrive none p data with
      data := some data, tc := tc, origin := o.origin, capture := o.capture }
    match sch with
    | none => setFrame id (some f) s
    | some c =>
      if !((scOf s c).any (fun x => !x.rx && x.port == p)) then s
      else txEnter id c (setFrame id (some { f with
        kind := .enc, stage := .toCp, pair := portRate s p == 800, express := o.express && (port s p).cfg.role == 2, txSch := some c }) s)

/-! ### What firmware takes (R43, R243, R247, R250) -/

/-- An Announce (11) or Sync (0) of the clock's domain on the clock port is noted with its sender and interval (R240). -/
def ptpNote (f : CpFrame) (s : State) : State :=
  match ptpAt f.data with
  | none => s
  | some m =>
    let typ := u8 f.data m % 16
    if f.port == s.tsu.clockPort && (typ == 0 || typ == 11) && u8 f.data (m + 4) == s.tsu.domain then
      let h : PtpHeard := ⟨sub f.data (m + 20) 10, typ, f.tRx, signed 1 (u8 f.data (m + 33))⟩
      setTsu (fun t => { t with heard := t.heard.filter (fun x => !(x.id == h.id && x.typ == h.typ)) ++ [h] }) s
    else s

/-- CONTROL_PATH_RECEIVE: the firmware takes the oldest frame of the control path; a Pdelay exchange that it completes
sets the port's mean link delay (R247). -/
def controlPathReceive (delay : Option Int) (s : State) : State :=
  if !fwRuns s then s
  else match s.flow.cpFifo with
    | [] => s
    | f :: rest =>
      let s := ptpNote f { s with flow := { s.flow with cpFifo := rest, cpLast := some f } }
      match delay with
      | some k =>
        if ptpPdelay f.data && (ptpMode s f.port == 2 || s.tsu.clockPort == f.port) then
          setPtp f.port (fun x => { x with linkDelay := k }) s
        else s
      | none => s

/-- The Follow_Up of a Sync whose message begins at `m`, by its transmit time: preciseOriginTimestamp is t_tx in whole ns, its
fraction stands in the correctionField (R250; IEEE 1588-2019's message, PRESUMED: log entry 82). -/
def followUpBytes (d : Bytes) (m : Nat) (t : W64) (frac : W32) : Bytes :=
  d.take m ++ le 1 (u8 d m / 16 * 16 + 8) ++ sub d (m + 1) 1 ++ be 2 44 ++ sub d (m + 4) 2 ++ le 1 (u8 d (m + 6) / 4 * 4) ++
    sub d (m + 7) 1 ++ be 8 (frac.toNat / 65536) ++ zb 4 ++ sub d (m + 20) 12 ++ [2] ++ sub d (m + 33) 1 ++
    be 6 (t.toNat / 1000000000) ++ be 4 (t.toNat % 1000000000)

/-- The Follow_Up that a fallback's record asks for: sent as the Sync was, with the number `id` (R250). -/
def followUpSend (id p : Nat) (f : Injected) (body : Bytes) (s : State) : State :=
  match ptpAt f.data with
  | none => s
  | some m =>
    if u8 f.data m % 16 == 0 then
      cpInject id p f.tc f.sch (followUpBytes f.data m (BitVec.ofNat 64 (u64 body 40)) (BitVec.ofNat 32 (u32 body 36)))
        ⟨false, false, false⟩ s
    else s

/-- TIMESTAMP_FIFO_DRAIN: the firmware reads the oldest record; an injected fallback's Sync is followed by its Follow_Up, and a
fallback notice goes to the host (R243, R250). `id` is the Follow_Up's number. -/
def timestampFifoDrain (id : Nat) (s : State) : State :=
  if !fwRuns s || (frameOf s id).isSome then s
  else match s.tsu.fifo with
    | [] => s
    | r :: rest =>
      let s := setTsu (fun t => { t with fifo := rest, drained := some r, overflow := false }) s
      match r with
      | .fallback _ none body => notify 3 body s
      | .fallback p (some f) body => followUpSend id p f body s
      | _ => s

/-! ### The meanings -/

def execFrameReceive (id port : Nat) (header : Bytes) (early : Option Nat) (fec : FecReport) (s : State) :
    Host.Outcome State Fault Refusal := .next (frameReceive id port header early fec s)
def execFrameLastByte (id : Nat) (data : Bytes) (check : RxCheck) (s : State) : Host.Outcome State Fault Refusal :=
  .next (frameLastByte id data check s)
def execCpInject (id port tc : Nat) (sch : Option Nat) (data : Bytes) (opts : InjectOpts) (s : State) :
    Host.Outcome State Fault Refusal := .next (cpInject id port tc sch data opts s)
def execSliceAssign (group : Nat) (pair : Bool) (s : State) : Host.Outcome State Fault Refusal :=
  .next (sliceAssign group pair s)
def execIcvVerification (id : Nat) (s : State) : Host.Outcome State Fault Refusal := .next (icvVerification id s)
def execReorderRelease (id : Nat) (s : State) : Host.Outcome State Fault Refusal := .next (reorderRelease id s)
def execControlPathReceive (linkDelay : Option Int) (s : State) : Host.Outcome State Fault Refusal :=
  .next (controlPathReceive linkDelay s)
def execTimestampFifoDrain (id : Nat) (s : State) : Host.Outcome State Fault Refusal :=
  .next (timestampFifoDrain id s)

end Sys2Proof.Machine
end

