-- ==== Sys2Proof/Machine/Dispatch.lean ====
section
/-! DEFINITION. Dispatch: one arm per command, each one direct call of its meaning. A row whose
object is absent or whose condition does not hold leaves the state as it is (log entry 64), and a command's checks come in
the order of log entry 65. -/
namespace Sys2Proof.Machine

def exec (i : Instr) (s : State) : Host.Outcome State Fault Refusal :=
  match i with
  | .devProfileSet mb => Sys2Proof.Machine.execDevProfileSet mb s
  | .devProfileGet mb => Sys2Proof.Machine.execDevProfileGet mb s
  | .portConfigSet mb => Sys2Proof.Machine.execPortConfigSet mb s
  | .portConfigGet mb => Sys2Proof.Machine.execPortConfigGet mb s
  | .portAdminSet mb => Sys2Proof.Machine.execPortAdminSet mb s
  | .portStatusGet mb => Sys2Proof.Machine.execPortStatusGet mb s
  | .portStatsGet mb => Sys2Proof.Machine.execPortStatsGet mb s
  | .linkUp port => Sys2Proof.Machine.execLinkUp port s
  | .linkDown port cause => Sys2Proof.Machine.execLinkDown port cause s
  | .linkRemoteFault port => Sys2Proof.Machine.execLinkRemoteFault port s
  | .rfaultClear port => Sys2Proof.Machine.execRfaultClear port s
  | .preemptVerification port ok => Sys2Proof.Machine.execPreemptVerification port ok s
  | .frameReceive id port header early fec => Sys2Proof.Machine.execFrameReceive id port header early fec s
  | .macControlFrame port data check => Sys2Proof.Machine.execMacControlFrame port data check s
  | .frameLastByte id data check => Sys2Proof.Machine.execFrameLastByte id data check s
  | .cpInject id port tc sch data opts => Sys2Proof.Machine.execCpInject id port tc sch data opts s
  | .tblDtSet mb => Sys2Proof.Machine.execTblDtSet mb s
  | .tblPtSet mb dma => Sys2Proof.Machine.execTblPtSet mb dma s
  | .tblInsert mb dma => Sys2Proof.Machine.execTblInsert mb dma s
  | .tblModify mb dma => Sys2Proof.Machine.execTblModify mb dma s
  | .tblDelete mb dma => Sys2Proof.Machine.execTblDelete mb dma s
  | .tblRead mb => Sys2Proof.Machine.execTblRead mb s
  | .tblLearnSet mb => Sys2Proof.Machine.execTblLearnSet mb s
  | .tblFlush mb => Sys2Proof.Machine.execTblFlush mb s
  | .flushSweepDone side => Sys2Proof.Machine.execFlushSweepDone side s
  | .tblStatsGet mb => Sys2Proof.Machine.execTblStatsGet mb s
  | .dtWrite side stage => Sys2Proof.Machine.execDtWrite side stage s
  | .dtRead side => Sys2Proof.Machine.execDtRead side s
  | .xtInsert side stage => Sys2Proof.Machine.execXtInsert side stage s
  | .xtModify side stage => Sys2Proof.Machine.execXtModify side stage s
  | .xtDelete side stage => Sys2Proof.Machine.execXtDelete side stage s
  | .xtRead side => Sys2Proof.Machine.execXtRead side s
  | .ptWrite side stage => Sys2Proof.Machine.execPtWrite side stage s
  | .ptRead side => Sys2Proof.Machine.execPtRead side s
  | .xtRemovePort side => Sys2Proof.Machine.execXtRemovePort side s
  | .tcuStage side op => Sys2Proof.Machine.execTcuStage side op s
  | .tcuCommit side => Sys2Proof.Machine.execTcuCommit side s
  | .tcuAbort side => Sys2Proof.Machine.execTcuAbort side s
  | .tcuOpDone side => Sys2Proof.Machine.execTcuOpDone side s
  | .stageDrainDone side => Sys2Proof.Machine.execStageDrainDone side s
  | .learnInsert side => Sys2Proof.Machine.execLearnInsert side s
  | .stashRehome side => Sys2Proof.Machine.execStashRehome side s
  | .ageTick side => Sys2Proof.Machine.execAgeTick side s
  | .learnFifoDrain side => Sys2Proof.Machine.execLearnFifoDrain side s
  | .scCreate mb => Sys2Proof.Machine.execScCreate mb s
  | .scModify mb => Sys2Proof.Machine.execScModify mb s
  | .scDelete mb => Sys2Proof.Machine.execScDelete mb s
  | .scGet mb => Sys2Proof.Machine.execScGet mb s
  | .saInstall mb dma bad => Sys2Proof.Machine.execSaInstall mb dma bad s
  | .saArm mb => Sys2Proof.Machine.execSaArm mb s
  | .saSwitch mb => Sys2Proof.Machine.execSaSwitch mb s
  | .saModify mb => Sys2Proof.Machine.execSaModify mb s
  | .saRetire mb dma => Sys2Proof.Machine.execSaRetire mb dma s
  | .saGet mb => Sys2Proof.Machine.execSaGet mb s
  | .saStatsGet mb dma => Sys2Proof.Machine.execSaStatsGet mb dma s
  | .scStatsGet mb => Sys2Proof.Machine.execScStatsGet mb s
  | .scPortStatsGet mb => Sys2Proof.Machine.execScPortStatsGet mb s
  | .rxSaRetireTime sah => Sys2Proof.Machine.execRxSaRetireTime sah s
  | .slotDrained slot => Sys2Proof.Machine.execSlotDrained slot s
  | .drainTimeout slot => Sys2Proof.Machine.execDrainTimeout slot s
  | .spillSweep => Sys2Proof.Machine.execSpillSweep s
  | .scPairSet mb => Sys2Proof.Machine.execScPairSet mb s
  | .scPairGet mb => Sys2Proof.Machine.execScPairGet mb s
  | .scPairStatsGet mb => Sys2Proof.Machine.execScPairStatsGet mb s
  | .sliceAssign group pair => Sys2Proof.Machine.execSliceAssign group pair s
  | .icvVerification id => Sys2Proof.Machine.execIcvVerification id s
  | .reorderRelease id => Sys2Proof.Machine.execReorderRelease id s
  | .sliceFault unit cause => Sys2Proof.Machine.execSliceFault unit cause s
  | .unitResetEnd unit => Sys2Proof.Machine.execUnitResetEnd unit s
  | .devSliceStatsGet mb => Sys2Proof.Machine.execDevSliceStatsGet mb s
  | .devSliceRestore mb => Sys2Proof.Machine.execDevSliceRestore mb s
  | .entropyHealthFail => Sys2Proof.Machine.execEntropyHealthFail s
  | .serviceResume => Sys2Proof.Machine.execServiceResume s
  | .maskReseed unit => Sys2Proof.Machine.execMaskReseed unit s
  | .hotsetDecay => Sys2Proof.Machine.execHotsetDecay s
  | .prerollRefill => Sys2Proof.Machine.execPrerollRefill s
  | .fetchIssue side => Sys2Proof.Machine.execFetchIssue side s
  | .fetchComplete side sah mem => Sys2Proof.Machine.execFetchComplete side sah mem s
  | .muzzle => Sys2Proof.Machine.execMuzzle s
  | .muzzleDone => Sys2Proof.Machine.execMuzzleDone s
  | .kmStgKeyWrite index value => Sys2Proof.Machine.execKmStgKeyWrite index value s
  | .kmWrap replace source => Sys2Proof.Machine.execKmWrap replace source s
  | .kmClear => Sys2Proof.Machine.execKmClear s
  | .stagingTimeout => Sys2Proof.Machine.execStagingTimeout s
  | .keyLoad mb => Sys2Proof.Machine.execKeyLoad mb s
  | .keyGenerate mb => Sys2Proof.Machine.execKeyGenerate mb s
  | .blobExport mb reads => Sys2Proof.Machine.execBlobExport mb reads s
  | .blobImport mb dma => Sys2Proof.Machine.execBlobImport mb dma s
  | .keyEvict mb dma => Sys2Proof.Machine.execKeyEvict mb dma s
  | .keyPinSet mb ecc => Sys2Proof.Machine.execKeyPinSet mb ecc s
  | .keyLineageCreate mb => Sys2Proof.Machine.execKeyLineageCreate mb s
  | .keyLineageInvalidate mb => Sys2Proof.Machine.execKeyLineageInvalidate mb s
  | .keyLineageGet mb => Sys2Proof.Machine.execKeyLineageGet mb s
  | .keyKwbSet mb => Sys2Proof.Machine.execKeyKwbSet mb s
  | .keyStatsGet mb => Sys2Proof.Machine.execKeyStatsGet mb s
  | .keyStateSave mb reads => Sys2Proof.Machine.execKeyStateSave mb reads s
  | .keyStateRestore mb dma => Sys2Proof.Machine.execKeyStateRestore mb dma s
  | .blobForwardSeal mb reads => Sys2Proof.Machine.execBlobForwardSeal mb reads s
  | .blobForwardOpen mb dma => Sys2Proof.Machine.execBlobForwardOpen mb dma s
  | .pkeAgree mb => Sys2Proof.Machine.execPkeAgree mb s
  | .pkeSlotErase mb => Sys2Proof.Machine.execPkeSlotErase mb s
  | .pkeContextExpiry context => Sys2Proof.Machine.execPkeContextExpiry context s
  | .tmAdmission id lapses => Sys2Proof.Machine.execTmAdmission id lapses s
  | .tmSelect port => Sys2Proof.Machine.execTmSelect port s
  | .tmFrameDeparted port => Sys2Proof.Machine.execTmFrameDeparted port s
  | .shaperRefill => Sys2Proof.Machine.execShaperRefill s
  | .tmRoomCheck => Sys2Proof.Machine.execTmRoomCheck s
  | .pauseFrameSend port => Sys2Proof.Machine.execPauseFrameSend port s
  | .pauseRepeat port => Sys2Proof.Machine.execPauseRepeat port s
  | .pauseHaltExpiry port tc => Sys2Proof.Machine.execPauseHaltExpiry port tc s
  | .fLastExpiry side queue => Sys2Proof.Machine.execFLastExpiry side queue s
  | .tmXoffStuck port => Sys2Proof.Machine.execTmXoffStuck port s
  | .expressHeadCheck id => Sys2Proof.Machine.execExpressHeadCheck id s
  | .expressSlotStart id => Sys2Proof.Machine.execExpressSlotStart id s
  | .tmPortSet mb => Sys2Proof.Machine.execTmPortSet mb s
  | .tmPortGet mb => Sys2Proof.Machine.execTmPortGet mb s
  | .tmQueueSet mb dma => Sys2Proof.Machine.execTmQueueSet mb dma s
  | .tmQueueGet mb => Sys2Proof.Machine.execTmQueueGet mb s
  | .tmShaperSet mb dma => Sys2Proof.Machine.execTmShaperSet mb dma s
  | .tmShaperGet mb => Sys2Proof.Machine.execTmShaperGet mb s
  | .tmStatsGet mb => Sys2Proof.Machine.execTmStatsGet mb s
  | .tmQueueStatsGet mb dma => Sys2Proof.Machine.execTmQueueStatsGet mb dma s
  | .policerRefill => Sys2Proof.Machine.execPolicerRefill s
  | .polSet mb dma => Sys2Proof.Machine.execPolSet mb dma s
  | .polGet mb => Sys2Proof.Machine.execPolGet mb s
  | .polStatsGet mb dma => Sys2Proof.Machine.execPolStatsGet mb dma s
  | .gclSet mb dma => Sys2Proof.Machine.execGclSet mb dma s
  | .gclGet mb reads => Sys2Proof.Machine.execGclGet mb reads s
  | .gclStatusGet mb => Sys2Proof.Machine.execGclStatusGet mb s
  | .gateEntryAdvance port => Sys2Proof.Machine.execGateEntryAdvance port s
  | .gclChangeTime port => Sys2Proof.Machine.execGclChangeTime port s
  | .todGet mb => Sys2Proof.Machine.execTodGet mb s
  | .todSet mb => Sys2Proof.Machine.execTodSet mb s
  | .todAdjust mb => Sys2Proof.Machine.execTodAdjust mb s
  | .todFreqSet mb => Sys2Proof.Machine.execTodFreqSet mb s
  | .todPpsSet mb => Sys2Proof.Machine.execTodPpsSet mb s
  | .ptpPortSet mb => Sys2Proof.Machine.execPtpPortSet mb s
  | .ptpPortGet mb => Sys2Proof.Machine.execPtpPortGet mb s
  | .ptpClockSet mb => Sys2Proof.Machine.execPtpClockSet mb s
  | .ptpStatusGet mb => Sys2Proof.Machine.execPtpStatusGet mb s
  | .ptpStatsGet mb => Sys2Proof.Machine.execPtpStatsGet mb s
  | .todStep atPps => Sys2Proof.Machine.execTodStep atPps s
  | .todLoad atPps => Sys2Proof.Machine.execTodLoad atPps s
  | .todSlew => Sys2Proof.Machine.execTodSlew s
  | .todSlewAbort => Sys2Proof.Machine.execTodSlewAbort s
  | .slewComplete => Sys2Proof.Machine.execSlewComplete s
  | .todIncApply value => Sys2Proof.Machine.execTodIncApply value s
  | .todFracRead => Sys2Proof.Machine.execTodFracRead s
  | .ppsInEdge falling => Sys2Proof.Machine.execPpsInEdge falling s
  | .ppsInLost => Sys2Proof.Machine.execPpsInLost s
  | .todSetPpsTimeout => Sys2Proof.Machine.execTodSetPpsTimeout s
  | .ppsOutEdge => Sys2Proof.Machine.execPpsOutEdge s
  | .ppsOutFall => Sys2Proof.Machine.execPpsOutFall s
  | .ref10mWindow count => Sys2Proof.Machine.execRef10mWindow count s
  | .servoSample offset pathDelay parent => Sys2Proof.Machine.execServoSample offset pathDelay parent s
  | .servoSourceLost cause => Sys2Proof.Machine.execServoSourceLost cause s
  | .holdoverLimit => Sys2Proof.Machine.execHoldoverLimit s
  | .packCreate mb => Sys2Proof.Machine.execPackCreate mb s
  | .packJoin mb => Sys2Proof.Machine.execPackJoin mb s
  | .packLeave mb => Sys2Proof.Machine.execPackLeave mb s
  | .packExpel mb => Sys2Proof.Machine.execPackExpel mb s
  | .packPolicySet mb => Sys2Proof.Machine.execPackPolicySet mb s
  | .packStatusGet mb => Sys2Proof.Machine.execPackStatusGet mb s
  | .packDirGet mb reads => Sys2Proof.Machine.execPackDirGet mb reads s
  | .packStatsGet mb => Sys2Proof.Machine.execPackStatsGet mb s
  | .epochPrepare mb => Sys2Proof.Machine.execEpochPrepare mb s
  | .epochEnlist mb dma => Sys2Proof.Machine.execEpochEnlist mb dma s
  | .epochAbort mb => Sys2Proof.Machine.execEpochAbort mb s
  | .epochStatusGet mb => Sys2Proof.Machine.execEpochStatusGet mb s
  | .packFragment hdr frag => Sys2Proof.Machine.execPackFragment hdr frag s
  | .packReassemblyTimeout source exchange => Sys2Proof.Machine.execPackReassemblyTimeout source exchange s
  | .hello hdr claimsLead eligible version view heard => Sys2Proof.Machine.execHello hdr claimsLead eligible version view heard s
  | .joinReq source exchange => Sys2Proof.Machine.execJoinReq source exchange s
  | .joinAccept source exchange dir => Sys2Proof.Machine.execJoinAccept source exchange dir s
  | .joinRefuse hdr code => Sys2Proof.Machine.execJoinRefuse hdr code s
  | .packJoinTimeout => Sys2Proof.Machine.execPackJoinTimeout s
  | .leave hdr => Sys2Proof.Machine.execLeave hdr s
  | .keyRotate hdr keyNumber cause wrapped => Sys2Proof.Machine.execKeyRotate hdr keyNumber cause wrapped s
  | .packKeySwitch => Sys2Proof.Machine.execPackKeySwitch s
  | .packOldKeyExpiry => Sys2Proof.Machine.execPackOldKeyExpiry s
  | .helloTimer => Sys2Proof.Machine.execHelloTimer s
  | .memberUnheard member => Sys2Proof.Machine.execMemberUnheard member s
  | .memberDepart member => Sys2Proof.Machine.execMemberDepart member s
  | .leadTimeout => Sys2Proof.Machine.execLeadTimeout s
  | .packSyncTimer => Sys2Proof.Machine.execPackSyncTimer s
  | .packDelayReqTimer => Sys2Proof.Machine.execPackDelayReqTimer s
  | .sync hdr => Sys2Proof.Machine.execSync hdr s
  | .followUp hdr sequence tod frac => Sys2Proof.Machine.execFollowUp hdr sequence tod frac s
  | .delayReq hdr => Sys2Proof.Machine.execDelayReq hdr s
  | .delayResp hdr sequence tod frac => Sys2Proof.Machine.execDelayResp hdr sequence tod frac s
  | .dirClaim hdr entry => Sys2Proof.Machine.execDirClaim hdr entry s
  | .dirGrant hdr entry version => Sys2Proof.Machine.execDirGrant hdr entry version s
  | .dirDeny hdr entry => Sys2Proof.Machine.execDirDeny hdr entry s
  | .dirUpdate hdr entry add version => Sys2Proof.Machine.execDirUpdate hdr entry add version s
  | .dirRelease hdr entry => Sys2Proof.Machine.execDirRelease hdr entry s
  | .epochPrep hdr params => Sys2Proof.Machine.execEpochPrep hdr params s
  | .epochVote hdr epoch ready => Sys2Proof.Machine.execEpochVote hdr epoch ready s
  | .stateCopy hdr copy => Sys2Proof.Machine.execStateCopy hdr copy s
  | .epochDecide hdr epoch commit cause => Sys2Proof.Machine.execEpochDecide hdr epoch commit cause s
  | .epochAck hdr epoch => Sys2Proof.Machine.execEpochAck hdr epoch s
  | .epochDecideResend epoch => Sys2Proof.Machine.execEpochDecideResend epoch s
  | .epochTpReached epoch => Sys2Proof.Machine.execEpochTpReached epoch s
  | .epochInDoubt epoch => Sys2Proof.Machine.execEpochInDoubt epoch s
  | .epochTsReached epoch => Sys2Proof.Machine.execEpochTsReached epoch s
  | .epochOverlapEnd epoch => Sys2Proof.Machine.execEpochOverlapEnd epoch s
  | .mbRing mb => Sys2Proof.Machine.execMbRing mb s
  | .mbAbort mb => Sys2Proof.Machine.execMbAbort mb s
  | .mbRelease mb => Sys2Proof.Machine.execMbRelease mb s
  | .mbRequestWrite mb offset data => Sys2Proof.Machine.execMbRequestWrite mb offset data s
  | .mbTake meter busMaster claimKey => Sys2Proof.Machine.execMbTake meter busMaster claimKey s
  | .mbWatchdog mb => Sys2Proof.Machine.execMbWatchdog mb s
  | .hifReset cause => Sys2Proof.Machine.execHifReset cause s
  | .bar0BoundaryFault addr size write => Sys2Proof.Machine.execBar0BoundaryFault addr size write s
  | .counterLoRead addr size => Sys2Proof.Machine.execCounterLoRead addr size s
  | .nqEnableWrite value => Sys2Proof.Machine.execNqEnableWrite value s
  | .nqHeadWrite value => Sys2Proof.Machine.execNqHeadWrite value s
  | .nqBacklogPost => Sys2Proof.Machine.execNqBacklogPost s
  | .nqCoalesceTimer => Sys2Proof.Machine.execNqCoalesceTimer s
  | .nonceExpiry session => Sys2Proof.Machine.execNonceExpiry session s
  | .authLockoutEnd meter => Sys2Proof.Machine.execAuthLockoutEnd meter s
  | .smbusRead target code pec => Sys2Proof.Machine.execSmbusRead target code pec s
  | .smbusWrite target code => Sys2Proof.Machine.execSmbusWrite target code s
  | .smbusSclTimeout => Sys2Proof.Machine.execSmbusSclTimeout s
  | .smbusRefresh power uptime => Sys2Proof.Machine.execSmbusRefresh power uptime s
  | .devInfoGet mb => Sys2Proof.Machine.execDevInfoGet mb s
  | .devSessionOpen mb => Sys2Proof.Machine.execDevSessionOpen mb s
  | .devSessionClose mb => Sys2Proof.Machine.execDevSessionClose mb s
  | .devNonceGet mb => Sys2Proof.Machine.execDevNonceGet mb s
  | .dapAccess write addr size data => Sys2Proof.Machine.execDapAccess write addr size data s
  | .dapHalt => Sys2Proof.Machine.execDapHalt s
  | .dapStep => Sys2Proof.Machine.execDapStep s
  | .dapResume => Sys2Proof.Machine.execDapResume s
  | .mpuFault access privileged addr size task => Sys2Proof.Machine.execMpuFault access privileged addr size task s
  | .fwlClose => Sys2Proof.Machine.execFwlClose s
  | .mpuLock value => Sys2Proof.Machine.execMpuLock value s
  | .debugLevelGranted => Sys2Proof.Machine.execDebugLevelGranted s
  | .porLAssert => Sys2Proof.Machine.execPorLAssert s
  | .porLRelease => Sys2Proof.Machine.execPorLRelease s
  | .sysRstLAssert => Sys2Proof.Machine.execSysRstLAssert s
  | .sysRstLRelease => Sys2Proof.Machine.execSysRstLRelease s
  | .coreReset => Sys2Proof.Machine.execCoreReset s
  | .measExtend index => Sys2Proof.Machine.execMeasExtend index s
  | .measLockLow => Sys2Proof.Machine.execMeasLockLow s
  | .lcStateGet mb => Sys2Proof.Machine.execLcStateGet mb s
  | .lcStateSet mb dma => Sys2Proof.Machine.execLcStateSet mb dma s
  | .lcTransitionCommit => Sys2Proof.Machine.execLcTransitionCommit s
  | .lcDebugUnlock mb => Sys2Proof.Machine.execLcDebugUnlock mb s
  | .idCertGet mb reads => Sys2Proof.Machine.execIdCertGet mb reads s
  | .idCsrGet mb reads => Sys2Proof.Machine.execIdCsrGet mb reads s
  | .idCertSet mb dma => Sys2Proof.Machine.execIdCertSet mb dma s
  | .idQuoteGet mb => Sys2Proof.Machine.execIdQuoteGet mb s
  | .fwImageStage mb dma => Sys2Proof.Machine.execFwImageStage mb dma s
  | .fwStageWriteDone flashOk => Sys2Proof.Machine.execFwStageWriteDone flashOk s
  | .fwImageActivate mb cut => Sys2Proof.Machine.execFwImageActivate mb cut s
  | .fwStageAbort mb => Sys2Proof.Machine.execFwStageAbort mb s
  | .fwStatusGet mb => Sys2Proof.Machine.execFwStatusGet mb s
  | .alarmDetected alarm param => Sys2Proof.Machine.execAlarmDetected alarm param s
  | .tamperSample item fails reading => Sys2Proof.Machine.execTamperSample item fails reading s
  | .shadowMismatch group index otpStill => Sys2Proof.Machine.execShadowMismatch group index otpStill s
  | .powerToBattery => Sys2Proof.Machine.execPowerToBattery s
  | .powerFromBattery => Sys2Proof.Machine.execPowerFromBattery s
  | .aonPowerLoss => Sys2Proof.Machine.execAonPowerLoss s
  | .secLockSet => Sys2Proof.Machine.execSecLockSet s
  | .secLatchedClear mask => Sys2Proof.Machine.execSecLatchedClear mask s
  | .tmpStatusGet mb => Sys2Proof.Machine.execTmpStatusGet mb s
  | .tmpConfigGet mb => Sys2Proof.Machine.execTmpConfigGet mb s
  | .tmpConfigSet mb => Sys2Proof.Machine.execTmpConfigSet mb s
  | .tmpConfigLock mb => Sys2Proof.Machine.execTmpConfigLock mb s
  | .tmpAlarmClear mb => Sys2Proof.Machine.execTmpAlarmClear mb s
  | .evdStatusGet mb => Sys2Proof.Machine.execEvdStatusGet mb s
  | .evdLogExport mb reads => Sys2Proof.Machine.execEvdLogExport mb reads s
  | .evrEventArrival firmware => Sys2Proof.Machine.execEvrEventArrival firmware s
  | .evrSummaryTick => Sys2Proof.Machine.execEvrSummaryTick s
  | .evrTokenRefill code => Sys2Proof.Machine.execEvrTokenRefill code s
  | .evrForward => Sys2Proof.Machine.execEvrForward s
  | .evrCursorAdvance cursor count => Sys2Proof.Machine.execEvrCursorAdvance cursor count s
  | .evrConfigSet mb => Sys2Proof.Machine.execEvrConfigSet mb s
  | .evrStatusGet mb => Sys2Proof.Machine.execEvrStatusGet mb s
  | .evrRateSet mb dma => Sys2Proof.Machine.execEvrRateSet mb dma s
  | .evrCursorSet mb => Sys2Proof.Machine.execEvrCursorSet mb s
  | .crdStart => Sys2Proof.Machine.execCrdStart s
  | .crdSweepComplete => Sys2Proof.Machine.execCrdSweepComplete s
  | .pmcValueWrite block n value wraps => Sys2Proof.Machine.execPmcValueWrite block n value wraps s
  | .thresholdWindow slot => Sys2Proof.Machine.execThresholdWindow slot s
  | .ageingMeasure monitor value => Sys2Proof.Machine.execAgeingMeasure monitor value s
  | .eyeMeasure lane millivolt => Sys2Proof.Machine.execEyeMeasure lane millivolt s
  | .stressTick => Sys2Proof.Machine.execStressTick s
  | .healthDailySample => Sys2Proof.Machine.execHealthDailySample s
  | .cntConfigSet mb dma => Sys2Proof.Machine.execCntConfigSet mb dma s
  | .cntConfigGet mb => Sys2Proof.Machine.execCntConfigGet mb s
  | .cntSweepGet mb dma => Sys2Proof.Machine.execCntSweepGet mb dma s
  | .cntThresholdSet mb => Sys2Proof.Machine.execCntThresholdSet mb s
  | .hltReportGet mb => Sys2Proof.Machine.execHltReportGet mb s
  | .hltMonitorGet mb => Sys2Proof.Machine.execHltMonitorGet mb s
  | .meterPowerUp checksOk => Sys2Proof.Machine.execMeterPowerUp checksOk s
  | .meterPowerLoss => Sys2Proof.Machine.execMeterPowerLoss s
  | .meterSweep port dir index => Sys2Proof.Machine.execMeterSweep port dir index s
  | .mtrStatusGet mb => Sys2Proof.Machine.execMtrStatusGet mb s
  | .mtrChannelGet mb => Sys2Proof.Machine.execMtrChannelGet mb s
  | .mtrStatementGet mb => Sys2Proof.Machine.execMtrStatementGet mb s
  | .mtrStatementLatch => Sys2Proof.Machine.execMtrStatementLatch s
  | .mtrCertGet mb => Sys2Proof.Machine.execMtrCertGet mb s
  | .mtrBindingSet mb => Sys2Proof.Machine.execMtrBindingSet mb s
  | .mtrBankFinalSweep => Sys2Proof.Machine.execMtrBankFinalSweep s
  | .mtrBindingGet mb => Sys2Proof.Machine.execMtrBindingGet mb s
  | .registerWrite space addr value => Sys2Proof.Machine.execRegisterWrite space addr value s
  | .factoryProvisioning target => Sys2Proof.Machine.execFactoryProvisioning target s
  | .alarmConditionEnded alarm => Sys2Proof.Machine.execAlarmConditionEnded alarm s
  | .aonPowerUp => Sys2Proof.Machine.execAonPowerUp s
  | .controlPathReceive linkDelay => Sys2Proof.Machine.execControlPathReceive linkDelay s
  | .timestampFifoDrain id => Sys2Proof.Machine.execTimestampFifoDrain id s
  | .wrapCompleted => Sys2Proof.Machine.execWrapCompleted s
  | .measExtendComplete => Sys2Proof.Machine.execMeasExtendComplete s
  | .deputyAcknowledgement hdr copy => Sys2Proof.Machine.execDeputyAcknowledgement hdr copy s
  | .voteAcknowledgement hdr epoch => Sys2Proof.Machine.execVoteAcknowledgement hdr epoch s
  | .pmcWrap block n => Sys2Proof.Machine.execPmcWrap block n s
  | .clockGatingIdleExpiry unit => Sys2Proof.Machine.execClockGatingIdleExpiry unit s

end Sys2Proof.Machine
end

