-- ==== Sys2Proof/Safety.lean ====
section
/-! DEFINITION. What counts as a safe run, in the terms the statements use: a command completes, a command of an agent
has been taken, what an answer is. -/
namespace Sys2Proof.Machine

/-- The command completes: exec answers this next state. -/
def Completes (i : Instr) (s t : State) : Prop := exec i s = .next t

/-- Mailboxes are served, and `c` is the command that the agent has taken from mailbox `mb` under opcode `op`. -/
def Taken (op mb : Nat) (s : State) (c : Cmd) : Prop := serving s = true ∧ cmdOf op mb s = some c

/-- The meter runs, and `c` is the command it has taken from MB_MTR under opcode `op`. -/
def MeterTaken (op : Nat) (s : State) (c : Cmd) : Prop := s.mtr.powered = true ∧ cmdOf op 8 s = some c

/-- The command answers with status OK and this payload, and leaves the state `t` behind its answer. -/
def AnswersOk (i : Instr) (s : State) (c : Cmd) (payload : Bytes) (t : State) : Prop :=
  exec i s = .next (finish c ⟨stOk, 0, payload⟩ t)

/-- The command answers with a status, detail 0 and an empty payload, and nothing else changes. -/
def Turned (i : Instr) (s : State) (c : Cmd) (status : Nat) : Prop := exec i s = .next (finish c ⟨status, 0, []⟩ s)

/-- Only the host interface, the event recorder and the meter's mailbox differ: what an answer changes. -/
def OnlyAnswer (s t : State) : Prop := t = { s with hif := t.hif, evr := t.evr, mtr := { s.mtr with mb := t.mtr.mb } }

/-- The command answers with this status, detail and payload, and leaves the state `t` behind its answer. -/
def Answers (i : Instr) (s : State) (c : Cmd) (r : Reply) (t : State) : Prop := exec i s = .next (finish c r t)

/-- A pack message that the Gwynlen engine checks under R261, as a command: its header, type and decrypted body. -/
def protectedMessage : Instr → Option (PackHeader × Nat × Bytes)
  | .hello h cl el v view heard => some (h, 0x01, helloBody cl el v view heard)
  | .leave h => some (h, 0x05, [])
  | .keyRotate h k cause w => some (h, 0x06, rotateBody k cause w)
  | .sync h => some (h, 0x10, [])
  | .followUp h n tod frac => some (h, 0x11, be 8 n ++ timeWire (tod, frac))
  | .delayReq h => some (h, 0x12, [])
  | .delayResp h n tod frac => some (h, 0x13, be 8 n ++ timeWire (tod, frac))
  | .dirClaim h e => some (h, 0x20, dirWire e)
  | .dirGrant h e v => some (h, 0x21, dirWire e ++ be 4 v)
  | .dirDeny h e => some (h, 0x22, dirWire e)
  | .dirUpdate h e add v => some (h, 0x23, dirWire e ++ bit8 add ++ be 4 v)
  | .dirRelease h e => some (h, 0x24, dirWire e)
  | .epochPrep h p => some (h, 0x30, prepBody p)
  | .epochVote h n ready => some (h, 0x31, be 4 n ++ bit8 ready)
  | .voteAcknowledgement h n => some (h, 0x31, be 4 n)
  | .epochDecide h n commit cause => some (h, 0x32, be 4 n ++ le 1 (if commit then 1 else 2) ++ le 1 cause)
  | .epochAck h n => some (h, 0x33, be 4 n)
  | .stateCopy h x | .deputyAcknowledgement h x => some (h, 0x34, copyBytes x)
  | _ => none

/-- A protected message is accepted, and the firmware acts on it (R260, R261). -/
def PackTaken (i : Instr) (h : PackHeader) (s : State) : Prop :=
  ∃ typ body, protectedMessage i = some (h, typ, body) ∧ gwlHears h s = true ∧ gwlForeign false h s = false ∧
    gwlAuthentic false typ body h s = true ∧
    tget 0 s.pack.rxSeq (512 * h.keyNumber + h.source) < h.sequence ∧ fwRuns s = true

/-- The length of a message's body. -/
def bodyLen (i : Instr) : Nat := ((protectedMessage i).map (fun m => m.2.2.length)).getD 0

/-- The state in which it acts: the frame has been counted, and the sequence is the highest accepted. -/
def packTaken (i : Instr) (h : PackHeader) (s : State) : State :=
  { gpFrame false (bodyLen i) s with pack := { s.pack with
      rxCnt := s.pack.rxCnt + 1, rxSeq := tset 0 s.pack.rxSeq (512 * h.keyNumber + h.source) h.sequence } }

/-- The overall status of a batch that ran (R83). -/
def batchStatus (sts : List Nat) : Nat :=
  if sts.any failed then stPartial else if sts.any (· == stDeferred) then stDeferred else stOk

/-- The entries that failed. -/
def batchBad (sts : List Nat) : Nat := (sts.filter failed).length

/-- The payload of a batch request whose `n` entries move by DMA from `a`, its statuses to `r` (Table 12-8). -/
def dmaPayload (n a r len : Nat) : Bytes := batchPrefix n 0 ++ le 8 a ++ le 8 r ++ le 4 len ++ zb 4

/-- A batch command of R83 over entries of `esz` bytes, each with the effect `f`, where `pre` holds: inline or by DMA, and
with or without ATOMIC, it answers with every entry's status or with the first failure's. `enter` is what the command
does before its entries and `leave` what it does behind them; an ATOMIC batch that fails keeps no entry's effect, and
`back` is the event it may still raise. -/
def BatchRule (i : Nat → DmaRead → Instr) (op esz max : Nat) (pre : Cmd → State → List Bytes → Prop)
    (f : Cmd → State → Bytes → State → Nat × State) (enter : Cmd → State → State := fun _ s => s)
    (leave : State → List Bytes → State → State := fun _ _ t => t)
    (back : List Nat → List Bytes → State → State := fun _ _ s => s) : Prop :=
  ∀ (s : State) (mb : Nat) (c : Cmd) (d : DmaRead) (es : List Bytes), Taken op mb s c → pre c s es → es ≠ [] →
    es.length ≤ max → (∀ e ∈ es, e.length = esz) →
    let each := runEach (f c s) es (enter c s)
    let all := runUntil (f c s) es (enter c s)
    (nbit c.flags 3 = false → c.payload = batchPrefix es.length 0 ++ es.flatten →
      (nbit c.flags 0 = false → Answers (i mb d) s c ⟨batchStatus each.1, batchBad each.1,
        batchPrefix es.length (batchBad each.1) ++ each.1.flatMap (le 2)⟩ (leave s es each.2)) ∧
      (nbit c.flags 0 = true → es.length ≤ 256 → all.1.any failed = false →
        Answers (i mb d) s c ⟨batchStatus all.1, 0, batchPrefix es.length 0 ++ all.1.flatMap (le 2)⟩
          (leave s es all.2)) ∧
      (nbit c.flags 0 = true → es.length ≤ 256 → all.1.any failed = true →
        Answers (i mb d) s c ⟨all.1.getLastD 0, all.1.length - 1, batchPrefix all.1.length 1⟩
          (leave s es (back all.1 es (enter c s)))) ∧
      (nbit c.flags 0 = true → 256 < es.length →
        Answers (i mb d) s c ⟨stInvalid, 0, []⟩ (leave s es (enter c s)))) ∧
    (nbit c.flags 3 = true → ∀ a r, a < 2 ^ 64 → r < 2 ^ 64 → dmaRange a es.flatten.length = true →
      dmaRange r (2 * es.length) = true → c.payload = dmaPayload es.length a r es.flatten.length →
      d = .data es.flatten → nbit c.flags 0 = false →
      Answers (i mb d) s c ⟨batchStatus each.1, batchBad each.1, batchPrefix es.length (batchBad each.1)⟩
        (leave s es (if r = 0 then each.2 else dmaPut r (each.1.flatMap (le 2)) each.2)))

/-- The effect of one entry of a batch command (R83): a batch of the entry `e` alone, inline and without ATOMIC, answers with the status
and leaves the state that the rule gives for it. -/
def EntryRule (i : Nat → DmaRead → Instr) (op : Nat) (rule : Cmd → Bytes → State → Nat → State → Prop) :
    Prop :=
  ∀ (s : State) (mb : Nat) (c : Cmd) (d : DmaRead) (e : Bytes), Taken op mb s c → nbit c.flags 0 = false →
    nbit c.flags 3 = false → c.payload = batchPrefix 1 0 ++ e →
    ∀ status t, rule c e s status t →
      Answers (i mb d) s c ⟨batchStatus [status], batchBad [status], batchPrefix 1 (batchBad [status]) ++ le 2 status⟩ t

/-- A statistics command over a list of objects of `esz` bytes each, where `pre` holds and every entry names an object: its
answer is the count, the sweep start TOD and one block an entry, the blocks inline or by DMA, and it changes nothing
(R83, R299). At most `inl` blocks go inline. -/
def StatsRule (i : Nat → DmaRead → Instr) (op esz max rsz inl : Nat) (pre : State → Prop) (valid : Bytes → State → Bool)
    (block : Bytes → State → Bytes) : Prop :=
  ∀ (s : State) (mb : Nat) (c : Cmd) (d : DmaRead) (es : List Bytes), Taken op mb s c → pre s → es ≠ [] →
    es.length ≤ max → (∀ e ∈ es, e.length = esz) → (∀ e ∈ es, valid e s = true) →
    let pre := le 2 es.length ++ zb 6 ++ le64 s.tsu.ns
    (nbit c.flags 3 = false → es.length ≤ inl → c.payload = batchPrefix es.length 0 ++ es.flatten →
      AnswersOk (i mb d) s c (pre ++ es.flatMap (fun e => block e s)) s) ∧
    (nbit c.flags 3 = true → ∀ a r, a < 2 ^ 64 → r < 2 ^ 64 → r ≠ 0 → dmaRange a es.flatten.length = true →
      dmaRange r (es.length * rsz) = true → c.payload = dmaPayload es.length a r es.flatten.length →
      d = .data es.flatten →
      AnswersOk (i mb d) s c pre (dmaPut r (es.flatMap (fun e => block e s)) s))

/-- The canonical form of the tables that hold the machine's objects (log entry 3): the memory the DAP reaches and the firewall's
regions, the ports, the slices and the gates, the frames, the channels and their associations, the key and transport slots, the
lineages and PKE contexts, the pack's members, the counter reader's list and results, the meter's channels. -/
structure Canonical (s : State) : Prop where
  mem : TabWf 0 s.prot.mem
  regions : TabWf .reset s.prot.regions
  denyCnt : TabWf 0 s.prot.denyCnt
  ports : TabWf .reset s.ports
  units : TabWf .reset s.slices.units
  gates : TabWf .reset s.gates
  frames : TabWf none s.flow.frames
  scs : TabWf none s.chan.scs
  sas : TabWf none s.chan.sas
  slots : TabWf .reset s.km.slots
  sym : TabWf none s.km.sym
  asym : TabWf none s.km.asym
  ctxs : TabWf none s.km.ctxs
  lineages : TabWf none s.km.lineages
  peers : TabWf .reset s.pack.peers
  crdList : TabWf 0 s.cnt.crdList
  crdResult : TabWf 0 s.cnt.crdResult
  chs : TabWf .reset s.mtr.chs

/-- The bytes of the recorder's ring. -/
def ringBytes (s : State) : Nat := (s.evr.ring.map Rec.size).foldl (· + ·) 0

/-- What every state of a run has: the tables are canonical, and the queues, buffers and logs of bounded length stay within their
bounds (R74, R81, R243, R294, R303, R366, R376, R377, R383; log entry 3). -/
structure Inv (s : State) : Prop where
  tables : Canonical s
  ring : ringBytes s ≤ 262144
  backlog : s.hif.backlog.length ≤ 1024
  staging : ∀ side, (clsOf s side).staging.length ≤ 256
  learnQ : ∀ side, (clsOf s side).learnQ.length ≤ 16
  timestamps : s.tsu.fifo.length ≤ 4096
  hwFifo : s.evr.hwFifo.length ≤ 64
  fwQueue : s.evr.fwQueue.length ≤ 256
  overrides : s.evr.overrides.length ≤ 64
  sessions : s.hif.sessions.length ≤ 16
  evidence : s.tamper.evd.recs.length ≤ 126

end Sys2Proof.Machine
end

