-- ==== Sys2Proof/WellFormed.lean ====
section
/-! DEFINITION. Well-formed commands: the operands lie in the ranges the spec gives the objects they name (mailboxes
0 to 7 and MB_MTR as 8, R288; ports 0 to 64, R35; sides 0 host and 1 line; units 0 to 23, R135; SAH, slots, queues,
alarms, members and the rest in the sizes of their tables). -/
namespace Sys2Proof

/-- The command's operands name objects that exist. -/
def Instr.wellFormed (i : Instr) : Bool :=
  match i with
  | .devProfileSet mb | .devProfileGet mb | .portConfigSet mb | .portConfigGet mb | .portAdminSet mb
  | .portStatusGet mb | .portStatsGet mb | .tblDtSet mb | .tblPtSet mb _ | .tblInsert mb _ | .tblModify mb _
  | .tblDelete mb _ | .tblRead mb | .tblLearnSet mb | .tblFlush mb | .tblStatsGet mb | .scCreate mb
  | .scModify mb | .scDelete mb | .scGet mb | .saInstall mb _ _ | .saArm mb | .saSwitch mb | .saModify mb
  | .saRetire mb _ | .saGet mb | .saStatsGet mb _ | .scStatsGet mb | .scPortStatsGet mb | .scPairSet mb
  | .scPairGet mb | .scPairStatsGet mb | .devSliceStatsGet mb | .devSliceRestore mb | .keyLoad mb
  | .keyGenerate mb | .blobExport mb _ | .blobImport mb _ | .keyEvict mb _ | .keyPinSet mb _ | .keyLineageCreate mb
  | .keyLineageInvalidate mb | .keyLineageGet mb | .keyKwbSet mb | .keyStatsGet mb | .keyStateSave mb _
  | .keyStateRestore mb _ | .blobForwardSeal mb _ | .blobForwardOpen mb _ | .pkeAgree mb | .pkeSlotErase mb
  | .tmPortSet mb | .tmPortGet mb | .tmQueueSet mb _ | .tmQueueGet mb | .tmShaperSet mb _ | .tmShaperGet mb
  | .tmStatsGet mb | .tmQueueStatsGet mb _ | .polSet mb _ | .polGet mb | .polStatsGet mb _ | .gclSet mb _
  | .gclGet mb _ | .gclStatusGet mb | .todGet mb | .todSet mb | .todAdjust mb | .todFreqSet mb | .todPpsSet mb
  | .ptpPortSet mb | .ptpPortGet mb | .ptpClockSet mb | .ptpStatusGet mb | .ptpStatsGet mb | .packCreate mb
  | .packJoin mb | .packLeave mb | .packExpel mb | .packPolicySet mb | .packStatusGet mb | .packDirGet mb _
  | .packStatsGet mb | .epochPrepare mb | .epochEnlist mb _ | .epochAbort mb | .epochStatusGet mb
  | .devInfoGet mb | .devSessionOpen mb | .devSessionClose mb | .devNonceGet mb | .lcStateGet mb
  | .lcStateSet mb _ | .lcDebugUnlock mb | .idCertGet mb _ | .idCsrGet mb _ | .idCertSet mb _ | .idQuoteGet mb
  | .fwImageStage mb _ | .fwImageActivate mb _ | .fwStageAbort mb | .fwStatusGet mb | .tmpStatusGet mb
  | .tmpConfigGet mb | .tmpConfigSet mb | .tmpConfigLock mb | .tmpAlarmClear mb | .evdStatusGet mb
  | .evdLogExport mb _ | .evrConfigSet mb | .evrStatusGet mb | .evrRateSet mb _ | .evrCursorSet mb
  | .cntConfigSet mb _ | .cntConfigGet mb | .cntSweepGet mb _ | .cntThresholdSet mb | .hltReportGet mb
  | .hltMonitorGet mb => decide (mb < 8)
  | .linkUp port | .linkDown port _ | .linkRemoteFault port | .rfaultClear port | .preemptVerification port _
  | .frameReceive _ port _ _ _ | .macControlFrame port _ _ => decide (port < 65)
  | .frameLastByte _ _ _ | .spillSweep | .icvVerification _ | .reorderRelease _ | .entropyHealthFail
  | .serviceResume | .hotsetDecay | .prerollRefill | .muzzle | .muzzleDone | .kmWrap _ _ | .kmClear
  | .stagingTimeout | .tmAdmission _ _ | .shaperRefill | .tmRoomCheck | .expressHeadCheck _
  | .expressSlotStart _ | .policerRefill | .todStep _ | .todLoad _ | .todSlew | .todSlewAbort | .slewComplete
  | .todIncApply _ | .todFracRead | .ppsInEdge _ | .ppsInLost | .todSetPpsTimeout | .ppsOutEdge | .ppsOutFall
  | .ref10mWindow _ | .servoSourceLost _ | .holdoverLimit | .packFragment _ _ | .hello _ _ _ _ _ _ | .joinRefuse _ _
  | .packJoinTimeout | .leave _ | .keyRotate _ _ _ _ | .packKeySwitch | .packOldKeyExpiry | .helloTimer
  | .leadTimeout | .packSyncTimer | .packDelayReqTimer | .sync _ | .followUp _ _ _ _ | .delayReq _
  | .delayResp _ _ _ _ | .dirClaim _ _ | .dirGrant _ _ _ | .dirDeny _ _ | .dirUpdate _ _ _ _ | .dirRelease _ _
  | .epochPrep _ _ | .epochVote _ _ _ | .stateCopy _ _ | .epochDecide _ _ _ _ | .epochAck _ _
  | .epochDecideResend _ | .epochTpReached _ | .epochInDoubt _ | .epochTsReached _ | .epochOverlapEnd _
  | .mbTake _ _ _ | .hifReset _ | .bar0BoundaryFault _ _ _ | .counterLoRead _ _ | .nqEnableWrite _
  | .nqHeadWrite _ | .nqBacklogPost | .nqCoalesceTimer | .nonceExpiry _ | .authLockoutEnd _ | .smbusSclTimeout
  | .smbusRefresh _ _ | .dapAccess _ _ _ _ | .dapHalt | .dapStep | .dapResume | .mpuFault _ _ _ _ _ | .fwlClose
  | .mpuLock _ | .debugLevelGranted | .porLAssert | .porLRelease | .sysRstLAssert | .sysRstLRelease
  | .coreReset | .measLockLow | .lcTransitionCommit | .fwStageWriteDone _ | .tamperSample _ _ _
  | .shadowMismatch _ _ _ | .powerToBattery | .powerFromBattery | .aonPowerLoss | .secLockSet
  | .secLatchedClear _ | .evrEventArrival _ | .evrSummaryTick | .evrTokenRefill _ | .evrForward | .crdStart
  | .crdSweepComplete | .stressTick | .healthDailySample | .meterPowerUp _ | .meterPowerLoss
  | .mtrStatementLatch | .mtrBankFinalSweep | .registerWrite _ _ _ | .aonPowerUp | .controlPathReceive _
  | .timestampFifoDrain _ | .wrapCompleted | .measExtendComplete | .deputyAcknowledgement _ _
  | .voteAcknowledgement _ _ => true
  | .cpInject _ port tc _ _ _ => decide (port < 65) && decide (tc < 8)
  | .flushSweepDone side | .dtWrite side _ | .dtRead side | .xtInsert side _ | .xtModify side _
  | .xtDelete side _ | .xtRead side | .ptWrite side _ | .ptRead side | .xtRemovePort side | .tcuCommit side
  | .tcuAbort side | .tcuOpDone side | .stageDrainDone side | .learnInsert side | .stashRehome side
  | .ageTick side | .learnFifoDrain side | .fetchIssue side => decide (side < 2)
  | .tcuStage side op => decide (side < 2) && decide (op < 16)
  | .rxSaRetireTime sah => decide (sah < 131072)
  | .slotDrained slot | .drainTimeout slot => decide (slot < 16384)
  | .sliceAssign group _ => decide (group < 2)
  | .sliceFault unit _ | .unitResetEnd unit | .maskReseed unit | .clockGatingIdleExpiry unit => decide (unit < 24)
  | .fetchComplete side sah _ => decide (side < 2) && decide (sah < 131072)
  | .kmStgKeyWrite index _ => decide (index < 11)
  | .pkeContextExpiry context => decide (context < 256)
  | .tmSelect port | .tmFrameDeparted port | .pauseFrameSend port | .pauseRepeat port | .tmXoffStuck port
  | .gateEntryAdvance port | .gclChangeTime port => decide (port < 64)
  | .pauseHaltExpiry port tc => decide (port < 64) && decide (tc < 8)
  | .fLastExpiry side queue => decide (side < 2) && decide (queue < 2048)
  | .servoSample _ _ parent => decide (parent.length = 10)
  | .packReassemblyTimeout source _ | .joinReq source _ | .joinAccept source _ _ => decide (source < 512)
  | .memberUnheard member | .memberDepart member => decide (member < 512)
  | .mbRing mb | .mbAbort mb | .mbRelease mb | .mbWatchdog mb | .mtrStatusGet mb | .mtrChannelGet mb
  | .mtrStatementGet mb | .mtrCertGet mb | .mtrBindingSet mb | .mtrBindingGet mb => decide (mb < 9)
  | .mbRequestWrite mb offset _ => decide (mb < 9) && decide (offset < 4096)
  | .smbusRead target code _ | .smbusWrite target code => decide (target < 128) && decide (code < 256)
  | .measExtend index => decide (index < 8)
  | .alarmDetected alarm _ | .alarmConditionEnded alarm => decide (alarm < 24)
  | .evrCursorAdvance cursor _ => decide (cursor < 3)
  | .pmcValueWrite block n _ _ | .pmcWrap block n => decide (block < 16) && decide (n < 8)
  | .thresholdWindow slot => decide (slot < 64)
  | .ageingMeasure monitor _ => decide (monitor < 24)
  | .eyeMeasure lane _ => decide (lane < 66)
  | .meterSweep port dir index => decide (port < 64) && decide (dir < 2) && decide (index < 256)
  | .factoryProvisioning target => decide (target < 8)

end Sys2Proof
end

