-- ==== Sys2Proof/Certificates/Slice0/Obligations.lean ====
section
/-! DEFINITION. The statements for the provers, chapter by chapter. Each statement's docstring names the rules it
comes from; a clause that rests on the model's own choice says so and names the log entry. -/
open Sys2Proof Sys2Proof.Machine

/-! ### The machine as a whole -/

/-- A step runs the command at the front of the queue: it is exec of it, with the queue's rest. On an empty queue one TCLK
cycle passes (the model's choice, log entry 24): while the device is out of reset, TOD and the count of R242 advance by
TOD_INC, without a slew by nothing else; the times that are counted in TCLK run on, and the counters of cycles and the sweep in
progress with them (log entries 33, 59). Everything else stays; where no performance counter is enabled and no sweep is in
progress, of the counters only the count of TCLK changes. -/
def Obligations.StepRunsFrontCommand : Prop :=
  (∀ (s : State) (c : Instr) (rest : List Instr), s.pending = c :: rest → step s = exec c { s with pending := rest }) ∧
  (∀ s : State, s.pending = [] → live s = true → s.tsu.slew = 0 → ∃ t, step s = .next t ∧
    todNow t = (todNow s + (s.tsu.inc : Int)) % (2 ^ 96 : Int) ∧ t.tsu.count = s.tsu.count + s.tsu.inc ∧
    t.mtr.clocks = s.mtr.clocks + (if s.mtr.powered then 1 else 0) ∧
    t = { s with
      tsu := { s.tsu with ns := t.tsu.ns, frac := t.tsu.frac, count := t.tsu.count, ppsDue := t.tsu.ppsDue }
      mtr := { s.mtr with clocks := t.mtr.clocks }
      boot := { s.boot with porClk := s.boot.porClk + 1, pinClk := s.boot.pinClk + 1 }
      tamper := { s.tamper with rtcDue := true }
      cnt := t.cnt, slices := { s.slices with units := t.slices.units }, free := t.free } ∧
    ((∀ e ∈ s.cnt.pmc, e.2.enable = false) → s.cnt.crdSweep = none →
      t.cnt = { s.cnt with tclk := s.cnt.tclk + 1 } ∧ t.slices = s.slices ∧ t.free = s.free))

/-- Reset leaves the values the spec states: the knobs of BALANCED (R19), ports DISABLED (R36), mailboxes as in Table 12-4
and the host registers as in Table 12-3 (R285, R288), an empty recorder whose sequences start at 1 (R372, R378), the
debug registers and the firewall's window as in Table 13-5 (R318, R320), the measurements 0 (R337), the default alarm
classes of Table 15-1 (from LOG, 1, to RETIRE, 5) with no ERASE_SHARE (R362), counters 0 (R386). In it the invariant of the statement below holds. No clause
names a value that the model chose. -/
def Obligations.ResetLeavesSpecValues : Prop :=
  let s := State.reset
  (s.profile.preroll = true ∧ s.profile.maskFull = true ∧ s.profile.lurcher = false ∧ s.profile.split = 1 ∧
    s.profile.gating = 1) ∧
  (∀ p, (port s p).st = .disabled ∧ (port s p).cfg.role = 0 ∧ (port s p).cnt.rxFrames = 0) ∧
  (∀ mb, mb < 8 → (getMb s mb).st = .idle ∧ (getMb s mb).overrun = false ∧ (getMb s mb).completions = 0 ∧
    (getMb s mb).irqEn = true ∧ (getMb s mb).timeoutMs = 0x3E8 ∧ (getMb s mb).tag = 0) ∧
  (s.hif.irqStatus = 0 ∧ s.hif.irqMask = 0 ∧ s.hif.xboundCnt = 0 ∧ s.hif.smbAddr = 0x5A ∧ s.hif.smbLock = false ∧
    s.hif.nqBase = 0 ∧ s.hif.nqEnable = false ∧ s.hif.nqSize = 6 ∧ s.hif.coalCount = 1 ∧ s.hif.coalUs = 0 ∧
    s.hif.nqHead = 0 ∧ s.hif.nqTail = 0 ∧ s.hif.nqPhase = true ∧ s.hif.nqLostCnt = 0 ∧ s.hif.authFailCnt = 0) ∧
  (s.evr.ring = [] ∧ s.evr.next = 1 ∧ s.evr.wrapped = false ∧ s.evr.thresh = 0x100 ∧
    (∀ c ∈ [s.evr.cur0, s.evr.cur1, s.evr.cur2], c.seq = 1 ∧ c.lost = false ∧ c.lostCnt = 0)) ∧
  s.tamper.cfg.alarms = [2, 4, 2, 2, 2, 2, 1, 3, 4, 2, 3, 4, 4, 3, 4, 4, 4, 4, 4, 2, 4, 2, 4, 2].map (fun c => (c, false)) ∧
  (s.prot.window = true ∧ s.prot.mpuEnable = false ∧ s.prot.privdef = true ∧ s.prot.mpuLock = false ∧
    s.prot.mpuValid = false ∧ (∀ m, tget 0 s.prot.denyCnt m = 0)) ∧
  (∀ i, i < 8 → pad 48 (tget [] s.boot.meas i) = zb 48) ∧
  (∀ k n, (pmcOf s k n).value = 0 ∧ (pmcOf s k n).enable = false ∧ (pmcOf s k n).filter = 0xFF) ∧
  (s.cnt.crdCount = 1 ∧ s.cnt.crdBusy = false) ∧ s.mtr.gen = 0 ∧ s.mtr.life = 0 ∧ Inv s

/-- Every step keeps the invariant, from every state in which it holds: the tables that hold the machine's objects stay canonical
(log entry 3); the recorder's ring stays within 262,144 bytes (R377), the crossing FIFO and the firmware queue of events within
their 64 and 256 entries (R376), the rate overrides within 64 (R383), the notification backlog within 1,024 (R303), the sessions
within 16 (R294), the staging buffers within 256 changes (R81), the learn queues within 16 (R74), the timestamp FIFO within 4,096
(R243), the evidence log within 126 records (R366). -/
def Obligations.StepKeepsInvariant : Prop :=
  ∀ s t : State, Inv s → step s = .next t → Inv t

/-- An answer to a command: its mailbox enters DONE, COMPLETIONS advances, and the response area holds the 16-byte header
with the opcode, the status, the tag, the length, the detail and the low 32 bits of TOD, then the payload, and keeps
its other bytes (R289, R291, R293). Without flag NOTIFY, and with OK_DEFERRED, no notification is posted; with it one
COMPLETION is. With IRQ_EN the mailbox's vector is signalled (R288, R304). Nothing outside the host interface, the
recorder and MB_MTR changes. A command whose response is to be discarded writes nothing (R310). -/
def Obligations.AnswersAreWritten : Prop :=
  ∀ (s : State) (c : Cmd) (r : Reply),
    let t := finish c r s
    let head := le 2 c.opcode ++ le 2 r.status ++ le 2 c.tag ++ le 2 r.payload.length ++ le 4 r.detail ++
      le 4 s.tsu.ns.toNat
    let silent := nbit c.flags 1 = false ∨ r.status = stDeferred ∨ c.mb = 8
    OnlyAnswer s t ∧ t.hif.cmds = s.hif.cmds.erase c ∧
    (c.discard = true → t = { s with hif := { s.hif with cmds := s.hif.cmds.erase c } }) ∧
    (c.discard = false →
      (getMb t c.mb).st = .done ∧ (getMb t c.mb).completions = (getMb s c.mb).completions + 1 ∧
      (getMb t c.mb).overrun = (getMb s c.mb).overrun ∧ (getMb t c.mb).req = (getMb s c.mb).req ∧
      bufRead (getMb t c.mb).resp 0 (16 + r.payload.length) = head ++ r.payload ∧
      (∀ i, 16 + r.payload.length ≤ i → tget 0 (getMb t c.mb).resp i = tget 0 (getMb s c.mb).resp i) ∧
      (∀ mb, mb ≠ c.mb → getMb t mb = getMb s mb) ∧
      (∀ v, v < 8 ∨ v = 11 → t.hif.irqStatus.getLsbD v = (s.hif.irqStatus.getLsbD v ||
        (decide (v = mbVector c.mb) && (getMb s c.mb).irqEn && (decide (v ≠ 11) || s.boot.meterFuse) && live s))) ∧
      (silent → t.evr = s.evr ∧ t.hif.nqRing = s.hif.nqRing ∧ t.hif.nqTail = s.hif.nqTail ∧
        t.hif.backlog = s.hif.backlog ∧ t.hif.nqLostCnt = s.hif.nqLostCnt) ∧
      (¬ silent → nqRoom s.hif = true → s.hif.backlog = [] → s.hif.nqAfter = [] → s.hif.nqEpisode = none →
        t.hif.nqRing = (s.hif.nqRing.filter (fun x => x.1 != s.hif.nqTail.toNat)) ++ [(s.hif.nqTail.toNat,
          ⟨1, completionBody c.opcode r.status c.tag c.mb c.session r.detail, s.hif.nqPhase, lo32 s.tsu.ns⟩)]) ∧
      (¬ silent → s.hif.backlog.length < 1024 →
        (nqRoom s.hif = false ∨ s.hif.backlog ≠ [] ∨ s.hif.nqAfter ≠ [] ∨ s.hif.nqEpisode ≠ none) →
        t.hif.backlog = s.hif.backlog ++ [⟨1,
          completionBody c.opcode r.status c.tag c.mb c.session r.detail, false, 0⟩]))

/-! ### Ports and the frame path (02_ports_frame_path.md) -/

/-- PORT_ADMIN_SET answers as R57 lists and drives Table 2-3 (R57, R40): malformed requests give INVALID_ARG, an up that
the port's state or pairing forbids gives WRONG_STATE, neither changes anything; every other request is accepted, also
one for the state the port already has. R57 gives its statuses no order and a payload of another length no answer: that
INVALID_ARG comes first, and is the answer to such a payload, is the model's choice (log entries 65, 66). -/
def Obligations.PortAdminSetAnswers : Prop :=
  ∀ (s : State) (mb : Nat) (c : Cmd), Taken 0x0102 mb s c → lcBad s = false →
    let n := u8 c.payload 0
    let malformed := c.payload.length ≠ 4 ∨ 64 < n ∨ 1 < u8 c.payload 1 ∨ zeros c.payload 2 2 = false
    (malformed → Turned (.portAdminSet mb) s c stInvalid) ∧
    (¬ malformed → u8 c.payload 1 = 1 → ((port s n).st = .disabled ∨ pairedUp s n = false) →
      Turned (.portAdminSet mb) s c stWrongState) ∧
    (¬ malformed → u8 c.payload 1 = 1 → (port s n).st ≠ .disabled → pairedUp s n = true →
      ∃ t, AnswersOk (.portAdminSet mb) s c [] t ∧
        (port t n).st = (if (port s n).st = .adminDown then .linkWait else (port s n).st)) ∧
    (¬ malformed → u8 c.payload 1 = 0 →
      ∃ t, AnswersOk (.portAdminSet mb) s c [] t ∧
        (port t n).st = (if (port s n).st = .disabled then .disabled else .adminDown))

/-- PORT_CONFIG_SET with settings that suit the port and its state is stored and moves the port between DISABLED and
ADMIN_DOWN (Table 2-3); PORT_CONFIG_GET, PORT_STATUS_GET and PORT_STATS_GET return Tables 2-12, 2-13 and 2-10 and change
nothing (R36, R38, R40, R54, R56, R58). -/
def Obligations.PortCommandsComplete : Prop :=
  (∀ (s : State) (mb : Nat) (c : Cmd), Taken 0x0100 mb s c → lcBad s = false → c.payload.length = 32 →
    cfgEncoded c.payload = true →
    ((cfgOf c.payload).role = 0 ∨ cfgSuits s (u8 c.payload 0) (cfgOf c.payload) = true) →
    cfgAllowed s (u8 c.payload 0) (cfgOf c.payload) = true →
    let n := u8 c.payload 0
    let stored := setPort n (fun x => { x with cfg := cfgOf c.payload }) s
    AnswersOk (.portConfigSet mb) s c []
      (follow (if (cfgOf c.payload).role = 0 then
          (if (port s n).st = .disabled then stored else enterPort n .disabled stored)
        else if (port s n).st = .disabled then enterPort n .adminDown stored else stored))) ∧
  (∀ (s : State) (mb n : Nat) (c : Cmd), Taken 0x0101 mb s c → lcBad s = false → n ≤ 64 →
    c.payload = [BitVec.ofNat 8 n, 0, 0, 0] →
    AnswersOk (.portConfigGet mb) s c (cfgBytes n (port s n).cfg) s) ∧
  (∀ (s : State) (mb n : Nat) (c : Cmd), Taken 0x0103 mb s c → lcBad s = false → n ≤ 64 →
    c.payload = [BitVec.ofNat 8 n, 0, 0, 0] →
    AnswersOk (.portStatusGet mb) s c
      ([BitVec.ofNat 8 n, BitVec.ofNat 8 (port s n).st.code, BitVec.ofNat 8 (port s n).locked,
        BitVec.ofNat 8 (mask [(port s n).localFault, (port s n).remoteFault, (port s n).forcing,
          (port s n).preemptOn, (pairOf s n).isSome, blocked s n])] ++ le64 (port s n).lastChange ++ zb 4) s) ∧
  (∀ (s : State) (mb n : Nat) (c : Cmd), Taken 0x0104 mb s c → lcBad s = false → n ≤ 64 →
    c.payload = [BitVec.ofNat 8 n, 0, 0, 0] →
    AnswersOk (.portStatsGet mb) s c
      ([BitVec.ofNat 8 n, 0] ++ zb 6 ++ le64 s.tsu.ns ++ (port s n).cnt.list.flatMap le64) s) ∧
  (∀ (s : State) (mb n : Nat) (c : Cmd), Taken 0x0104 mb s c → lcBad s = false → n ≤ 64 →
    (port s n).cfg.role ≠ 0 → c.payload = [BitVec.ofNat 8 n, 1, 0, 0] →
    let k := modeLanes (port s n).cfg.lane
    AnswersOk (.portStatsGet mb) s c
      ([BitVec.ofNat 8 n, BitVec.ofNat 8 k] ++ zb 6 ++ le64 s.tsu.ns ++ (port s n).cnt.list.flatMap le64 ++
        (List.range k).flatMap (fun i => le64 (tget 0 (port s n).fecSym i))) s)

/-- The link events drive Table 2-3 (R40, R55): each takes a port from the states the table lists to the next one, at
the time of the event, and in every other state leaves the port's state as it is; a port that comes up while Remote Fault
is received goes on to RFAULT (DEDUCED: log entry 121). -/
def Obligations.LinkEventsFollowTable : Prop :=
  ∀ (s : State) (p : Nat), live s = true →
    (∃ t, exec (.linkUp p) s = .next t ∧
      (port t p).st = (if (port s p).st = .linkWait then (if (port s p).remoteFault then .rfault else .up)
        else (port s p).st) ∧
      ((port s p).st = .linkWait → (port t p).lastChange = s.tsu.ns)) ∧
    (∀ cause, ∃ t, exec (.linkDown p cause) s = .next t ∧
      (port t p).st = (if (port s p).st = .up ∨ (port s p).st = .rfault then .linkWait else (port s p).st) ∧
      ((port s p).st = .up ∨ (port s p).st = .rfault → (port t p).lastChange = s.tsu.ns ∧
        (port t p).cnt.linkDown = (port s p).cnt.linkDown + 1)) ∧
    (∃ t, exec (.linkRemoteFault p) s = .next t ∧
      (port t p).st = (if (port s p).st = .up then .rfault else (port s p).st) ∧
      ((port s p).st = .up → (port t p).lastChange = s.tsu.ns)) ∧
    (∃ t, exec (.rfaultClear p) s = .next t ∧
      (port t p).st = (if (port s p).st = .rfault then .up else (port s p).st) ∧
      ((port s p).st = .rfault → (port t p).lastChange = s.tsu.ns))

/-- PREEMPT_VERIFICATION and MAC_CONTROL_FRAME (R38, R55, R442): a success makes preemption active and raises 0x1005, the
third failure raises 0x1006; a MAC Control frame that passes the receive checks is counted in RX_PAUSE_CNT and has the
effect of R202 alone, one that fails them is counted there instead. -/
def Obligations.PreemptionAndMacControl : Prop :=
  (∀ (s : State) (p : Nat), live s = true → (port s p).cfg.preempt = 1 →
    ((port s p).st = .up ∨ (port s p).st = .rfault) → (port s p).preemptOn = false → (port s p).preemptFails < 3 →
    exec (.preemptVerification p true) s =
      .next (evH 0x1005 (le 1 p) (setPort p (fun x => { x with preemptOn := true }) s)) ∧
    exec (.preemptVerification p false) s = .next
      (let t := setPort p (fun x => { x with preemptFails := x.preemptFails + 1 }) s
       if (port s p).preemptFails = 2 then evH 0x1006 (le 1 p) t else t)) ∧
  (∀ (s : State) (p : Nat) (data : Bytes) (check : RxCheck), live s = true →
    ((port s p).st = .up ∨ (port s p).st = .rfault) → beNat (sub data 12 2) = 0x8808 → check.mergeBad = false →
    exec (.macControlFrame p data check) s = .next
      (match rxCause check (data.length + 4) (port s p).cfg.maxFrame with
       | some f => cntPort p f s
       | none => flowControl p data (cntPort p (fun c => { c with rxPause := c.rxPause + 1 }) s)))

/-- FRAME_RECEIVE (R43, R44, R48, R61 to R64, R86, R216, R217, R219): an invalid SecTAG is counted in RX_BADTAG_CNT; the results of
DT, XT and PT are merged in this order, and for a frame with a SecTAG only the XT supplies the SC; the first check of Table 3-4
that applies drops the frame and counts it, an unknown SCI may start a learn request; a frame that proceeds has its TC, queue and flags
completed, and the colour of Table 9-1 is decided for a CONTROLLED or TO_CP frame that names a policer: a red one is counted and gone; an
UNCONTROLLED frame is counted and goes to the traffic manager, one to the CP to the control path, a CONTROLLED one of a host
port to the PN allocator, one of a line port, TRANSCRYPT or not, with E and C as its SA's and past the replay check to the KENNEL of
its decryption. FRAME_LAST_BYTE, CP_INJECT, CONTROL_PATH_RECEIVE and TIMESTAMP_FIFO_DRAIN (R44, R48, R51, R53, R218, R243): at its last
byte a frame owes its policer what was decided, unless a POL_SET has committed since; one that fails a receive-MAC check is counted in the
winner's counter and ended under R50, with MAX_FRAME + 1 bytes at most, and any other one counts in RX_FRAMES_CNT and RX_OCTETS_CNT,
passes the meter's tap and goes on, unless a length condition of R48 fails, which counts it in RX_BADTAG_CNT and ends it; a
frame injected without a TX SC enters the named port's traffic manager in clear with its traffic class, one with a TX SC of
that port the PN allocator; the firmware takes the oldest frame of the control path, and the oldest record of the timestamp
FIFO. That the SC record is read before the policer decides, for an unpoliced frame as for a policed one, is the model's
choice (log entry 105). -/
def Obligations.FramePathCompletes : Prop :=
  (∀ (s : State) (id p : Nat) (hdr : Bytes) (early : Option Nat) (fec : FecReport), live s = true → p < 64 →
    ((port s p).st = .up ∨ (port s p).st = .rfault) → hbe hdr 12 2 ≠ 0x8808 → fec.mergeBad = false →
    frameOf (fecCount p fec s) id = none →
    let s0 := fecCount p fec s
    let ph := capturePhase s0
    let f := { Frame.enter .clear .gone (some p) ((pairOf s0 p).getD p) hdr with
      tRx := (rxStamp s0 p ph.1).1, tRxFrac := (rxStamp s0 p ph.1).2, rxCount := s0.tsu.count + ph.1, early := early
      strict := (port s0 p).cfg.missOrder == 1 }
    let s1 := occur (2 + portSide p) 1 p 1 (setFrame id (some f) ph.2)
    let ps := parse (decide (32 ≤ p)) hdr
    let side := portSide p
    let sec := ps.tag.isSome
    let cut := fun (r : ClsRes) => if sec then { r with valid := r.valid &&& 0x3D } else r
    let dt := dtView (clsOf s1 side) p (if sec then 0 else ps.vid)
    let xt := xtLookup side (frameKey s1 p ps) s1
    let pt := ptLookup side (ptKey p hdr ps) xt.2
    let put := fun (m r : ClsRes) => { m with
      valid := m.valid ||| r.valid
      decision := if r.valid.getLsbD 0 then r.decision else m.decision
      sch := if r.valid.getLsbD 1 then r.sch else m.sch
      pol := if r.valid.getLsbD 2 then r.pol else m.pol
      tc := if r.valid.getLsbD 3 then r.tc else m.tc
      queue := if r.valid.getLsbD 4 then r.queue else m.queue
      flags := if r.valid.getLsbD 5 then r.flags else m.flags }
    let m := ((xt.1.toList ++ (pt.1.map cut).toList)).foldl put (put .reset (cut dt))
    let xtSc := (xt.1.map (fun r => r.valid.getLsbD 1)).getD false
    let hit := occur (2 + side) (if xt.1.isSome then 2 else 3) p 1 pt.2
    let u := if pt.1.isSome then occur (2 + side) 4 p 1 hit else hit
    let run := exec (.frameReceive id p hdr early fec) s
    ((ps.tag.map badTag).getD false = true → run = .next (cntBadtag p s1)) ∧
    ((ps.tag.map badTag).getD false = false →
      (m.valid.getLsbD 0 = false → run = .next (cntCls p (fun c => { c with default := c.default + 1 }) u)) ∧
      (m.valid.getLsbD 0 = true →
        (m.decision = 2 → run = .next (cntCls p (fun c => { c with drop := c.drop + 1 }) u)) ∧
        (m.decision = 0 → 32 ≤ p → ps.tag = none →
          run = .next (cntCls p (fun c => { c with untagged := c.untagged + 1 }) u)) ∧
        (m.decision = 0 → 32 ≤ p → sec = true → xtSc = false → run = .next (learnStart p (frameKey u p ps).key m.flags
          { u with chan := { u.chan with unknownSci := tmod 0 u.chan.unknownSci (p % 32) (· + 1) } })) ∧
        (m.decision = 0 → (p < 32 → m.valid.getLsbD 1 = false ∨ scFits u p m.sch = false) →
          (32 ≤ p → sec = true ∧ xtSc = true ∧ scFits u p m.sch = false) →
          run = .next (cntCls p (fun c => { c with nosc := c.nosc + 1 }) u)) ∧
        (m.decision = 1 ∨ m.decision = 3 ∨ (m.decision = 0 ∧ scFits u p m.sch = true ∧
            (p < 32 → m.valid.getLsbD 1 = true) ∧ (32 ≤ p → sec = true ∧ xtSc = true)) →
          let eg := (pairOf u p).getD p
          let far := m.valid.getLsbD 4 && !inRange (rangeOf (tmOf u (tmSide eg)) (tmSide eg) (eg % 32)) m.queue
          let tc := if m.valid.getLsbD 3 then m.tc else match ps.outer with
            | some (_, tci) => tci / 8192
            | none => 0
          let flags := if m.valid.getLsbD 5 then m.flags else 0
          let v := if far then setCls side (fun c => { c with queueOorCnt := c.queueOorCnt + 1 }) u else u
          let x := polOf v side m.pol
          let yellow := x.aware ∧ (flags.getLsbD 1 = true ∨ (ps.outer.map (fun t => nbit t.2 12)).getD false = true)
          let named := m.valid.getLsbD 2 = true ∧ m.decision ≠ 1
          let by91 : Nat × Bool × Bool :=
            if x.mode = 1 then
              if ¬ yellow ∧ 0 < x.c then (0, true, false) else if 0 < x.e then (1, false, true) else (2, false, false)
            else if x.mode = 2 then
              if x.e ≤ 0 then (2, false, false) else if yellow ∨ x.c ≤ 0 then (1, false, true) else (0, true, true)
            else (0, false, false)
          let g := { f with
            debit := if named then some ⟨side, m.pol, x.epoch, by91.2.1, by91.2.2, by91.1⟩ else none
            yellow := decide (named ∧ by91.1 = 1), tc := tc
            clsQueue := if m.valid.getLsbD 4 && !far then some m.queue else none }
          let w := if named ∧ by91.1 ≠ 0 then occur (2 + side) (9 - by91.1) p 1 v else v
          (named → by91.1 = 2 → run = .next (setPol side m.pol (fun y => { y with red := y.red + 1 })
            (setFrame id (some g) w))) ∧
          (¬ (named ∧ by91.1 = 2) →
            (m.decision = 1 → run = .next (cntPort p (fun c => { c with rxUncontrolled := c.rxUncontrolled + 1 })
              (setFrame id (some { g with stage := .arrive }) w))) ∧
            (m.decision = 3 → run = .next (setFrame id (some { g with kind := .cp, stage := .toCp }) w)) ∧
            (m.decision = 0 → p < 32 → run = .next (txEnter id m.sch (setFrame id (some { g with
              kind := .enc, stage := .toCp, pair := portRate w p == 800, express := flags.getLsbD 0
              txSch := some m.sch }) w))) ∧
            (m.decision = 0 → ∀ t, 32 ≤ p → ps.tag = some t →
              let kind := if (port w p).cfg.role = 3 then Kind.xcDec else Kind.dec
              let h := { g with kind := kind, stage := .toCp, pair := portRate w p == 800 }
              let y := setFrame id (some h) w
              let sa := saAt y m.sch (t.tci % 4)
              let lives := fun (a : Sa) => a.rx = true ∧ (a.st = .active ∨ a.st = .retiring)
              let agrees := fun (a : Sa) => nbit t.tci 3 = !a.integrityOnly ∧ nbit t.tci 2 = !a.integrityOnly
              (∀ k a, sa = some (k, a) → lives a → ¬ agrees a → run = .next (discard id (cntBadtag p y))) ∧
              ((∀ k a, sa = some (k, a) → lives a → agrees a) → ∀ o z, replayCheck m.sch (t.tci % 4) t.pn y = (o, z) →
                (o = none → run = .next (discard id z)) ∧
                (∀ k pn a, o = some (k, pn) → saOf z k = some a → run = .next (kennel 1 id (setFrame id (some { h with
                  rxSch := some m.sch, rxSah := some k, rxPn := pn
                  heel := heelMode z a (kind == Kind.xcDec) }) z)))))))))) ∧
  (∀ (s : State) (id p : Nat) (f : Frame) (data : Bytes) (check : RxCheck), live s = true → frameOf s id = some f →
    f.ingress = some p → f.data = none → f.stage ≠ .gone → f.aborted = false → p ≠ 64 →
    let maxF := (port s p).cfg.maxFrame
    let len := Nat.min (data.length + 4) (maxF + 1)
    let got := if maxF < data.length + 4 then data.take (maxF + 1) else data
    let f1 := { f with data := some got }
    let pays := fun (d : Debit) (u : State) => if d.colour = 2 then u else setPol d.side d.index (fun x =>
      let k := max 1 ((len : Int) + x.adjust) * 16777216
      if x.epoch = d.epoch then { x with c := if d.c then x.c - k else x.c, e := if d.e then x.e - k else x.e } else x) u
    let counts := fun (d : Debit) (u : State) => setPol d.side d.index (fun x =>
      if d.colour = 0 then { x with green := x.green + 1, greenOct := x.greenOct + BitVec.ofNat 64 len }
      else if d.colour = 1 then { x with yellow := x.yellow + 1, yellowOct := x.yellowOct + BitVec.ofNat 64 len }
      else { x with redOct := x.redOct + BitVec.ofNat 64 len }) u
    let s1 := match f.debit with
      | none => setFrame id (some f1) s
      | some d => counts d (pays d (setFrame id (some f1) s))
    let good := meterTap p 0 data (cntPort p (fun c => { c with
      rxFrames := c.rxFrames + 1, rxOctets := c.rxOctets + BitVec.ofNat 64 (data.length + 4) }) s1)
    let ends := fun (u : State) => (if f.stage = .kwb then kwbLost f1 else fun v => v) (endFrame id 2 (sliceSpoil id false u))
    (∀ g, rxCause check (data.length + 4) maxF = some g → exec (.frameLastByte id data check) s = .next (ends (cntPort p g s1))) ∧
    (rxCause check (data.length + 4) maxF = none → endBadtag p f1 data = true →
      exec (.frameLastByte id data check) s = .next (ends (cntBadtag p good))) ∧
    (rxCause check (data.length + 4) maxF = none → endBadtag p f1 data = false →
      exec (.frameLastByte id data check) s = .next (lastByteGood id f1 good))) ∧
  (∀ (s : State) (id p tc : Nat) (data : Bytes) (o : InjectOpts), cpRuns s = true → p < 64 → tc ≤ 7 →
    frameOf s id = none →
    let f := { Frame.enter .clear .arrive none p data with
      data := some data, tc := tc, origin := o.origin, capture := o.capture }
    exec (.cpInject id p tc none data o) s = .next (setFrame id (some f) s) ∧
    (∀ sch c, scOf s sch = some c → c.rx = false → c.port = p →
      exec (.cpInject id p tc (some sch) data o) s = .next
        (txEnter id sch (setFrame id (some { f with
          kind := .enc, stage := .toCp, pair := portRate s p == 800, express := o.express && (port s p).cfg.role == 2
          txSch := some sch }) s)))) ∧
  (∀ (s : State) (f : CpFrame) (rest : List CpFrame), fwRuns s = true → s.flow.cpFifo = f :: rest →
    exec (.controlPathReceive none) s = .next
      (ptpNote f { s with flow := { s.flow with cpFifo := rest, cpLast := some f } }) ∧
    (∀ k, ptpPdelay f.data = true → s.tsu.clockPort = f.port → exec (.controlPathReceive (some k)) s = .next
      (setPtp f.port (fun x => { x with linkDelay := k })
        (ptpNote f { s with flow := { s.flow with cpFifo := rest, cpLast := some f } })))) ∧
  (∀ (s : State) (id p : Nat) (t : W64) (frac : W32) (rest : List TsRec), fwRuns s = true → frameOf s id = none →
    s.tsu.fifo = .rx p t frac :: rest →
    exec (.timestampFifoDrain id) s = .next
      (setTsu (fun x => { x with fifo := rest, drained := some (.rx p t frac), overflow := false }) s))


/-! ### The classifier (03_classifier.md) -/

/-- The TBL_* commands (R65, R68, R69, R77, R82, R84). TBL_DT_SET, TBL_READ, TBL_LEARN_SET, TBL_FLUSH and TBL_STATS_GET with valid arguments: the range of DT
entries takes the result; a read returns the entry and its location; learning and ageing take the settings, 0 keeping the
side's; a flush answers OK_DEFERRED with its sweep begun; the statistics are Table 3-13. Each in a life-cycle state that
allows it; those that read or write the tables act behind the TCU's operation and drain (log entry 115). An entry of TBL_INSERT makes a
learned entry of its key static with the new result, refuses a static one with EXISTS, and else goes to the first free place of R68: a
free candidate, a relocation of one move, of two, a stash slot; without one it gives NO_ROOM and event 0x2003. An entry of TBL_MODIFY
replaces the result of its key's entry, and makes a learned one static with STATIC 1; without STATIC only a learned entry takes it,
and only an empty result. An entry of TBL_DELETE removes its key's entry. That these find a key whose entry is only staged is the
model's choice (log entry 133). It is the model's choice
that a flush removes its entries when its sweep ends and that these commands do not show in the TCU's registers (log entry 74), and
that TBL_LEARN_SET raises no event itself (log entry 102). -/
def Obligations.TableCommandsComplete : Prop :=
  (∀ (s : State) (mb p first n : Nat) (res : Bytes) (c : Cmd), Taken 0x0200 mb s c → lcBad s = false → p < 64 →
    0 < n → first + n ≤ 4096 → (nbit c.flags 0 = true → n ≤ 256) → res.length = 16 → resOk res = true →
    c.payload = le 1 p ++ zb 1 ++ le 2 first ++ le 2 n ++ zb 2 ++ res →
    AnswersOk (.tblDtSet mb) s c [] (setCls (portSide p) (fun x => (List.range n).foldl (fun x k =>
      { x with dt := tset .reset x.dt (p % 32 * 4096 + (first + k)) (resOf res) }) x) (tcuSettled s))) ∧
  (∀ (s : State) (mb p vid : Nat) (c : Cmd), Taken 0x0205 mb s c → lcBad s = false → p < 64 → vid < 4096 →
    c.payload = le 1 0 ++ le 1 p ++ le 2 vid ++ zb 16 →
    AnswersOk (.tblRead mb) s c (le 1 0 ++ zb 3 ++ le 4 0 ++
      pad 72 (resBytes (tget .reset (clsOf (tcuSettled s) (portSide p)).dt (p % 32 * 4096 + vid))) ++ le64 0)
      (tcuSettled s)) ∧
  (∀ (s : State) (mb l : Nat) (x : Bytes) (e : XtEntry) (c : Cmd), Taken 0x0205 mb s c → lcBad s = false →
    x.length = 16 → keyOk x = true → u8 x 12 = 0 → u8 x 13 = 0 →
    xtHolds (clsOf (tcuSettled s) (portSide (u8 x 1))) (keyOfBytes x) = some l →
    xtAt (clsOf (tcuSettled s) (portSide (u8 x 1))) l = some e → c.payload = le 1 1 ++ zb 3 ++ x →
    AnswersOk (.tblRead mb) s c (le 1 1 ++ zb 3 ++ le 4 (locWord l).toNat ++
      pad 72 (xtBytes (clsOf (tcuSettled s) (portSide (u8 x 1))) e) ++ le64 0) (tcuSettled s)) ∧
  (∀ (s : State) (mb side k : Nat) (e : PtEntry) (c : Cmd), Taken 0x0205 mb s c → lcBad s = false → side < 2 →
    k < 8192 → tget none (clsOf (tcuSettled s) side).pt k = some e → c.payload = le 1 2 ++ le 1 side ++ le 2 k ++ zb 16 →
    AnswersOk (.tblRead mb) s c (le 1 2 ++ zb 3 ++ le 4 0 ++ pad 72 (ptBytes side k e) ++ le64 e.hits) (tcuSettled s)) ∧
  (∀ (s : State) (mb p notify limit tick age : Nat) (on : Bool) (c : Cmd), Taken 0x0206 mb s c → lcBad s = false →
    p < 64 → (on = true → 32 ≤ p) → notify ≤ 3 → limit < 65536 → tick < 65536 → age < 256 →
    c.payload = le 1 p ++ bit8 on ++ le 1 notify ++ zb 1 ++ le 2 limit ++ le 2 tick ++ le 1 age ++ zb 7 →
    AnswersOk (.tblLearnSet mb) s c [] (limitClear (portSide p) (setCls (portSide p) (fun x => { x with
      learn := tset .reset x.learn (p % 32) ⟨on, nbit notify 0, nbit notify 1, limit⟩
      ageTick := if tick = 0 then x.ageTick else BitVec.ofNat 16 tick
      ageLimit := if age = 0 then x.ageLimit else BitVec.ofNat 8 age }) s))) ∧
  (∀ (s : State) (mb p scope : Nat) (c : Cmd), Taken 0x0207 mb s c → lcBad s = false → nbit c.flags 0 = false →
    p < 64 → scope ≤ 2 → c.payload = le 1 p ++ le 1 scope ++ zb 2 →
    Answers (.tblFlush mb) s c ⟨stDeferred, 0, []⟩ (setCls (portSide p)
      (fun x => { x with flushes := x.flushes ++ [⟨p, scope, s.hif.nextDeferred⟩] })
      (deferAdd s.hif.nextDeferred (deferOpen c s)))) ∧
  (∀ (s : State) (mb side : Nat) (c : Cmd), Taken 0x0208 mb s c → lcBad s = false → side < 2 →
    c.payload = le 1 side ++ zb 3 →
    let x := clsOf s side
    AnswersOk (.tblStatsGet mb) s c (le 1 side ++ zb 7 ++ le64 s.tsu.ns ++
      le 4 (tkeys (fun l e => decide (l < stashBase) && e.isSome) x.xt).length ++ le 2 (stashUse x) ++ zb 2 ++
      le 4 (tkeys (fun _ e => e.any (·.learned)) x.xt).length ++ zb 4 ++
      [x.insertCnt, x.moveCnt, x.stashCnt, x.learnCnt, x.evictCnt, x.failCnt, x.limitCnt, x.dropCnt, x.noticeLostCnt,
        x.ageRemoveCnt, x.queueOorCnt, 0].flatMap le64 ++
      (List.range 32).flatMap (fun k => [(tget .reset x.perPort k).drop, (tget .reset x.perPort k).default,
        (tget .reset x.perPort k).untagged, (tget .reset x.perPort k).nosc].flatMap le64)) s) ∧
  EntryRule .tblInsert 0x0202 (fun _ e s status t =>
    lcBad s = false ∧ e.length = 32 ∧
    let u := tcuSettled s
    let side := portSide (u8 e 1)
    let c := clsOf u side
    let k := keyOfBytes e
    let r := resOf (e.drop 16)
    let changed := fun (x : Cls) => xtChanged side (setCls side (fun _ => x) u)
    let free := fun (ls : List Nat) => (ls.find? (fun l => (xtAt c l).isNone)).map (fun l => Place.mk [] l)
    let place := (((free (xtCands c k)).or (path1 c k)).or (path2 c k)).or (free stashLocs)
    let bad := keyOk e = false ∨ u8 e 12 ≠ 1 ∨ u8 e 13 ≠ 0 ∨ resOk (e.drop 16) = false
    (bad ∧ status = stInvalid ∧ t = u) ∨
    (∃ l x, ¬ bad ∧ xtFind false c k = some (l, x) ∧ x.learned = false ∧ status = stExists ∧ t = changed c) ∨
    (∃ l x, ¬ bad ∧ xtFind false c k = some (l, x) ∧ x.learned = true ∧ status = stOk ∧
      t = changed (xtPut l (some { x with learned := false, res := r }) c)) ∨
    (∃ p, ¬ bad ∧ xtFind false c k = none ∧ place = some p ∧ status = stOk ∧
      t = changed (xtWrite p ⟨k.typ, k.port, k.key, k.tagged, false, false, 0, r, c.tick⟩ c)) ∨
    (¬ bad ∧ xtFind false c k = none ∧ place = none ∧ status = stNoRoom ∧
      t = evH 0x2003 (le 1 side ++ le 1 (u8 e 1)) (changed c))) ∧
  EntryRule .tblModify 0x0203 (fun _ e s status t =>
    lcBad s = false ∧ e.length = 32 ∧
    let u := tcuSettled s
    let side := portSide (u8 e 1)
    let c := clsOf u side
    let r := resOf (e.drop 16)
    let changed := fun (x : Cls) => xtChanged side (setCls side (fun _ => x) u)
    let bad := keyOk e = false ∨ 1 < u8 e 12 ∨ u8 e 13 ≠ 0 ∨ resOk (e.drop 16) = false
    let static := decide (u8 e 12 = 1)
    (bad ∧ status = stInvalid ∧ t = u) ∨
    (¬ bad ∧ xtFind false c (keyOfBytes e) = none ∧ status = stNotFound ∧ t = changed c) ∨
    (∃ l x, ¬ bad ∧ xtFind false c (keyOfBytes e) = some (l, x) ∧
      ((static = false ∧ ¬ (x.learned = true ∧ r.valid = 0) ∧ status = stInvalid ∧ t = changed c) ∨
       ((static = true ∨ (x.learned = true ∧ r.valid = 0)) ∧ status = stOk ∧
        t = changed (xtPut l (some { x with learned := x.learned && !static, res := r }) c))))) ∧
  EntryRule .tblDelete 0x0204 (fun _ e s status t =>
    lcBad s = false ∧ e.length = 16 ∧
    let u := tcuSettled s
    let side := portSide (u8 e 1)
    let c := clsOf u side
    let changed := fun (x : Cls) => xtChanged side (setCls side (fun _ => x) u)
    let bad := keyOk e = false ∨ u8 e 12 ≠ 0 ∨ u8 e 13 ≠ 0
    (bad ∧ status = stInvalid ∧ t = u) ∨
    (¬ bad ∧ xtFind false c (keyOfBytes e) = none ∧ status = stNotFound ∧ t = changed c) ∨
    (∃ l x, ¬ bad ∧ xtFind false c (keyOfBytes e) = some (l, x) ∧ status = stOk ∧ t = changed (xtPut l none c)))

/-- The batch commands of R83: TBL_PT_SET, TBL_INSERT, TBL_MODIFY, TBL_DELETE, SA_INSTALL (where no claim of the pack
must be asked first), SA_RETIRE, TM_QUEUE_SET, TM_SHAPER_SET, POL_SET, EVR_RATE_SET and CNT_CONFIG_SET answer as R83 says,
inline with and without ATOMIC and by DMA without it, in a life-cycle state that allows them; the table commands act behind the TCU
(log entry 115). An ATOMIC TBL_INSERT that fails with
NO_ROOM still raises event 0x2003 (R84); SA_RETIRE opens deferred work for its entries, which no entry ends before the batch has,
and closes it behind them (R108); SA_INSTALL gives back the claims of entries that failed (R115). -/
def Obligations.BatchCommandsAnswer : Prop :=
  let ready := fun (_ : Cmd) (s : State) (_ : List Bytes) => lcBad s = false
  let behind := fun (_ : Cmd) (s : State) => tcuSettled s
  BatchRule (fun mb d => .tblPtSet mb d) 0x0201 72 4096 ready (fun _ _ => ptSetOne) behind ∧
  BatchRule (fun mb d => .tblInsert mb d) 0x0202 32 4096 ready (fun _ _ => tblInsertOne) behind (fun _ _ t => t)
    (fun sts es s => if sts.getLastD 0 = stNoRoom then
      evH 0x2003 (le 1 (portSide (u8 (es.getD (sts.length - 1) []) 1)) ++ le 1 (u8 (es.getD (sts.length - 1) []) 1)) s
      else s) ∧
  BatchRule (fun mb d => .tblModify mb d) 0x0203 32 4096 ready (fun _ _ => tblModifyOne) behind ∧
  BatchRule (fun mb d => .tblDelete mb d) 0x0204 16 4096 ready (fun _ _ => tblDeleteOne) behind ∧
  (∀ bad, BatchRule (fun mb d => .saInstall mb d bad) 0x0304 48 4096
    (fun c s es => lcBad s = false ∧ installClaims bad es s = [] ∧ s.pack.claims.any (fun x => x.mb == c.mb) = false)
    (fun c _ => installEntry bad [] c.mb) (fun _ s => s) (fun _ es t => claimRelease es t)) ∧
  BatchRule (fun mb d => .saRetire mb d) 0x0308 16 4096 ready (fun c s => retireEntry c.tag s.hif.nextDeferred)
    (fun c s => deferHold s.hif.nextDeferred (deferOpen c s)) (fun s _ t => deferClose s.hif.nextDeferred t) ∧
  BatchRule (fun mb d => .tmQueueSet mb d) 0x0502 16 4096 ready (fun _ _ => tmQueueEntry) ∧
  BatchRule (fun mb d => .tmShaperSet mb d) 0x0504 16 4096 ready (fun _ _ => tmShaperEntry) ∧
  BatchRule (fun mb d => .polSet mb d) 0x0510 32 4096 ready (fun _ _ => polEntry) ∧
  BatchRule (fun mb d => .evrRateSet mb d) 0x0B02 8 4096 (fun _ _ _ => True) (fun _ _ => rateEntry) ∧
  BatchRule (fun mb d => .cntConfigSet mb d) 0x0A00 16 4096 (fun _ _ _ => True) (fun _ _ => cntConfigEntry)

/-- The statistics commands over a list of objects, SA_STATS_GET, TM_QUEUE_STATS_GET and POL_STATS_GET: one block an entry,
inline or by DMA, all of one sweep (R111, R211, R233, R299). -/
def Obligations.StatisticsCommandsAnswer : Prop :=
  StatsRule (fun mb d => .saStatsGet mb d) 0x030A 4 4096 40 101 (fun s => lcBad s = false)
    (fun e _ => decide (u32 e 0 ≤ 131071)) saBlock ∧
  StatsRule (fun mb d => .tmQueueStatsGet mb d) 0x0507 4 2048 40 101 (fun s => lcBad s = false)
    (fun e _ => decide (u8 e 0 ≤ 1) && u8 e 1 == 0 && decide (u16 e 2 ≤ 2047)) tmQueueBlock ∧
  StatsRule (fun mb d => .polStatsGet mb d) 0x0512 4 8192 56 72 (fun s => lcBad s = false)
    (fun e _ => decide (u8 e 0 ≤ 1) && u8 e 1 == 0 && decide (u16 e 2 ≤ 8191)) polBlock

/-- The Table Command Unit (R80, R81). It takes an operation when the firmware runs, nothing is in progress and no batch drains: DT_WRITE,
DT_READ, XT_INSERT, XT_MODIFY, XT_DELETE, XT_READ, PT_WRITE, PT_READ and XT_REMOVE_PORT, whose writes go into the tables, or with STAGE into
the staging buffer; TCU_STAGE runs the operation its OP names, staged; a command written while BUSY, whatever its OP, only sets OVERRUN,
and a reserved OP starts nothing. COMMIT makes every staged
change visible, ABORT takes the staged inserts back and empties the buffer, DONE shows the operation's code, moves and stash flag, the
drain writes every staged change into the tables and clears COMMITTED; the ageing sweeps that waited for the port then run (R79). Three
things here are the model's choice: what a batch is while it drains, and whether an operation may begin then (log entry 73); that an
operation with STAGE looks at the buffer's room first, and which entry CLS_TCU_LOC shows behind XT_REMOVE_PORT (log entry 133). -/
def Obligations.TcuFollowsRules : Prop :=
  (∀ (s : State) (side : Nat), cpRuns s = true → (clsOf s side).busy = false → (clsOf s side).committed = false →
    let start := fun (f : Cls → Cls) => setCls side (fun c => { f c with busy := true }) s
    let plain := fun (n : Nat) (c : Cls) => { c with opCode := n, opMoves := 0, opStashed := false, opInsPort := none }
    let at_ := fun (c : Cls) => c.argPort.toNat % 32 * 4096 + c.argIndex.toNat % 4096
    exec (.dtWrite side false) s =
      .next (start (fun c => plain 0 { c with dt := tset .reset c.dt (at_ c) (resOf (tcuData c)) })) ∧
    exec (.dtRead side) s = .next (start (fun c => plain 0 (tcuLoad (resBytes (tget .reset c.dt (at_ c))) c))) ∧
    exec (.ptWrite side false) s =
      .next (start (fun c => plain 0 { c with pt := tset none c.pt (c.argIndex.toNat % 8192) (ptOf (tcuData c)) })) ∧
    exec (.ptRead side) s = .next (start (tcuPtRead side)) ∧
    (∀ stage, exec (.xtInsert side stage) s = .next (start (fun c =>
      let r := xtInsert (keyOfBytes (tcuData c)) (resOf (sub (tcuData c) 16 16)) stage c
      tcuKeep r.1 (some (u8 (tcuData c) 1)) r.2))) ∧
    (∀ stage, exec (.xtModify side stage) s = .next (start (tcuXtModify stage))) ∧
    (∀ stage, exec (.xtDelete side stage) s = .next (start (fun c =>
      let r := xtDelete (keyOfBytes (tcuData c)) stage c
      tcuKeep r.1 none r.2))) ∧
    exec (.xtRead side) s = .next (start tcuXtRead) ∧
    exec (.xtRemovePort side) s = .next (start (fun c =>
      let ls := xtOfPort c c.argPort.toNat (fun _ => true)
      let t := ls.foldl (fun c l => xtPut l none c) c
      plain 0 (match ls.getLast? with
        | some l => { t with loc := locWord l }
        | none => t))) ∧
    (∀ op, op = 0 ∨ 10 ≤ op → exec (.tcuStage side op) s = .next s) ∧
    ((clsOf s side).staging.length < 256 →
      exec (.tcuStage side 1) s = .next (start (fun c => plain 0 { c with staging := c.staging ++
        [.dt c.argPort.toNat (c.argIndex.toNat % 4096) (resOf (tcuData c))] })) ∧
      exec (.tcuStage side 7) s = .next (start (fun c => plain 0 { c with staging := c.staging ++
        [.pt (c.argIndex.toNat % 8192) (ptOf (tcuData c))] }))) ∧
    exec (.tcuStage side 3) s = exec (.xtInsert side true) s ∧ exec (.tcuStage side 4) s = exec (.xtModify side true) s ∧
    exec (.tcuStage side 5) s = exec (.xtDelete side true) s ∧ exec (.tcuStage side 2) s = exec (.dtRead side) s ∧
    exec (.tcuStage side 6) s = exec (.xtRead side) s ∧ exec (.tcuStage side 8) s = exec (.ptRead side) s ∧
    exec (.tcuStage side 9) s = .next (start (tcuXtRemove true))) ∧
  (∀ (s : State) (side op : Nat), cpRuns s = true → (clsOf s side).busy = true →
    exec (.tcuStage side op) s = .next (setCls side (fun c => { c with overrun := true }) s)) ∧
  (∀ (s : State) (side : Nat), cpRuns s = true → (clsOf s side).busy = false → (clsOf s side).committed = false →
    exec (.tcuCommit side) s = .next (setCls side (fun c => { c with committed := true }) s) ∧
    exec (.tcuAbort side) s = .next (ageRun side (limitClear side (stashEvents side (setCls side (fun c =>
      { c.staging.foldl (fun c x => stageUndo x c) c with staging := [] }) s))))) ∧
  (∀ (c : Cls) (l : Nat), stageUndo (.xtIns l) c = (if (xtAt c l).any (·.staged) then xtPut l none c else c)) ∧
  (∀ (s : State) (side : Nat), live s = true → (clsOf s side).committed = true →
    exec (.stageDrainDone side) s = .next (ageRun side (limitClear side (stashEvents side (setCls side (fun c =>
      { c.staging.foldl (fun c x => stageApply x c) c with staging := [], committed := false }) s))))) ∧
  (∀ (s : State) (side : Nat), live s = true → (clsOf s side).busy = true →
    let c := clsOf s side
    let t := setCls side (fun c => { c with busy := false, doneBit := true, code := c.opCode, moves := c.opMoves,
                                            stashed := c.opStashed, opInsPort := none }) s
    (c.opInsPort = none ∨ c.opCode ≠ 3 → exec (.tcuOpDone side) s =
      .next (ageRun side (limitClear side (stashEvents side t)))) ∧
    (∀ p, c.opInsPort = some p → c.opCode = 3 → exec (.tcuOpDone side) s =
      .next (ageRun side (limitClear side (stashEvents side (evH 0x2003 (le 1 side ++ le 1 p) t))))))

/-- LEARN_INSERT, STASH_REHOME, AGE_TICK, LEARN_FIFO_DRAIN and FLUSH_SWEEP_DONE (R70, R74, R76, R77, R79, R82), in the order of
Table 3-8: a queued request becomes a learned entry with valid mask 0, or none when its key is present or its port at its
limit (log entry 112); a stash entry moves to a free candidate by R69 when no request waits; the tick advances, an age of 255
stays 255 (log entry 134), and the
sweep that it asks for visits every entry once no TCU operation, drain, request or move comes before it; the oldest
notice is forwarded when its port asks for it; a flush removes the port's entries, behind the TCU, and ends its deferred
work with their number. -/
def Obligations.LearningAndAgeingComplete : Prop :=
  (∀ (s : State) (side : Nat) (q : LearnReq) (rest : List LearnReq), live s = true → (clsOf s side).busy = false →
    (clsOf s side).committed = false → (clsOf s side).learnQ = q :: rest →
    let t := setCls side (fun c => { c with learnQ := rest }) s
    let k : XtKey := ⟨1, q.port % 64, q.sci, false⟩
    ((xtHolds (clsOf t side) k).isSome = true ∨ learnFull (clsOf t side) q.port = true →
      exec (.learnInsert side) s = .next (ageRun side t)) ∧
    (∀ p, xtHolds (clsOf t side) k = none → learnFull (clsOf t side) q.port = false → xtPlace (clsOf t side) k = some p →
      exec (.learnInsert side) s = .next (ageRun side
        (learned side q p.loc (setCls side (xtWrite p (xtNew (clsOf t side) k true false .reset)) t))))) ∧
  (∀ (s : State) (side l m : Nat), live s = true → (clsOf s side).busy = false → (clsOf s side).committed = false →
    (clsOf s side).learnQ = [] → stashLocs.findSome? (fun l => (xtAt (clsOf s side) l).bind (fun e =>
      ((xtCands (clsOf s side) e.xtKey).find? (fun m => (xtAt (clsOf s side) m).isNone)).map (fun m => (l, m)))) =
        some (l, m) →
    exec (.stashRehome side) s = .next (ageRun side (stashEvents side (setCls side (xtMove l m) s)))) ∧
  (∀ (s : State) (side : Nat), live s = true →
    reached s.tsu.ns ((clsOf s side).tickTod + BitVec.ofNat 64 ((clsOf s side).ageTick.toNat * 1000000)) = true →
    exec (.ageTick side) s = .next (ageRun side (setCls side (fun c => { c with
      xt := c.xt.map (fun e => (e.1, e.2.map (fun x => if xtAge c x = 255 then { x with stamp := x.stamp + 1 } else x)))
      tick := c.tick + 1, tickTod := s.tsu.ns, sweepDue := c.sweepDue + 1 }) s))) ∧
  (∀ (s : State) (side : Nat),
    (ageTurn (clsOf s side) = false ∨ (clsOf s side).sweepDue = 0 → ageRun side s = s) ∧
    (ageTurn (clsOf s side) = true → (clsOf s side).sweepDue = 1 →
      let t := setCls side (fun c => { c with sweepDue := 0 }) s
      ageRun side s = limitClear side (stashEvents side
        (((clsOf t side).xt.map (·.1)).foldl (fun u l => ageOne side l u) t)))) ∧
  (∀ (s : State) (side : Nat) (n : LearnNote) (rest : List LearnNote), fwRuns s = true →
    (clsOf s side).learnFifo = n :: rest →
    let t := setCls side (fun c => { c with learnFifo := rest }) s
    let g := tget .reset (clsOf t side).learn (n.port % 32)
    exec (.learnFifoDrain side) s = .next
      (if (if n.aged then g.notifyAged else g.notifyLearned) = true then
        notify (if n.aged then 5 else 4)
          (le 1 side ++ le 1 n.port ++ zb 2 ++ le 4 n.loc.toNat ++ be 8 n.sci ++ le64 n.tod) t
      else t)) ∧
  (∀ (s : State) (side : Nat) (f : Flush) (rest : List Flush), cpRuns s = true → (clsOf s side).flushes = f :: rest →
    f.scope ≤ 1 →
    let t := setCls side (fun c => { c with flushes := rest }) (tcuSettled s)
    let ls := xtOfPort (clsOf t side) f.port (fun e => f.scope == 1 || e.learned)
    exec (.flushSweepDone side) s = .next (deferEnd f.deferred stOk ls.length
      (ageRun side (limitClear side (stashEvents side (setCls side (fun c => ls.foldl (fun c l => xtPut l none c) c) t)))))) ∧
  (∀ (s : State) (side : Nat) (f : Flush) (rest : List Flush), cpRuns s = true → (clsOf s side).flushes = f :: rest →
    f.scope = 2 →
    let t := setCls side (fun c => { c with flushes := rest }) (tcuSettled s)
    let ks := tkeys (fun k _ => k / 4096 == f.port % 32) (clsOf t side).dt
    exec (.flushSweepDone side) s = .next (deferEnd f.deferred stOk ks.length
      (setCls side (fun c => { c with dt := ks.foldl (fun t k => tset .reset t k .reset) c.dt }) t)))

/-! ### Secure channels, associations, transcryption (04_channels_rekey.md, 06_transcryption.md) -/

/-- The SC_* commands with valid arguments (R86, R97, R114, R143, R155): SC_CREATE of a channel, with GROUP as the directory answers its
claim (R271); SC_MODIFY; SC_DELETE, of a channel with an SA (WRONG_STATE) and of one without, whose pairings and SCI go with it;
SC_GET, SC_STATS_GET, SC_PORT_STATS_GET, SC_PAIR_SET that sets or removes a pairing, SC_PAIR_GET and SC_PAIR_STATS_GET. It is the
model's choice that SC_PAIR_GET gives 0 for the time of no pairing (log entry 109) and that SC_PAIR_SET removes a pairing that is not
there with OK (log entry 110). -/
def Obligations.ScCommandsComplete : Prop :=
  (∀ (s : State) (mb : Nat) (c : Cmd), Taken 0x0300 mb s c → lcBad s = false → scArgs c.payload = true →
    nbit (u8 c.payload 6) 1 = false → scOf s (u16 c.payload 0) = none →
    AnswersOk (.scCreate mb) s c [] (putSc (u16 c.payload 0) (some (scOfReq c.payload s)) s)) ∧
  (∀ (s t : State) (mb : Nat) (r : Option Bool) (c : Cmd), Taken 0x0300 mb s c → lcBad s = false → scArgs c.payload = true →
    nbit (u8 c.payload 6) 1 = true → scOf s (u16 c.payload 0) = none →
    (s.pack.st ≠ .active ∨ s.pack.lead = none → Turned (.scCreate mb) s c stInvalid) ∧
    (s.pack.st = .active → s.pack.lead ≠ none →
      packClaim (sciEntry (u16 c.payload 0) (beNat (sub c.payload 8 8)) s) c.mb s = (r, t) →
      (r = some true → scOf t (u16 c.payload 0) = none →
        AnswersOk (.scCreate mb) s c [] (putSc (u16 c.payload 0) (some (scOfReq c.payload t)) t)) ∧
      (r = some false → Answers (.scCreate mb) s c ⟨stExists, 0, []⟩ t) ∧
      (r = none → exec (.scCreate mb) s = .next (cmdWait c (.claim [] [] []) t)))) ∧
  (∀ (s : State) (mb sch w : Nat) (setW setR r : Bool) (x : Sc) (c : Cmd), Taken 0x0301 mb s c → lcBad s = false →
    sch < 65536 → w < 2 ^ 32 → (setW = false → w = 0) → (setR = false → r = false) → scOf s sch = some x →
    x.rx = true → (isXpn x.suite = true → w ≤ 2 ^ 30) →
    c.payload = le 2 sch ++ le 1 (b2n setW + 2 * b2n setR) ++ le 1 (b2n r) ++ le 4 w ++ zb 4 →
    let y := { x with window := if setW then w else x.window, replay := if setR then r else x.replay }
    let t := putSc sch (some y) s
    AnswersOk (.scModify mb) s c [] { t with chan := { t.chan with sas := t.chan.sas.map (fun e => (e.1, e.2.map
      (fun a => if a.sch == sch && (a.st == .active || a.st == .retiring) then
        { a with low := Nat.max (Nat.max a.thr (a.next - y.window)) 1 } else a))) } }) ∧
  (∀ (s : State) (mb sch : Nat) (x : Sc) (c : Cmd), Taken 0x0302 mb s c → lcBad s = false → sch < 65536 →
    c.payload = le 2 sch ++ zb 2 → scOf s sch = some x → x.group = false →
    saFind s (fun a => a.sch == sch && a.st != .free) = none →
    (∀ e ∈ s.chan.pairs, ∀ q, e.2 = some q → e.1 ≠ sch ∧ q.tx ≠ sch) →
    AnswersOk (.scDelete mb) s c [] (putSc sch none s)) ∧
  (∀ (s : State) (mb sch : Nat) (x : Sc) (c : Cmd), Taken 0x0302 mb s c → lcBad s = false → sch < 65536 →
    c.payload = le 2 sch ++ zb 2 → scOf s sch = some x →
    ((saFind s (fun a => a.sch == sch && a.st != .free)).isSome = true → Turned (.scDelete mb) s c stWrongState) ∧
    (saFind s (fun a => a.sch == sch && a.st != .free) = none →
      let rxs := s.chan.pairs.filterMap (fun e => match e.2 with
        | some q => if e.1 == sch || q.tx == sch then some e.1 else none
        | none => none)
      let t := rxs.foldl (fun t r => pairRemove r t) s
      AnswersOk (.scDelete mb) s c [] (putSc sch none (if x.group then packRelease (sciEntry sch x.sci t) t else t)))) ∧
  (∀ (s : State) (mb sch : Nat) (x : Sc) (c : Cmd), lcBad s = false → sch < 65536 → c.payload = le 2 sch ++ zb 2 →
    scOf s sch = some x →
    (Taken 0x0303 mb s c → AnswersOk (.scGet mb) s c (scBytes sch x s) s) ∧
    (Taken 0x030B mb s c → AnswersOk (.scStatsGet mb) s c
      (le 2 sch ++ le 1 (b2n x.rx) ++ zb 5 ++ le64 s.tsu.ns ++ le64 x.nosa ++ le64 x.switches) s) ∧
    (Taken 0x030E mb s c → x.rx = true → AnswersOk (.scPairGet mb) s c
      (le 2 sch ++ le 2 (((tget none s.chan.pairs sch).map (·.tx)).getD 0xFFFF) ++
        le 1 (b2n (pairedTx s sch).isSome) ++ zb 3 ++ le64 (((tget none s.chan.pairs sch).map (·.tod)).getD 0)) s)) ∧
  (∀ (s : State) (mb : Nat) (c : Cmd), lcBad s = false → c.payload = zb 4 →
    (Taken 0x030C mb s c → AnswersOk (.scPortStatsGet mb) s c
      (le64 s.tsu.ns ++ (List.range 32).flatMap (fun p => le64 (tget 0 s.chan.unknownSci p))) s) ∧
    (Taken 0x030F mb s c → AnswersOk (.scPairStatsGet mb) s c
      (le64 s.tsu.ns ++ zb 8 ++ (List.range 32).flatMap (fun p => le64 (tget .reset s.chan.xc p).frames ++
        le64 (tget .reset s.chan.xc p).octets ++ le64 (tget .reset s.chan.xc p).nopair ++
        le64 (tget .reset s.chan.xc p).expose)) s)) ∧
  (∀ (s : State) (mb rx tx : Nat) (r t : Sc) (c : Cmd), Taken 0x030D mb s c → lcBad s = false → rx < 65536 →
    tx < 65535 → c.payload = le 2 rx ++ le 2 tx ++ zb 4 → scOf s rx = some r → scOf s tx = some t → r.rx = true →
    t.rx = false → (port s r.port).cfg.role = 3 → pairOf s r.port = some t.port →
    AnswersOk (.scPairSet mb) s c []
      { s with chan := { s.chan with pairs := tset none s.chan.pairs rx (some ⟨tx, s.tsu.ns⟩) } }) ∧
  (∀ (s : State) (mb rx : Nat) (r : Sc) (c : Cmd), Taken 0x030D mb s c → lcBad s = false → rx < 65536 →
    c.payload = le 2 rx ++ le 2 0xFFFF ++ zb 4 → scOf s rx = some r → r.rx = true → (port s r.port).cfg.role = 3 →
    AnswersOk (.scPairSet mb) s c [] { s with chan := { s.chan with pairs := tset none s.chan.pairs rx none } })

/-- The SA_* commands (R97, R102, R103, R106, R108, R109, R112, R114, R115). An entry of SA_INSTALL fails with the first status of R115's
order, or it installs the record of Table 4-4 with the counters at 0, resident with PRELOAD; a GROUP channel's XPN SA needs the
pack's directory. An entry of SA_RETIRE stops the SA at once, OK where it is FREE then and deferred until it is, joins an SA that is
DRAINING, sets a later not-before, or is refused. SA_ARM, SA_SWITCH, SA_MODIFY and SA_GET with valid arguments, RX_SA_RETIRE_TIME and
SPILL_SWEEP: an INSTALLED or ARMED TX SA takes the condition; one is switched to; the floor, the release mode, STRICT and
the threshold change as the mask names them, and the lowest acceptable PN with the floor; the record is returned; a
RETIRING SA stops at its not-before; every partial is added to its total. It is the model's choice that SA_MODIFY keeps the SA's mark
that its threshold was reached (log entry 106) and stores a floor or a threshold beyond the suite's last PN as it is given (log entry
107). -/
def Obligations.SaCommandsComplete : Prop :=
  (∀ (s : State) (mb sah cond tod : Nat) (a : Sa) (c : Cmd), Taken 0x0305 mb s c → lcBad s = false → sah ≤ 131071 →
    cond ≤ 2 → tod < 2 ^ 64 → (cond ≠ 2 → tod = 0) → saOf s sah = some a → (a.st = .installed ∨ a.st = .armed) →
    (∀ o b, saArmed s a.sch = some (o, b) → o = sah) → enlisted s sah = false →
    (cond = 2 → reached (BitVec.ofNat 64 tod) s.tsu.ns = true) →
    c.payload = le 4 sah ++ le 1 cond ++ zb 3 ++ le 8 tod →
    let st := if cond = 0 then SaSt.installed else SaSt.armed
    AnswersOk (.saArm mb) s c [] (setSa sah (fun x => { x with
      st := st, mode := cond, tod := BitVec.ofNat 64 tod, change := if x.st = st then x.change else s.tsu.ns }) s)) ∧
  (∀ (s : State) (mb sah : Nat) (a : Sa) (c : Cmd), lcBad s = false → sah ≤ 131071 → c.payload = le 4 sah ++ zb 4 →
    saOf s sah = some a →
    (Taken 0x0306 mb s c → a.rx = false → (a.st = .installed ∨ a.st = .armed) → enlisted s sah = false →
      AnswersOk (.saSwitch mb) s c [] (saSwitchTo sah false s)) ∧
    (Taken 0x0309 mb s c → AnswersOk (.saGet mb) s c (saBytes sah a s) s)) ∧
  (∀ (s : State) (mb : Nat) (a : Sa) (c : Cmd), Taken 0x0307 mb s c → lcBad s = false → modifyArgs c.payload = true →
    saOf s (u32 c.payload 0) = some a → a.st ≠ .free → a.st ≠ .draining →
    (a.rx = true → nbit (u16 c.payload 4) 3 = false) → (a.rx = false → u16 c.payload 4 % 8 = 0) →
    let m := u16 c.payload 4
    let suite := ((scOf s a.sch).map (·.suite)).getD 1
    let floor := if nbit m 0 then Nat.max a.thr (u64 c.payload 8) else a.thr
    let thr := if nbit m 3 then (if u64 c.payload 16 = 0 then defaultThr suite else u64 c.payload 16) else a.thr
    AnswersOk (.saModify mb) s c [] (setSa (u32 c.payload 0) (fun x => { x with
      thr := if x.rx then floor else thr
      low := if x.rx then lowestPn floor x.next (((scOf s a.sch).map (·.window)).getD 0) else x.low
      mode := if nbit m 1 then u8 c.payload 6 else x.mode
      strict := if nbit m 2 then u8 c.payload 7 == 1 else x.strict }) s)) ∧
  (∀ (s : State) (sah : Nat) (a : Sa), live s = true → saOf s sah = some a → a.st = .retiring →
    (reached s.tsu.ns a.tod = true → exec (.rxSaRetireTime sah) s = .next (saStop sah true s)) ∧
    (reached s.tsu.ns a.tod = false → exec (.rxSaRetireTime sah) s = .next s)) ∧
  (∀ s : State, live s = true → reached s.tsu.ns (s.chan.spillTod + 100000000) = true →
    exec .spillSweep s = .next ((s.chan.sas.map (·.1)).foldl (fun t sah => saSpill sah t)
      { s with chan := { s.chan with spillTod := s.tsu.ns } })) ∧
  (∀ (s : State) (sah : Nat) (a : Sa), saOf s sah = some a →
    saOf (saSpill sah s) sah = some { a with c0 := 0, c1 := 0, c2 := 0, c3 := 0 } ∧
    ∀ i, i < 4 → cntTotal (saSpill sah s) sah i = cntTotal s sah i + BitVec.ofNat 64 (cntPart a i)) ∧
  (∀ lost, EntryRule (fun mb d => .saInstall mb d lost) 0x0304 (fun _ e s status t =>
    lcBad s = false ∧ e.length = 48 ∧ installClaims lost [e] s = [] ∧ s.pack.claims = [] ∧
    let sah := u32 e 0
    let sch := u16 e 4
    let fl := u8 e 7
    let fails := fun st u => status = st ∧ t = claimRelease [e] u
    let range := 131071 < sah ∨ 3 < u8 e 6 ∨ 15 < fl ∨ ¬ (u8 e 8 = 0 ∨ u8 e 8 = 30 ∨ u8 e 8 = 50) ∨ (nbit fl 0 = true ∧ u8 e 8 ≠ 0) ∨
      2 < u8 e 9 ∨ 2 < u8 e 10 ∨ (u8 e 10 ≠ 0 ∧ nbit fl 3 = false) ∨ (u8 e 10 = 0 ∧ nbit fl 3 = true) ∨
      (u64 e 32 ≠ 0 ∧ u8 e 10 ≠ 2) ∨ u8 e 11 ≠ 0 ∨ u64 e 16 = 0 ∨ zeros e 40 8 = false
    (range ∧ fails stInvalid s) ∨ (¬ range ∧ scOf s sch = none ∧ fails stNotFound s) ∨
    (∃ c, ¬ range ∧ scOf s sch = some c ∧
      let side := (c.rx = true ∧ (nbit fl 3 = true ∨ u64 e 24 ≠ 0)) ∨ (c.rx = false ∧ (nbit fl 1 = true ∨ u8 e 9 ≠ 0)) ∨
        (u32 e 12 ≠ 0 ∧ isXpn c.suite = false) ∨ lastPn c.suite < u64 e 16
      let busy := saSt s sah = .draining ∨ saSt s sah = .retiring
      let taken := saSt s sah ≠ .free ∨ saAt s sch (u8 e 6) ≠ none
      let arm := nbit fl 3 = true ∧ saArmed s sch ≠ none
      let late := u8 e 10 = 2 ∧ reached (BitVec.ofNat 64 (u64 e 32)) s.tsu.ns = false
      let fetch := cmdFetch (b2n c.rx) sah (some (none, c.rx)) (lost.contains sah) s
      let ready := ¬ side ∧ ¬ busy ∧ ¬ taken ∧ ¬ arm ∧ ¬ late ∧ (keyOf s sah).st ≠ .absent
      (side ∧ fails stInvalid s) ∨ (¬ side ∧ busy ∧ fails stBusy s) ∨ (¬ side ∧ ¬ busy ∧ taken ∧ fails stExists s) ∨
      (¬ side ∧ ¬ busy ∧ ¬ taken ∧ arm ∧ fails stWrongState s) ∨
      (¬ side ∧ ¬ busy ∧ ¬ taken ∧ ¬ arm ∧ late ∧ fails stLate s) ∨
      (¬ side ∧ ¬ busy ∧ ¬ taken ∧ ¬ arm ∧ ¬ late ∧ (keyOf s sah).st = .absent ∧ fails stNotFound s) ∨
      (∃ st u, ready ∧ fetch = (.error st, u) ∧ fails st u) ∨
      (∃ m u, ready ∧ fetch = (.ok m, u) ∧ m.suite ≠ c.suite ∧ fails stInvalid u) ∨
      (∃ m u, ready ∧ fetch = (.ok m, u) ∧ m.suite = c.suite ∧
        let asks := c.group = true ∧ isXpn c.suite = true
        let held := u.pack.st = .active ∧ u.pack.lead ≠ none ∧ dirOwned u
          { typ := 2, owner := u.pack.me, ssci := u32 e 12, sci := c.sci, sch := sch, sah := sah } = true
        let cur := saCur u sch = none ∧ nbit fl 3 = false
        let pn := u64 e 16
        let a : Sa := {
          sch := sch, an := u8 e 6, rx := c.rx, integrityOnly := nbit fl 0, strict := nbit fl 1, offset := u8 e 8
          st := if c.rx then .active else if nbit fl 3 then .armed else if saCur u sch = none then .current else .installed
          mode := if c.rx then u8 e 9 else u8 e 10, ssci := u32 e 12, next := pn
          thr := if c.rx then pn else if u64 e 24 = 0 then defaultThr c.suite else u64 e 24
          low := if c.rx then lowestPn pn pn c.window else if cur then pn else 0
          tod := if c.rx then 0 else BitVec.ofNat 64 (u64 e 32), change := u.tsu.ns, thrRaised := false, reachedThr := false
          used := false, tag := 0, lens := [], waiters := [], c0 := 0, c1 := 0, c2 := 0, c3 := 0, saturated := false }
        let puts := fun (v : State) => totalsClear sah { v with chan := { v.chan with sas := tset none v.chan.sas sah (some a) } }
        (asks ∧ (u.pack.st ≠ .active ∨ u.pack.lead = none) ∧ fails stWrongState u) ∨
        ((¬ asks ∨ held) ∧ nbit fl 2 = false ∧ fails stOk (puts u)) ∨
        ((¬ asks ∨ held) ∧ nbit fl 2 = true ∧ preload (b2n c.rx) sah m s u u = none ∧ fails stNoRoom u) ∨
        (∃ v, (¬ asks ∨ held) ∧ nbit fl 2 = true ∧ preload (b2n c.rx) sah m s u u = some v ∧ fails stOk (puts v)))))) ∧
  EntryRule .saRetire 0x0308 (fun c e s status t =>
    lcBad s = false ∧ e.length = 16 ∧
    let id := s.hif.nextDeferred
    let u := deferHold id (deferOpen c s)
    let sah := u32 e 0
    let nb := BitVec.ofNat 64 (u64 e 8)
    let ends := fun st v => status = st ∧ t = deferClose id v
    let joins := fun v => ends stDeferred (deferAdd id (setSa sah (fun a => { a with waiters := a.waiters ++ [id] }) v))
    let stops := fun timed => let v := saStop sah timed (setSa sah (fun a => { a with tag := c.tag }) u)
      (saSt v sah = .free ∧ ends stOk v) ∨ (saSt v sah ≠ .free ∧ joins v)
    let bad := 131071 < sah ∨ 1 < u8 e 4 ∨ zeros e 5 3 = false
    (bad ∧ ends stInvalid u) ∨ (¬ bad ∧ saSt s sah = .free ∧ ends stNotFound u) ∨
    (∃ a, ¬ bad ∧ saOf s sah = some a ∧ a.st ≠ .free ∧
      let tx := a.rx = false ∧ u64 e 8 ≠ 0
      let inUse := a.st = .current ∨ a.st = .exhausted
      let later := u64 e 8 ≠ 0 ∧ reached s.tsu.ns nb = false
      (tx ∧ ends stInvalid u) ∨ (¬ tx ∧ enlisted s sah = true ∧ ends stWrongState u) ∨
      (¬ tx ∧ enlisted s sah = false ∧
        ((a.st = .draining ∧ joins u) ∨ (inUse ∧ nbit (u8 e 4) 0 = false ∧ ends stWrongState u) ∨
         (inUse ∧ nbit (u8 e 4) 0 = true ∧ stops false) ∨
         (¬ inUse ∧ a.st ≠ .draining ∧ later ∧ joins (saRetireAt sah nb c.tag u)) ∨
         (¬ inUse ∧ a.st ≠ .draining ∧ ¬ later ∧ stops (decide (a.st = .retiring)))))))

/-- The PN allocator advances the SA it takes by one and never gives a PN twice (R93, R94): when it allocates a PN, that
was the SA's next PN, the next PN is then one more, and every other SA keeps its next PN; a frame it refuses consumes no PN
of any SA. -/
def Obligations.PnAllocationAdvances : Prop :=
  ∀ (s : State) (sch : Nat) (limit : Option (Nat × Nat)),
    (∀ sah pn t, pnAlloc sch limit s = (.pn sah pn, t) →
      (saOf s sah).map (·.next) = some pn ∧ (saOf t sah).map (·.next) = some (pn + 1) ∧
      ∀ o, o ≠ sah → (saOf t o).map (·.next) = (saOf s o).map (·.next)) ∧
    (∀ r t, pnAlloc sch limit s = (r, t) → (∀ sah pn, r ≠ .pn sah pn) →
      ∀ o, (saOf t o).map (·.next) = (saOf s o).map (·.next))

/-- The replay check and the update at verification (R97 to R100): a frame that passes has a PN other than 0 and, under
REPLAY_PROTECT, one not below the lowest acceptable PN, and changes nothing; at verification the next PN becomes the
greater of itself and PN + 1, at most 2^64 - 1, and the lowest acceptable PN the greatest of the floor, the next PN less the window, and 1; in
HEEL a frame whose PN has fallen below it is dropped and moves nothing but its count. -/
def Obligations.ReplayCheckAndVerification : Prop :=
  (∀ (s t : State) (sch an pn32 sah pn : Nat), replayCheck sch an pn32 s = (some (sah, pn), t) →
    t = s ∧ pn ≠ 0 ∧ ∃ c a, scOf s sch = some c ∧ saAt s sch an = some (sah, a) ∧ pn = recoverPn c.suite a.low pn32 ∧
      (c.replay = true → a.low ≤ pn)) ∧
  (∀ (s : State) (sah pn : Nat) (heel : Bool) (a : Sa) (c : Sc), saOf s sah = some a → scOf s a.sch = some c →
    ((heel = false ∨ c.replay = false ∨ a.low ≤ pn) →
      (replayVerified sah pn heel s).1 = true ∧
      ∃ b, saOf (replayVerified sah pn heel s).2 sah = some b ∧ b.next = Nat.min (Nat.max a.next (pn + 1)) (2 ^ 64 - 1) ∧
        b.low = Nat.max (Nat.max a.thr (b.next - c.window)) 1) ∧
    (heel = true → c.replay = true → pn < a.low →
      (replayVerified sah pn heel s).1 = false ∧
      ∃ b, saOf (replayVerified sah pn heel s).2 sah = some b ∧ b.next = a.next ∧ b.low = a.low))

/-! ### The knobs and the slices (01_architecture.md, 05_cipher_slices.md) -/

/-- DEV_PROFILE_SET answers as R23 says: WRONG_STATE in RECOVERY or RETIRED or ZEROIZED; INVALID_ARG for an unknown
profile, a knob value out of range, a non-zero unused byte, or a profile of 0xFF with an empty mask, each without a change;
else OK, with the named profile applied first and then each knob whose mask bit is 1, all as one change. R23 gives its two
statuses no order: that WRONG_STATE comes first, for every payload, is the model's choice (log entry 65). -/
def Obligations.ProfileSetAnswers : Prop :=
  ∀ (s : State) (mb : Nat) (c : Cmd), Taken 0x0010 mb s c →
    (lcBad s = true → Turned (.devProfileSet mb) s c stWrongState) ∧
    (lcBad s = false → c.payload.length = 12 →
      let p := c.payload
      let m := u16 p 2
      let unknown := 2 < u8 p 0 ∧ u8 p 0 ≠ 0xFF
      let range := 1 < u8 p 4 ∨ 1 < u8 p 5 ∨ 1 < u8 p 6 ∨ 2 < u8 p 7 ∨ 2 < u8 p 8
      let unused := zeros p 1 1 = false ∨ zeros p 9 3 = false ∨ 32 ≤ m ∨ ∃ i, i < 5 ∧ nbit m i = false ∧ u8 p (4 + i) ≠ 0
      let empty := u8 p 0 = 0xFF ∧ m = 0
      let named := profileOf s.profile (u8 p 0)
      let q : Profile :=
        { preroll := if nbit m 0 then u8 p 4 == 1 else named.preroll
          maskFull := if nbit m 1 then u8 p 5 == 1 else named.maskFull
          lurcher := if nbit m 2 then u8 p 6 == 1 else named.lurcher
          split := if nbit m 3 then u8 p 7 else named.split
          gating := if nbit m 4 then u8 p 8 else named.gating }
      ((unknown ∨ range ∨ unused ∨ empty) → Turned (.devProfileSet mb) s c stInvalid) ∧
      (¬ (unknown ∨ range ∨ unused ∨ empty) → ∃ t, t.profile = q ∧
        AnswersOk (.devProfileSet mb) s c (profileBytes q) t))

/-- DEV_SLICE_RESTORE answers as R142 says: INVALID_ARG for a unit code above 0x17 or a reserved byte that is not zero, and
WRONG_STATE for a unit that is not QUARANTINED, without a change; else OK, the unit in RESET, from which UNIT_RESET_END
returns it to IN_SERVICE. -/
def Obligations.SliceRestoreAnswers : Prop :=
  (∀ (s : State) (mb : Nat) (c : Cmd), Taken 0x0013 mb s c → lcBad s = false → c.payload.length = 4 →
    let u := u8 c.payload 0
    (0x17 < u ∨ zeros c.payload 1 3 = false → Turned (.devSliceRestore mb) s c stInvalid) ∧
    (u ≤ 0x17 → zeros c.payload 1 3 = true → (unitOf s u).st ≠ .quarantined →
      Turned (.devSliceRestore mb) s c stWrongState) ∧
    (u ≤ 0x17 → zeros c.payload 1 3 = true → (unitOf s u).st = .quarantined →
      ∃ t, AnswersOk (.devSliceRestore mb) s c [] t ∧ (unitOf t u).st = .reset ∧ (unitOf t u).faults = [] ∧
        (unitOf t u).restoring = true)) ∧
  (∀ (s : State) (u : Nat), live s = true → (unitOf s u).st = .reset → (unitOf s u).restoring = true →
    (unitOf s u).faults = [] → ∃ t, exec (.unitResetEnd u) s = .next t ∧ (unitOf t u).st = .inService)

/-- DEV_PROFILE_GET and DEV_SLICE_STATS_GET return Tables 1-7, 5-9 and 5-10 (R23, R139, R141). -/
def Obligations.ProfileAndSliceReads : Prop :=
  (∀ (s : State) (mb : Nat) (c : Cmd), Taken 0x0011 mb s c → c.payload = [] →
    AnswersOk (.devProfileGet mb) s c (profileBytes s.profile) s) ∧
  (∀ (s : State) (mb g : Nat) (c : Cmd), Taken 0x0012 mb s c → lcBad s = false → g < 2 → c.payload = le 1 g ++ zb 3 →
    AnswersOk (.devSliceStatsGet mb) s c (le 1 g ++ zb 7 ++ le64 s.tsu.ns ++
      (List.range 8).flatMap (fun i => sliceBlock s (8 * g + i)) ++ le64 (groupOf s g).aborts ++
      (if g = 0 then
        le64 s.slices.missNotHot ++ le64 s.slices.missNotReady ++ le64 s.slices.missShort ++ le64 s.slices.discardBlk ++
          le64 s.slices.admitCnt ++ le64 s.slices.denyCnt ++
          (List.range 8).flatMap (fun e => le 1 (unitOf s (16 + e)).st.code) ++ le 4 s.slices.hot.length ++ zb 4
      else le64 s.slices.heel ++ le64 s.slices.lurcher ++
        (List.range 32).flatMap (fun p => le64 (tget 0 s.slices.icvFail p)))) s)

/-- The units follow Table 5-6 (R124, R134, R135): a fault takes a unit IN_SERVICE to RESET, counts it and keeps the
faults of the last second, and no other unit changes its state; 64 CCLK later the unit is QUARANTINED with three faults
in 1 s of TOD and IN_SERVICE with fewer; a reseed takes 256 bits of the DRBG, at the next frame or head boundary of a unit that is
at one; SERVICE_RESUME brings every stopped unit
back to the state it remembers and ends the entropy condition (R126). An idle unit is gated where the minimum of ungated
slices allows it (R20), and every activity count is halved and every engine issues its blocks in turn (R127, R131). -/
def Obligations.UnitsFollowTable : Prop :=
  (∀ (s : State) (u cause : Nat), live s = true → u < 24 → 1 ≤ cause → cause ≤ 4 → (unitOf s u).st = .inService →
    ∃ t, exec (.sliceFault u cause) s = .next t ∧ (unitOf t u).st = .reset ∧ (unitOf t u).cells = 0 ∧
      (unitOf t u).faultCnt = (unitOf s u).faultCnt + 1 ∧
      (unitOf t u).faults = recentFaults s u ++ [s.tsu.ns] ∧ ∀ v, v ≠ u → (unitOf t v).st = (unitOf s v).st) ∧
  (∀ (s : State) (u : Nat), live s = true → (unitOf s u).st = .reset →
    ∃ t, exec (.unitResetEnd u) s = .next t ∧
      ((unitOf t u).st = if 3 ≤ (recentFaults s u).length then .quarantined else .inService) ∧
      ∀ v, v ≠ u → unitOf t v = unitOf s v) ∧
  (∀ (s : State) (u : Nat), live s = true → u < 24 → (unitOf s u).st ≠ .stopped →
    let due := setUnit u (fun x => { x with reseedDue := true }) s
    let d := drawDrbg due
    let t := setUnit u (fun x => { x with
      maskKey := d.1, maskPos := 0, maskSet := none, reseedDue := false, repeated := false, seeded := true }) d.2
    let busy := (unitOf due u).frame.isSome || (decide (16 ≤ u) && engineMid due (u - 16))
    (busy = false → exec (.maskReseed u) s = .next (if u < 16 then occur 5 8 0 1 t else t)) ∧
    (busy = true → exec (.maskReseed u) s = .next due)) ∧
  (∀ s : State, live s = true → s.slices.entropyFail = true → s.tamper.latched.getLsbD 13 = false →
    ∃ t, exec .serviceResume s = .next t ∧ t.slices.entropyFail = false ∧
      ∀ u, u < 24 → (unitOf t u).st = if (unitOf s u).st = .stopped then (unitOf s u).prior else (unitOf s u).st) ∧
  (∀ (s : State) (u : Nat), live s = true → u < 24 → s.profile.gating ≠ 0 → (unitOf s u).st = .inService →
    (unitOf s u).gated = false → (unitOf s u).frame = none →
    (u < 16 → keepUngated s < ((groupUnits (u / 8)).filter
      (fun v => (unitOf s v).st == .inService && !(unitOf s v).gated)).length) →
    exec (.clockGatingIdleExpiry u) s = .next (setUnit u (fun x => { x with gated := true }) s)) ∧
  (∀ s : State, live s = true → exec .hotsetDecay s = .next { s with slices := { s.slices with
      hot := s.slices.hot.map (fun e => (e.1, e.2.map (fun h => { h with act := h.act / 2 }))) } }) ∧
  (∀ s : State, live s = true → s.profile.preroll = true → s.slices.entropyFail = false →
    exec .prerollRefill s = .next ((List.range 8).foldl (fun t e => engineIssue e t) s))

/-- Frames in the slices (R100, R117, R118, R132, R133): the head of a distributor FIFO is taken by the slice or pair that
the rule names; a decrypted frame whose ICV fails is counted at its slice and its line port, a HEEL frame is then gone
whole and a LURCHER frame is stomped once its first byte has left and dropped before that; one whose ICV verifies goes on
with its plaintext where the replay state takes it; a frame in the completion buffer passes when it is the first of its
port, and slices that the buffer held back go on where it has room for their frames now. The frame's bytes: a TX frame takes its SC's
options and its SA's bits into the TCI/AN byte and the SCI of its SecTAG (R46, R47); the E slice inserts the SecTAG of Table 2-5, encrypts
behind the confidentiality offset and appends the ICV (R45, R47), whatever the masks; the D slice gives DA, SA and the decrypted
secure data, and verifies the ICV over what R45 authenticates (R49). It is the model's choice that the release-mode counters of
Table 5-9 count a frame when ICV_VERIFICATION gives its result, whatever that is (log entry 97). -/
def Obligations.SlicesAssignVerifyRelease : Prop :=
  (∀ (s : State) (g id u : Nat) (pair : Bool) (f : Frame), live s = true → g < 2 → s.slices.entropyFail = false →
    let r := pairReserve g (holdSettle s)
    (if pair then (groupOf r g).pairQ else (groupOf r g).singleQ).head? = some id → frameOf r id = some f →
    frameFor r g f = some u →
    exec (.sliceAssign g pair) s = .next (sliceTake g u id f r)) ∧
  (∀ (s : State) (id u sah i p : Nat) (gen : BitVec 8) (f : Frame) (a : Sa) (c : Sc), live s = true →
    frameOf s id = some f → f.unit = some u → f.ingress = some p → f.rxSah = some sah → saOf s sah = some a →
    f.rxSch.bind (scOf s) = some c → f.rxSlot = some (i, gen) → f.data.isSome = true → f.verified = false →
    f.stomp = none → kindGroup f.kind = 1 → f.stage ≠ .kwb →
    let r := decrypt c a (slotOf s i) (frameMask s f (secureLen f)) f
    let n := { s with slices := (if f.heel then { s.slices with heel := s.slices.heel + 1 }
      else { s.slices with lurcher := s.slices.lurcher + 1 }) }
    if r.2 then
      match replayVerified sah f.rxPn f.heel n with
      | (true, t) => exec (.icvVerification id) s = .next (icvPassed id sah a r.1 f t)
      | (false, t) => exec (.icvVerification id) s = .next (discard id (sliceSpoil id true t))
    else ∃ t, exec (.icvVerification id) s = .next t ∧
      tget 0 t.slices.icvFail (p % 32) = tget 0 s.slices.icvFail (p % 32) + 1 ∧
      (unitOf t u).hits = (unitOf s u).hits + 1 ∧
      (f.heel = true ∨ f.left = false → frameOf t id = none) ∧
      (f.heel = false → f.left = true → (frameOf t id).map (·.stomp) = some (some 0))) ∧
  (∀ (s : State) (id : Nat) (f : Frame), live s = true → frameOf s id = some f → f.stage = .order →
    (tget [] (groupOf s (kindGroup f.kind)).order f.egress).head? = some id →
    exec (.reorderRelease id) s = .next (stallDrain (kindGroup f.kind) (orderPass id (unstall id s)))) ∧
  (∀ (s : State) (id sch sah pn : Nat) (f : Frame) (c : Sc) (a : Sa), frameOf s id = some f → scOf s sch = some c →
    saOf s sah = some a → c.option ≤ 3 →
    let mac := (txParts f).mac
    let own := hbe mac 6 6 = c.sci / 65536 ∧ c.sci % 65536 = 1
    let enc := if a.integrityOnly then 0 else 12
    ∃ tci sci,
      txBind id sch sah pn s = kennel 0 id (expressReserve id (setFrame id (some { f with
        txSch := some sch, txSah := some sah, pn := pn, tci := tci, tagSci := sci, head := (hotTake sah s).1 }) (hotTake sah s).2)) ∧
      (c.option = 0 ∨ (c.option = 1 ∧ ¬ own) → tci = 32 + enc + a.an % 4 ∧ sci = some c.sci) ∧
      (c.option = 1 → own → tci = 64 + enc + a.an % 4 ∧ sci = none) ∧
      (c.option = 2 → tci = 16 + enc + a.an % 4 ∧ sci = none) ∧
      (c.option = 3 → tci = enc + a.an % 4 ∧ sci = none)) ∧
  (∀ (c : Sc) (a : Sa) (x : Slot) (masks : Bytes) (f : Frame), f.kind = .enc → headOf f = [] → f.data.isSome = true →
    12 ≤ (txPlain f).length →
    let p := txPlain f
    let sec := p.drop 12
    let n := if a.integrityOnly then sec.length else Nat.min a.offset sec.length
    let iv := frameIv c.suite c.sci a.ssci f.pn x.salt
    let tag := be 2 0x88E5 ++ le 1 f.tci ++ le 1 (if sec.length < 48 then sec.length else 0) ++ be 4 (f.pn % 2 ^ 32) ++
      (match f.tagSci with
       | some i => be 8 i
       | none => [])
    let out := p.take 12 ++ tag ++ sec.take n
    let ct := xorBytes (sec.drop n) (gcmStream (rksOf x.roundKeys) iv (sec.length - n))
    encrypt c a x masks f = (out ++ ct, pad 16 (gcmTag (rksOf x.roundKeys) (block128 x.hash.value) iv out ct))) ∧
  (∀ (s : State) (id u sah i : Nat) (gen : BitVec 8) (f : Frame) (a : Sa) (c : Sc), frameOf s id = some f → f.unit = some u →
    f.txSah = some sah → saOf s sah = some a → f.txSch.bind (scOf s) = some c → f.txSlot = some (i, gen) → f.stage ≠ .cut →
    let n := secureLen f
    let x := slotOf s i
    let w := unitsRun id f x (frameIv c.suite c.sci a.ssci f.pn x.salt) (n - clearPart a n) (sliceOctets f n s)
    unitsRepeat f w.2 = false →
    let r := encrypt c a x (frameMask w.2 w.1 n) w.1
    let t := setFrame id (some { w.1 with cipher := some (r.1 ++ r.2), txSlot := none, head := none }) w.2
    sliceSeal id s = tmTrim id (orderDone id (cntSa sah 2 n (cntSa sah (if a.integrityOnly then 1 else 0) 1
      (slotRelease f.txSlot (sliceLeave id (sliceGoes id f t))))))) ∧
  (∀ (c : Sc) (a : Sa) (x : Slot) (masks : Bytes) (f : Frame) (d : Bytes), f.data = some d → 12 + rxOver d ≤ d.length →
    let tl := rxOver d - 16
    let sec := sub d (12 + tl) (d.length - 12 - rxOver d)
    let n := if a.integrityOnly then sec.length else Nat.min a.offset sec.length
    let iv := frameIv c.suite c.sci a.ssci f.rxPn x.salt
    (decrypt c a x masks f).1.plain =
      d.take 12 ++ sec.take n ++ xorBytes (sec.drop n) (gcmStream (rksOf x.roundKeys) iv (sec.length - n)) ∧
    (decrypt c a x masks f).2 = decide (d.drop (d.length - 16) = pad 16 (gcmTag (rksOf x.roundKeys) (block128 x.hash.value) iv
      (d.take (12 + tl) ++ sec.take n) (sec.drop n))))

/-! ### The key manager (07_key_manager.md) -/

/-- Key sources (R157, R162, R163, R175, R176, R186). WRAP_COMPLETED reports the first of WRONG_STATE, NOT_FOUND, EXISTS
and NO_ROOM that applies, zeroises the key and salt registers, and else makes the SAH PRESENT with a blob at its
generation, advanced by 1 where REPLACE found one, under its lineage's generation. KEY_LOAD with material that unseals (INTEGRITY
where it does not or its zero fields are not zero, INVALID_ARG where its salt does not fit the suite), and
KEY_GENERATE with a key and salt from the DRBG, do so where none of the codes applies and return the SAH and the
generation; both use the staging registers behind a WRAP in progress. The blob stands in its line of LPDDR5X (log entry 116),
the material in it as the staging registers held it. No other SAH's record changes. It is the model's choice that a WRAP while
MUZZLED ends with WRONG_STATE and that a transport slot which holds a CAK counts as empty (log entry 78), and that a WRAP takes
whatever the staging registers hold (log entry 142). -/
def Obligations.KeySourcesMakeBlobs : Prop :=
  (∀ s : State, live s = true → s.km.stg.busy = true →
    let g := s.km.stg
    let sah := g.target.toNat
    let k := keyOf s sah
    let l := lineageOf s g.lineage.toNat
    let refused := s.km.muzzled = true ∨ (s.boot.bbram.counter ≠ 0 ∧ s.km.restored = false) ∨ s.km.sealed = true ∨
      saSt s sah ≠ .free
    let gone := l.all (·.spent)
    let held := k.st ≠ .absent ∧ g.replace = false
    let full := k.gen = 0xFFFF ∨ (k.st ≠ .absent ∧ k.gen = 0xFFFE)
    ∃ t, exec .wrapCompleted s = .next t ∧
      t = { s with km := t.km, free := t.free, prot := { s.prot with mem := t.prot.mem } } ∧
      t.km.stg.busy = false ∧
      t.km.stg.key = [] ∧ t.km.stg.salt = [] ∧ t.km.stg.loaded = false ∧ t.km.stg.doneBit = true ∧
      (refused → t.km.stg.code = 2 ∧ t.km.keys = s.km.keys) ∧
      (¬ refused → gone = true → t.km.stg.code = 3 ∧ t.km.keys = s.km.keys) ∧
      (¬ refused → gone = false → held → t.km.stg.code = 1 ∧ t.km.keys = s.km.keys) ∧
      (¬ refused → gone = false → ¬ held → full → t.km.stg.code = 4 ∧ t.km.keys = s.km.keys) ∧
      (¬ refused → gone = false → ¬ held → ¬ full →
        let gen := if k.st = .absent then k.gen else k.gen + 1
        t.km.stg.code = 0 ∧ t.km.stg.gen = gen ∧ keyOf t sah = ⟨.present, gen⟩ ∧
          blobAt t sah = pad 96 (blobMake (kekOf s) sah gen.toNat ((l.map (·.gen.toNat)).getD 0) false (stgMat g)) ∧
          ∀ o, o ≠ sah → keyOf t o = keyOf s o)) ∧
  (∀ (s : State) (mb : Nat) (c : Cmd), kmBad s = false → keyArgs c.payload = true →
    wrapStatus (u32 c.payload 0) (u32 c.payload 4) (nbit (u8 c.payload 9) 0) (wrapCompleted s) = stOk →
    let p := c.payload
    let sah := u32 p 0
    let u := wrapCompleted s
    let gen := if (keyOf u sah).st = .absent then (keyOf u sah).gen else (keyOf u sah).gen + 1
    let lgen := ((lineageOf u (u32 p 4)).map (·.gen.toNat)).getD 0
    let made := fun (m : Mat) (t : State) => keyOf t sah = ⟨.present, gen⟩ ∧
      blobAt t sah = pad 96 (blobMake (kekOf u) sah gen.toNat lgen false m) ∧ ∀ o, o ≠ sah → keyOf t o = keyOf u o
    (∀ x : SymSlot, Taken 0x0400 mb s c → p.length = 96 → 0x1000 ≤ u16 p 10 → u16 p 10 ≤ 0x2FFF →
      zeros p 24 8 = true → tget none s.km.sym (u16 p 10) = some x → x.purpose = 2 →
      match sivOpen x.key (sub p 12 12) (p.take 12) (sub p 32 48) (sub p 80 16) with
      | none => Turned (.keyLoad mb) s c stIntegrity
      | some plain =>
        if zeros plain (suiteKey (u8 p 8)) (32 - suiteKey (u8 p 8)) = false ∨ zeros plain 44 4 = false then
          Turned (.keyLoad mb) s c stIntegrity
        else if isXpn (u8 p 8) = zeros plain 32 12 then Turned (.keyLoad mb) s c stInvalid
        else ∃ t, AnswersOk (.keyLoad mb) s c (le 4 sah ++ le 2 gen.toNat ++ zb 2) t ∧
          t = { u with km := t.km, free := t.free, prot := { u.prot with mem := t.prot.mem } } ∧
          made ⟨u8 p 8, plain.take (suiteKey (u8 p 8)), if isXpn (u8 p 8) then sub plain 32 12 else [], u8 p 9 / 2, 1,
            u32 p 4⟩ t) ∧
    (Taken 0x0401 mb s c → p.length = 24 → zeros p 10 14 = true →
      let k := drawBytes (suiteKey (u8 p 8)) u
      let x := drawBytes 12 k.2
      ∃ t, AnswersOk (.keyGenerate mb) s c (le 4 sah ++ le 2 gen.toNat ++ zb 2) t ∧
        t = { u with km := t.km, drbg := t.drbg, free := t.free, prot := { u.prot with mem := t.prot.mem } } ∧
        made ⟨u8 p 8, k.1, if isXpn (u8 p 8) then x.1 else [], u8 p 9 / 2, 2, u32 p 4⟩ t))

/-- Lineages (R159, R160, R186): KEY_LINEAGE_CREATE enters a lineage at generation 0 with its parent and depth;
KEY_LINEAGE_INVALIDATE of a lineage at its expected generation advances the generation of that lineage and of every
descendant by 1, one at 255 becoming SPENT instead, leaves every other lineage as it was, clears the KEK cache of those it
advances, and answers OK or OK_DEFERRED; KEY_LINEAGE_GET returns the entry. -/
def Obligations.LineageCommandsAnswer : Prop :=
  (∀ (s : State) (mb id par pol : Nat) (c : Cmd), Taken 0x0406 mb s c → kmBad s = false → sourcesRefused s = false →
    id < 16777216 → (par = 0xFFFFFFFF ∨ par < 16777216) → pol ≤ 1 → lineageOf s id = none →
    s.km.lineages.length < 65536 → c.payload = le 4 id ++ le 4 par ++ le 1 pol ++ zb 3 →
    (par = 0xFFFFFFFF → AnswersOk (.keyLineageCreate mb) s c (le 4 id)
      { s with km := { s.km with lineages := tset none s.km.lineages id (some ⟨0, none, 1, pol == 1, false⟩) } }) ∧
    (∀ l, par < 16777216 → lineageOf s par = some l → l.depth < 8 →
      AnswersOk (.keyLineageCreate mb) s c (le 4 id) { s with km := { s.km with
        lineages := tset none s.km.lineages id (some ⟨0, some par, l.depth + 1, pol == 1, false⟩) } })) ∧
  (∀ (s : State) (mb id : Nat) (l : Lineage) (c : Cmd), Taken 0x0407 mb s c → kmBad s = false → id < 16777216 →
    TabWf none s.km.lineages → lineageOf s id = some l → c.payload = le 4 (id + 16777216 * l.gen.toNat) →
    ∃ r t, Answers (.keyLineageInvalidate mb) s c r t ∧ (r.status = stOk ∨ r.status = stDeferred) ∧
      r.payload.take 4 = le 1 (lineageStep l).gen.toNat ++ zb 3 ∧
      (∀ k, lineageOf t k = if lineageUnder s id 8 k then (lineageOf s k).map
        (fun x => if x.gen = 255 then { x with spent := true } else { x with gen := x.gen + 1 }) else lineageOf s k) ∧
      (∀ e ∈ t.km.kekCache, ∀ x, lineageOf s e.1 = some x → lineageUnder s id 8 e.1 = true → x.gen = 255)) ∧
  (∀ (s : State) (mb id : Nat) (l : Lineage) (c : Cmd), Taken 0x0408 mb s c → kmBad s = false → id < 2 ^ 32 →
    lineageOf s id = some l → c.payload = le 4 id →
    AnswersOk (.keyLineageGet mb) s c (le 4 (id + 16777216 * l.gen.toNat) ++ le 4 (l.parent.getD 0xFFFFFFFF) ++
      le 1 (b2n l.orphan) ++ le 1 (b2n l.spent) ++ le 1 l.depth ++ zb 1 ++
      le 2 (s.km.lineages.filter (fun e => (e.2.bind (·.parent)) == some id)).length ++ zb 2) s)

/-- The other commands of the key manager with valid arguments (R166, R178, R180, R181, R183, R185, R186): BLOB_EXPORT,
BLOB_IMPORT, KEY_EVICT, KEY_PIN_SET of a resident key and of an unpinning, KEY_KWB_SET, KEY_STATS_GET, KEY_STATE_SAVE,
KEY_STATE_RESTORE, BLOB_FORWARD_SEAL, BLOB_FORWARD_OPEN, the three steps of PKE_AGREE, and PKE_SLOT_ERASE. A command whose transfer
to the host the firewall denies ends with INTEGRITY, and changes nothing but what the denial does (R315; which ranges the transfer
reads is the rows' operand `reads`, log entry 68). The model's choices are the inner layout of a state image (log entry 27), how
drawn bytes become private keys (log entry 70), and that KEY_EVICT, BLOB_IMPORT and BLOB_FORWARD_OPEN ignore ATOMIC (log entry 79). -/
def Obligations.KeyCommandsComplete : Prop :=
  (∀ (s : State) (mb first n a : Nat) (reads : List (Nat × Nat)) (c : Cmd), Taken 0x0402 mb s c → kmBad s = false → 0 < n →
    first + n ≤ 131072 → a < 2 ^ 64 → dmaRange a (96 * n) = true → c.payload = le 4 first ++ le 4 n ++ le 8 a →
    let bs := blobsOf s first n
    (dmaDenied s (dmaReads reads) = none ∨ bs = [] →
      AnswersOk (.blobExport mb reads) s c (le 4 bs.length ++ zb 4) (if bs.isEmpty then s else dmaPut a bs.flatten s)) ∧
    (∀ x, dmaDenied s (dmaReads reads) = some x → bs ≠ [] →
      Answers (.blobExport mb reads) s c ⟨stIntegrity, 0, []⟩ (dmaDeny x s))) ∧
  (∀ (s : State) (mb n ra ba : Nat) (c : Cmd) (bs : Bytes), kmBad s = false → 0 < n → n ≤ 4096 →
    (ra = 0 → n ≤ 2036) → ra < 2 ^ 64 → ba < 2 ^ 64 → dmaRange ra (2 * n) = true → dmaRange ba (96 * n) = true →
    bs.length = 96 * n → c.payload = batchPrefix n 0 ++ le 8 ra ++ le 8 ba →
    let answer := fun (i : Instr) (f : Bytes → State → Nat × State) (u : State) =>
      let r := runEach f (pieces 96 n bs) u
      Answers i s c ⟨batchStatus r.1, batchBad r.1, batchPrefix n (batchBad r.1) ++
        (if ra = 0 then r.1.flatMap (le 2) else [])⟩ (if ra = 0 then r.2 else dmaPut ra (r.1.flatMap (le 2)) r.2)
    (Taken 0x0403 mb s c → sourcesRefused s = false → answer (.blobImport mb (.data bs)) (importEntry false) s) ∧
    (Taken 0x040E mb s c → answer (.blobForwardOpen mb (.data bs)) (importEntry true) (mkReady s))) ∧
  (∀ (s : State) (mb : Nat) (c : Cmd) (d : DmaRead) (es : List Bytes), Taken 0x0404 mb s c → kmBad s = false → es ≠ [] →
    es.length ≤ 4096 → (∀ e ∈ es, e.length = 4) →
    let n := s.hif.nextDeferred
    let r := runEach (evictEntry n) es (deferHold n (deferOpen c s))
    (nbit c.flags 3 = false → c.payload = batchPrefix es.length 0 ++ es.flatten →
      Answers (.keyEvict mb d) s c ⟨batchStatus r.1, batchBad r.1,
        batchPrefix es.length (batchBad r.1) ++ r.1.flatMap (le 2)⟩ (deferClose n r.2)) ∧
    (nbit c.flags 3 = true → ∀ a b, a < 2 ^ 64 → b < 2 ^ 64 → dmaRange a es.flatten.length = true →
      dmaRange b (2 * es.length) = true → c.payload = dmaPayload es.length a b es.flatten.length →
      d = .data es.flatten →
      Answers (.keyEvict mb d) s c ⟨batchStatus r.1, batchBad r.1, batchPrefix es.length (batchBad r.1)⟩
        (deferClose n (if b = 0 then r.2 else dmaPut b (r.1.flatMap (le 2)) r.2)))) ∧
  (∀ (s : State) (mb sah i : Nat) (pin ecc : Bool) (c : Cmd), Taken 0x0405 mb s c → kmBad s = false → sah ≤ 131071 →
    slotBy s sah = some i → c.payload = le 4 sah ++ bit8 pin ++ zb 3 →
    (pin = false → (slotOf s i).orphan = false →
      AnswersOk (.keyPinSet mb ecc) s c [] (setSlot i (fun x => { x with pinned := false }) s)) ∧
    (pin = true → (slotOf s i).st = .resident → (slotOf s i).pinned = false → pinnedCount s < 12288 →
      AnswersOk (.keyPinSet mb ecc) s c [] (setSlot i (fun x => { x with pinned := true }) s))) ∧
  (∀ (s : State) (mb side sa rsv lim : Nat) (c : Cmd), Taken 0x0409 mb s c → kmBad s = false → side ≤ 1 → 128 ≤ sa →
    sa ≤ lim → rsv ≤ 64 → rsv ≤ lim → lim ≤ 4096 →
    c.payload = le 1 side ++ zb 1 ++ le 2 sa ++ le 2 rsv ++ le 2 lim ++ zb 8 →
    AnswersOk (.keyKwbSet mb) s c [] { s with km := { s.km with lim := s.km.lim.set side ⟨sa, rsv, lim⟩ } }) ∧
  (∀ (s : State) (mb d : Nat) (c : Cmd), Taken 0x040A mb s c → kmBad s = false → d ≤ 1 → c.payload = le 1 d ++ zb 3 →
    let n := s.km.cnt.get d
    AnswersOk (.keyStatsGet mb) s c (le 1 d ++ zb 7 ++ le64 s.tsu.ns ++
      le 4 (tkeys (fun _ x => x.st == .resident) s.km.slots).length ++ le 4 (pinnedCount s) ++ le 4 (kwbUse s d) ++
      le 4 (s.km.kwbHighWater.get d) ++ le 4 (s.km.misses.get d).length ++ le 4 (s.km.fetchHighWater.get d) ++
      le64 n.hit ++ le64 n.miss ++ le64 n.fetch ++ le64 n.stale ++ le64 n.integrity ++ le64 n.kekMiss ++
      le64 s.km.evictCnt ++ le64 s.km.forcedCnt ++ (List.range 32).flatMap (fun p =>
        le64 (tget 0 (s.km.kwbDrop.get d) p) ++ le64 (tget 0 (s.km.unavail.get d) p))) s) ∧
  (∀ (s : State) (mb a : Nat) (reads : List (Nat × Nat)) (c : Cmd), Taken 0x040B mb s c → kmBad s = false → a < 2 ^ 64 →
    dmaRange a 1048656 = true → c.payload = le 8 a ++ zb 8 →
    let t := counterStep s
    let n := t.boot.bbram.counter.toNat
    (dmaDenied s (dmaReads reads) = none →
      AnswersOk (.keyStateSave mb reads) s c (le 8 n ++ le 4 1048656 ++ zb 4) (dmaPut a (imageMake (fbkOf t) n t) t)) ∧
    (∀ x, dmaDenied s (dmaReads reads) = some x →
      Answers (.keyStateSave mb reads) s c ⟨stIntegrity, 0, []⟩ (dmaDeny x s))) ∧
  (∀ (s : State) (mb a : Nat) (forward : Bool) (img : Bytes) (c : Cmd), Taken 0x040C mb s c → kmBad s = false →
    a < 2 ^ 64 → dmaRange a 1048656 = true → c.payload = le 8 a ++ bit8 forward ++ zb 7 → s.km.lineages = [] →
    s.km.keys.any (fun e => e.2.st != .absent) = false → img.length = 1048656 →
    let t := if forward then mkReady s else s
    let n := s.boot.bbram.counter.toNat
    let root := if forward then mkRunOf t else fbkOf t
    u64 img 0 = n →
    match sivOpen (kdf root "STATE" (be 8 n) 32) (le 8 n ++ zb 4) (img.take 64) (sub img 64 1048576) (img.drop 1048640) with
    | none => Answers (.keyStateRestore mb (.data img)) s c ⟨stIntegrity, 0, []⟩ t
    | some plain =>
      AnswersOk (.keyStateRestore mb (.data img)) s c (le 8 n) (evH 0x4009 (le 8 n) (imageLoad plain t))) ∧
  (∀ (s : State) (mb a b : Nat) (reads : List (Nat × Nat)) (mk : Shares) (c : Cmd), Taken 0x040D mb s c → kmBad s = false →
    s.km.mkNext = some mk → dmaDenied s (dmaReads reads) = none →
    a < 2 ^ 64 → b < 2 ^ 64 → c.payload = le 8 a ++ le 8 b ++ zb 8 →
    let sahs := tkeys (fun _ k => k.st == .present) s.km.keys
    let blobs := sahs.filterMap (fun i => forwardBlob mk.value i s)
    dmaRange a (96 * sahs.length) = true → dmaRange b 1048656 = true →
    ∃ t, AnswersOk (.blobForwardSeal mb reads) s c (le 4 blobs.length ++ le 4 (sahs.length - blobs.length) ++
        le 8 (s.boot.bbram.counter + 1).toNat) t ∧
      t.km = { s.km with sealed := true } ∧ t.boot = (counterStep s).boot) ∧
  (∀ (s : State) (mb : Nat) (c : Cmd), Taken 0x0420 mb s c → kmBad s = false → pkeArgs c.payload = true →
    let p := c.payload
    let ckn := sub p 16 (u8 p 8)
    let mode := u8 p 2
    (u8 p 0 = 1 → tfree 0 s.km.ctxs < 256 →
      let h := tfree 0 s.km.ctxs
      let d := drawMany 4 s
      let m1 := pad (m1Len mode) (pkePublic mode d.1)
      AnswersOk (.pkeAgree mb) s c (le 2 h ++ zb 2 ++ le 2 (m1Len mode) ++ zb 2 ++ zb 48 ++ m1)
        (putCtx h (some ⟨u8 p 1, mode, d.1, m1, s.tsu.ns + 10000000000⟩) d.2)) ∧
    (u8 p 0 = 2 → tget none s.km.sym (u16 p 6) = none →
      let d := drawMany 3 s
      match pkeRespond mode d.1 (p.drop 48) with
      | none => Turned (.pkeAgree mb) s c stInvalid
      | some (m, ze, zk) =>
        let m2 := pad (m2Len mode) m
        let t := pkeT mode (u8 p 1) (u8 p 3) ckn (p.drop 48) m2
        AnswersOk (.pkeAgree mb) s c (zb 2 ++ le 2 (u16 p 6) ++ le 2 (m2Len mode) ++ zb 2 ++ pad 48 t ++ m2)
          (putSym (u16 p 6) (u8 p 1) (pkeResult (u8 p 1) (u8 p 3) ze zk t ckn) d.2)) ∧
    (u8 p 0 = 3 → tget none s.km.sym (u16 p 6) = none → ∀ x, tget none s.km.ctxs (u16 p 4) = some x →
      reached s.tsu.ns x.expiry = false → x.purpose = u8 p 1 → x.mode = mode →
      match pkeFinish mode x.secret (p.drop 48) with
      | none => Turned (.pkeAgree mb) s c stInvalid
      | some (ze, zk) =>
        let t := pkeT mode (u8 p 1) (u8 p 3) ckn x.m1 (p.drop 48)
        AnswersOk (.pkeAgree mb) s c (zb 2 ++ le 2 (u16 p 6) ++ zb 2 ++ zb 2 ++ pad 48 t)
          (putCtx (u16 p 4) none (putSym (u16 p 6) (u8 p 1) (pkeResult (u8 p 1) (u8 p 3) ze zk t ckn) s)))) ∧
  (∀ (s : State) (mb i : Nat) (c : Cmd), Taken 0x0421 mb s c → kmBad s = false → c.payload = le 2 i ++ zb 2 →
    (8 ≤ i → i ≤ 0x3F → tget none s.km.asym i ≠ none →
      AnswersOk (.pkeSlotErase mb) s c [] { s with km := { s.km with asym := tset none s.km.asym i none } }) ∧
    (0x1000 ≤ i → i ≤ 0x2FFF → tget none s.km.sym i ≠ none →
      AnswersOk (.pkeSlotErase mb) s c [] { s with km := { s.km with sym := tset none s.km.sym i none } }))

/-- The KENNEL and the staging registers at work (R168 to R176, R179 to R181): the oldest entry of a miss table takes a slot;
a fetch whose blob passes every check fills it, and one whose blob fails a check ends it; a drained slot becomes FREE, and
one that is still held after 20 µs of TOD is ended by force; MUZZLE leaves no slot, no key of the hierarchy, no staged key and no PKE
key; the end of the clearing is reported; staged words are taken in RAW and PROVISION only; WRAP begins, on what the
key manager itself loads where it is the source (R175), and CLEAR zeroises; a staged key that no WRAP takes is zeroised after 1 ms of
TOD; an agreement context expires after 10 s. The model's choices are what CLEAR leaves (log entry 79), which source KM_WRAP names
(log entry 119), and that a source which gives nothing leaves what is staged (log entry 143). -/
def Obligations.KennelAndStagingComplete : Prop :=
  (∀ (s : State) (side i : Nat) (m : Miss) (t : State), live s = true → s.km.muzzled = false → side < 2 →
    ((s.km.misses.get side).filter (·.slot.isSome)).length < 64 → (s.km.misses.get side).find? (·.slot.isNone) = some m →
    slotBy s m.sah = none → slotTake s = (some i, t) →
    ∃ u, exec (.fetchIssue side) s = .next u ∧ (slotOf u i).st = .loading ∧ (slotOf u i).sah = m.sah) ∧
  (∀ (s : State) (side sah i : Nat) (m : Miss) (mem : FetchMemory), live s = true → s.km.muzzled = false → side < 2 →
    (s.km.misses.get side).find? (fun m => m.sah == sah) = some m → m.slot = some i → (slotOf s i).st = .loading →
    let blob := pad 96 (mem.blob.getD (blobAt s sah))
    let line := pad 64 (mem.line.getD (lineAt s (sah / 32)))
    let lin := u32 blob 12 % 16777216
    let lgen := u32 blob 12 / 16777216
    let r := blobCheck (kekOf s) sah (fetchWant s sah) false mem.ecc line blob s
    match r with
    | .ok mat => exec (.fetchComplete side sah mem) s = .next (fetchWake i (fun _ t => pinSlot i t)
        (kwbDrain 1 (kwbDrain 0 (missDone i (fetchMark side (!(kekCached lin lgen s).isSome)
          (slotFill i mat (kekTouch side lin lgen s)))))))
    | .error n => exec (.fetchComplete side sah mem) s = .next
        (fetchFail side sah i n (if 7 ≤ n then kekTouch side lin lgen s else s))) ∧
  (∀ (s : State) (i : Nat), live s = true → (slotOf s i).st = .draining →
    ((slotOf s i).ref = 0 → ∃ t, exec (.slotDrained i) s = .next t ∧ (slotOf t i).st = .free ∧
      (slotOf t i).roundKeys = .none ∧ (slotOf t i).hash = .none) ∧
    ((slotOf s i).ref ≠ 0 → reached s.tsu.ns ((slotOf s i).drain + 20000) = true →
      ∃ t, exec (.drainTimeout i) s = .next (kwbDrain 1 (kwbDrain 0 t)) ∧ (slotOf t i).st = .free ∧
        (slotOf t i).roundKeys = .none ∧ (slotOf t i).hash = .none ∧ t.km.forcedCnt = s.km.forcedCnt + 1)) ∧
  (∀ s : State, live s = true → s.km.muzzled = false → ∃ t, exec .muzzle s = .next t ∧ t.km.muzzled = true ∧
    t.km.uds = none ∧ t.km.fbk = none ∧ t.km.mkRun = none ∧ t.km.mkNext = none ∧ t.km.kekCache = [] ∧
    t.km.stg = .reset ∧ t.km.asym = [] ∧ t.km.sym = [] ∧ t.km.ctxs = []) ∧
  (∀ s : State, live s = true → s.km.clearing = true →
    exec .muzzleDone s = .next (evH 0x4007 [] { s with km := { s.km with clearing := false } })) ∧
  (∀ (s : State) (i : Nat) (v : W32), cpRuns s = true → i ≤ 10 →
    (2 ≤ s.boot.lc → exec (.kmStgKeyWrite i v) s =
      .next { s with km := { s.km with stg := { s.km.stg with denied := true } } }) ∧
    (s.boot.lc ≤ 1 → exec (.kmStgKeyWrite i v) s = .next { s with km := { s.km with stg := { s.km.stg with
      key := if i < 8 then tset 0 s.km.stg.key i v else s.km.stg.key
      salt := if i < 8 then s.km.stg.salt else tset 0 s.km.stg.salt (i - 8) v
      loaded := true, source := 1, written := s.tsu.ns } } })) ∧
  (∀ (s : State) (r : Bool), cpRuns s = true → s.km.stg.busy = false →
    exec (.kmWrap r .staged) s = .next { s with km := { s.km with stg := { s.km.stg with busy := true, replace := r } } } ∧
    (∀ slot k, tget none s.km.sym slot = some k →
      exec (.kmWrap r (.pke slot)) s = .next { s with km := { s.km with stg := { s.km.stg with
        key := stgWords 8 (pad 32 k.key), salt := stgWords 3 [], loaded := true, source := 5, written := s.tsu.ns
        busy := true, replace := r } } } ∧
      (∀ wrapped, k.purpose = 1 →
        let g := match Config.mkaUnwrap k.key wrapped with
          | some m => { s.km.stg with
              key := stgWords 8 (pad 32 m.1), salt := stgWords 3 (pad 12 m.2), loaded := true, source := 4
              written := s.tsu.ns }
          | none => s.km.stg
        exec (.kmWrap r (.mka slot wrapped)) s =
          .next { s with km := { s.km with stg := { g with busy := true, replace := r } } }))) ∧
  (∀ s : State, cpRuns s = true → exec .kmClear s = .next { s with km := { s.km with stg := { s.km.stg with
      key := [], salt := [], loaded := false, source := 0, suite := 0, saltValid := false, usage := 0, target := 0,
      lineage := 0 } } }) ∧
  (∀ s : State, live s = true → s.km.stg.loaded = true → s.km.stg.busy = false →
    reached s.tsu.ns (s.km.stg.written + 1000000) = true →
    exec .stagingTimeout s = .next { s with km := { s.km with stg := { s.km.stg with
      key := [], salt := [], loaded := false, source := 0 } } }) ∧
  (∀ (s : State) (h : Nat) (x : PkeCtx), live s = true → tget none s.km.ctxs h = some x →
    reached s.tsu.ns x.expiry = true → exec (.pkeContextExpiry h) s =
      .next { s with km := { s.km with ctxs := tset none s.km.ctxs h none } })

/-! ### Traffic managers, policers and gates (08_scheduling_shaping.md, 09_policing_gates.md) -/

/-- The commands of the traffic managers, policers and gates with valid arguments (R212, R222, R226, R233): TM_PORT_SET with
the range kept or on a port DISABLED or ADMIN_DOWN, TM_PORT_GET, TM_QUEUE_GET, TM_SHAPER_GET, TM_STATS_GET,
POL_GET, GCL_SET with ENABLE (the list pending until T_c, counted and reported where it is late) and without it,
GCL_GET with the entries inline up to 506 of them and else by DMA, GCL_STATUS_GET. -/
def Obligations.TmAndGateCommandsComplete : Prop :=
  (∀ (s : State) (mb : Nat) (c : Cmd), Taken 0x0500 mb s c → lcBad s = false → tmPortValid s c.payload = true →
    let p := c.payload
    let n := u8 p 0
    let r := (u16 p 2, u16 p 4)
    (r = rangeOf (tmOf s (tmSide n)) (tmSide n) (n % 32) ∨ (port s n).st = .disabled ∨ (port s n).st = .adminDown) →
    AnswersOk (.tmPortSet mb) s c [] (setTmPort n (fun x => { x with
      range := if r = (64 * (n % 32), 64) then none else some r
      headroom := u16 p 6, xonGap := u16 p 8, classXoff := u16 p 10, lead := u16 p 12, expMax := u16 p 14
      pfc := (sub p 16 8).map (·.toNat) }) s)) ∧
  (∀ (s : State) (mb n : Nat) (c : Cmd), lcBad s = false → n < 64 → c.payload = le 1 n ++ zb 3 →
    (Taken 0x0501 mb s c → AnswersOk (.tmPortGet mb) s c (tmPortBytes s n) s) ∧
    (Taken 0x0506 mb s c →
      let x := tmPort s n
      let t := tmOf s (tmSide n)
      let halted := haltMask s x
      AnswersOk (.tmStatsGet mb) s c ([BitVec.ofNat 8 n, BitVec.ofNat 8 (mask [x.xoff, halted != 0]),
        BitVec.ofNat 8 x.clsXoff, BitVec.ofNat 8 halted] ++ zb 4 ++ le64 s.tsu.ns ++
        le 4 (rangeCells t (rangeOf t (tmSide n) (n % 32))) ++ le 4 x.highWater ++ le64 x.stick ++ le64 x.expSent ++
        le64 x.expMiss ++ le64 x.expRefused ++ le64 x.xoffCnt ++ le64 (pausedNow s x) ++ le 4 (sharedFree s (tmSide n)) ++
        zb 4) s) ∧
    (Taken 0x0522 mb s c → ∃ b, AnswersOk (.gclStatusGet mb) s c b s ∧ b.length = 144 ∧
      b.take 2 = le 1 n ++ le 1 (gateOf s n).st)) ∧
  (∀ (s : State) (mb side q : Nat) (c : Cmd), lcBad s = false → side ≤ 1 → c.payload = le 1 side ++ zb 1 ++ le 2 q →
    (Taken 0x0503 mb s c → q ≤ 2047 → AnswersOk (.tmQueueGet mb) s c (tmQueueBytes side q (queueOf s side q)) s) ∧
    (Taken 0x0511 mb s c → q ≤ 8191 → AnswersOk (.polGet mb) s c (polBytes side q (polOf s side q) ++
      leInt 4 ((polOf s side q).c.tdiv 16777216) ++ leInt 4 ((polOf s side q).e.tdiv 16777216) ++ zb 8) s)) ∧
  (∀ (s : State) (mb side level i : Nat) (c : Cmd), Taken 0x0505 mb s c → lcBad s = false → side ≤ 1 → level ≤ 2 →
    i < shaperCount level → c.payload = le 1 side ++ le 1 level ++ le 2 i →
    let x := shaperOf s side level i
    AnswersOk (.tmShaperGet mb) s c (c.payload ++ le 4 x.rate ++ le 4 x.burst ++ leInt 1 x.adjust ++
      le 1 (b2n x.excl + 2 * b2n x.zero) ++ zb 2 ++ leInt 4 (x.credit.tdiv 16777216) ++ zb 4) s) ∧
  (∀ (s : State) (mb p cycle base ext guardNs : Nat) (d : DmaRead) (es : List (Nat × Nat)) (c : Cmd), Taken 0x0520 mb s c →
    lcBad s = false → p < 64 → 1000 ≤ cycle → cycle ≤ 1000000000 → base < 2 ^ 64 → ext ≤ cycle →
    (guardNs = 0 ∨ (100 ≤ guardNs ∧ guardNs ≤ 1000000)) → nbit c.flags 3 = false → es.length ≤ 506 →
    (∀ e ∈ es, 32 ≤ e.1 ∧ e.1 ≤ 1000000000 ∧ e.2 < 256) →
    c.payload = le 1 p ++ le 1 (if es = [] then 0 else 1) ++ le 2 es.length ++ le 4 cycle ++ le 8 base ++ le 4 ext ++
      le 4 guardNs ++ zb 8 ++ es.flatMap (fun e => le 4 e.1 ++ le 1 e.2 ++ zb 3) →
    let r := gateTc s.tsu.ns (BitVec.ofNat 64 base) cycle (if guardNs = 0 then 1000 else guardNs)
    let l : GateList := ⟨BitVec.ofNat 64 base, cycle, ext, if guardNs = 0 then 1000 else guardNs, es⟩
    (es ≠ [] → r.2 = 0 → AnswersOk (.gclSet mb d) s c (le64 r.1 ++ zb 8) (setGate p (fun g => { g with
      pend := some l, tc := r.1, st := if g.st = 0 ∨ g.st = 1 then 1 else 3 }) s)) ∧
    (es ≠ [] → 0 < r.2 → AnswersOk (.gclSet mb d) s c (le64 r.1 ++ le 4 r.2 ++ le 1 1 ++ zb 3)
      (evH 0x5006 (le 1 p ++ le64 r.1 ++ le 4 r.2) (setGate p (fun g => { g with
        pend := some l, tc := r.1, st := if g.st = 0 ∨ g.st = 1 then 1 else 3, late := g.late + 1 }) s))) ∧
    (es = [] → AnswersOk (.gclSet mb d) s c (le64 s.tsu.ns ++ zb 8)
      (setGate p (fun g => { g with st := 0, oper := none, pend := none, gates := 255 }) s))) ∧
  (∀ (s : State) (mb p which a : Nat) (l : GateList) (c : Cmd), Taken 0x0521 mb s c → lcBad s = false → p < 64 →
    which ≤ 1 → a < 2 ^ 64 → (if which = 0 then (gateOf s p).oper else (gateOf s p).pend) = some l →
    c.payload = le 1 p ++ le 1 which ++ zb 2 ++ le 8 a →
    (l.entries.length ≤ 506 → ∀ reads, AnswersOk (.gclGet mb reads) s c ((gclBytes p l).1 ++ (gclBytes p l).2) s) ∧
    (506 < l.entries.length → a ≠ 0 → dmaRange a (8 * l.entries.length) = true →
      AnswersOk (.gclGet mb []) s c (gclBytes p l).1 (dmaPut a (gclBytes p l).2 s)))

/-- Shapers and queues (R195, R197, R212). SHAPER_REFILL raises an enabled shaper's credit by its rate times 40 ns, rounded
down to 2^-24 byte and capped at B, and leaves a disabled one (R195). A TM_SHAPER_SET entry that commits on a shaper keeps a negative credit and sets a credit of 0 or more to
B under RESET_FULL and to 0 under RESET_ZERO, by the new policy and the new B, whatever else it changes, and leaves every
other shaper (R197). A TM_QUEUE_SET entry sets its queue's TC, weight and limit, and a TC change of a queue that holds
frames gives WRONG_STATE; a field out of range gives INVALID_ARG and changes nothing (R212, Table 8-11). -/
def Obligations.ShapersRefillAndCommit : Prop :=
  (∀ (s : State) (side i : Nat), live s = true → side < 2 →
    ∃ t, exec .shaperRefill s = .next t ∧ ∀ level, shaperOf t side level i =
      let x := shaperOf s side level i
      if x.rate = 0 then x else { x with
        credit := min (x.credit + ((x.rate * 83886080 / 1000000 : Nat) : Int)) ((x.burst : Int) * 16777216) }) ∧
  (∀ (s : State) (mb side level i rate b a fl : Nat) (d : DmaRead) (c : Cmd), Taken 0x0504 mb s c → lcBad s = false →
    nbit c.flags 3 = false → nbit c.flags 0 = false → side < 2 → level ≤ 2 → i < shaperCount level → rate < 2 ^ 32 →
    2048 ≤ b → b ≤ 16777215 → (a ≤ 127 ∨ (192 ≤ a ∧ a ≤ 255)) → fl ≤ 3 →
    c.payload = batchPrefix 1 0 ++ le 1 side ++ le 1 level ++ le 2 i ++ le 4 rate ++ le 4 b ++ le 1 a ++ le 1 fl ++ zb 2 →
    let x := shaperOf s side level i
    ∃ t, AnswersOk (.tmShaperSet mb d) s c (batchPrefix 1 0 ++ le 2 stOk) t ∧
      shaperOf t side level i = ⟨rate, b, if a ≤ 127 then (a : Int) else (a : Int) - 256, nbit fl 0, nbit fl 1,
        if x.credit < 0 then x.credit else if nbit fl 1 then 0 else (b : Int) * 16777216⟩ ∧
      ∀ sd lv j, sd < 2 → lv ≤ 2 → (sd, lv, j) ≠ (side, level, i) → shaperOf t sd lv j = shaperOf s sd lv j) ∧
  EntryRule .tmQueueSet 0x0502 (fun _ e s status t =>
    lcBad s = false ∧ e.length = 16 ∧
    let side := u8 e 0
    let q := u16 e 2
    let x := queueOf s side q
    let bad := 1 < side ∨ 7 < u8 e 1 ∨ 2047 < q ∨ u8 e 4 = 0 ∨ zeros e 5 3 = false ∨ u32 e 8 < 1 ∨ 98304 < u32 e 8 ∨
      zeros e 12 4 = false
    let busy := u8 e 1 ≠ queueTc q x ∧ x.frames ≠ []
    (bad ∧ status = stInvalid ∧ t = s) ∨ (¬ bad ∧ busy ∧ status = stWrongState ∧ t = s) ∨
    (¬ bad ∧ ¬ busy ∧ status = stOk ∧ t = setQueue side q (fun y => { y with
      tc := if u8 e 1 = q % 8 then none else some (u8 e 1), weight := u8 e 4, limit := u32 e 8 }) s))

/-- Policers (R214, R215, R220). POLICER_REFILL: under SRTCM, C gains CIR times 40 ns and is capped at CBS, and what the refill would have taken C
above CBS is added to E, which is capped at EBS; under TRTCM, C and P gain at their own rates, capped at CBS and PBS; each amount is
rounded down to a multiple of 2^-24 byte; a bucket in debt is refilled in the same way. A POL_SET entry sets the parameters,
fills both buckets to their new sizes, whatever it changes, and ends the debits still owed; the counters keep their values; a
field out of range gives INVALID_ARG and changes nothing. -/
def Obligations.PolicersRefill : Prop :=
  EntryRule .polSet 0x0510 (fun _ e s status t =>
    lcBad s = false ∧ e.length = 32 ∧
    let a := if 128 ≤ u8 e 6 then (u8 e 6 : Int) - 256 else (u8 e 6 : Int)
    let bad := 1 < u8 e 0 ∨ u8 e 1 ≠ 0 ∨ 8191 < u16 e 2 ∨ 2 < u8 e 4 ∨ 1 < u8 e 5 ∨ u8 e 7 ≠ 0 ∨ a < -64 ∨ 127 < a ∨
      zeros e 24 8 = false ∨ 16777215 < u32 e 16 ∨ 16777215 < u32 e 20 ∨ (u8 e 4 ≠ 2 ∧ u32 e 12 ≠ 0) ∨
      (u8 e 4 = 2 ∧ u32 e 12 < u32 e 8)
    (bad ∧ status = stInvalid ∧ t = s) ∨
    (¬ bad ∧ status = stOk ∧ t = setPol (u8 e 0) (u16 e 2) (fun p => { p with
      mode := u8 e 4, aware := decide (u8 e 5 = 1), adjust := a, cir := u32 e 8, pir := u32 e 12, cbs := u32 e 16
      ebs := u32 e 20, c := (u32 e 16 : Int) * 16777216, e := (u32 e 20 : Int) * 16777216, epoch := p.epoch + 1 }) s)) ∧
  ∀ (s : State) (side i : Nat), live s = true → side < 2 →
    ∃ t, exec .policerRefill s = .next t ∧ t = { s with pol := t.pol } ∧ polOf t side i =
      let p := polOf s side i
      let gain := fun (rate : Nat) => ((rate * 83886080 / 1000000 : Nat) : Int)
      let size := fun (bytes : Nat) => (bytes : Int) * 16777216
      if p.mode = 1 then
        let excess := p.c + gain p.cir - size p.cbs
        { p with c := min (p.c + gain p.cir) (size p.cbs),
                 e := if 0 < excess then min (p.e + excess) (size p.ebs) else p.e }
      else if p.mode = 2 then
        { p with c := min (p.c + gain p.cir) (size p.cbs), e := min (p.e + gain p.pir) (size p.ebs) }
      else p

/-- The traffic manager's frames (R41, R189 to R194, R196): a frame for a port that can send nothing is counted there and
gone; one that its queue or the pool does not admit is dropped whole and counted; an admitted one is the last of its queue, the
bound queue of its TX SC where it has one, and binds its SC; the port sends the head of the queue that R206 or R193 takes; a frame whose
last word has left advances its queue's finish tag by its cost, counts there, and is debited from every enabled shaper; under a
port that is no longer UP, or is BLOCKED, its queue keeps no F_last (Table 8-2). That a frame whose transmission has begun on a
port then BLOCKED completes and counts as sent is the model's choice (log entry 100). -/
def Obligations.TmFramesFlow : Prop :=
  (∀ (s : State) (id : Nat) (lapses : Bool) (f : Frame), live s = true → frameOf s id = some f → f.stage = .arrive →
    f.egress < 64 →
    (canSend s f.egress = false → exec (.tmAdmission id lapses) s = .next (downDrop f.egress (cutFrame id s))) ∧
    (canSend s f.egress = true →
      let side := tmSide f.egress
      let bound := boundQueue s f lapses
      let q := bound.getD (chosenQueue s f)
      let n := admitCells s f
      let u := if bound.any (· != chosenQueue s f) then setTmPort f.egress (fun x => { x with stick := x.stick + 1 }) s else s
      (admits s side (f.egress % 32) q n = false → exec (.tmAdmission id lapses) s =
        .next (cutFrame id (setQueue side q (fun x => { x with drops := x.drops + 1 }) (occur (7 + side) 2 f.egress 1 u)))) ∧
      (admits s side (f.egress % 32) q n = true → ∃ t, exec (.tmAdmission id lapses) s = .next t ∧
        frameOf t id = some { f with stage := .queued, queue := some q, tmCells := n } ∧
        (queueOf t side q).frames = (queueOf s side q).frames ++ [id] ∧
        (queueOf t side q).cells = (queueOf s side q).cells + n ∧
        (f.kind = .enc ∨ f.kind = .xcEnc → ∀ c, f.txSch = some c → tget none (tmOf t 1).binds c = some q)))) ∧
  (∀ (s : State) (p q id : Nat) (x : Queue), live s = true → p < 64 → canSend s p = true → (tmPort s p).sending = none →
    (tmPort s p).pauseDue = false → x.frames.head? = some id →
    let u := gateDrops p s
    let qs := rangeQueues (tmOf u (tmSide p)) (rangeOf (tmOf u (tmSide p)) (tmSide p) (p % 32))
    let express := pick (qs.filter (fun e => ahead u p e.1 e.2))
    (express = some (q, x) → exec (.tmSelect p) s = .next (sendHead p q id 0 u)) ∧
    (express = none → pick (qs.filter (fun e => eligible u p e.1 e.2)) = some (q, x) → exec (.tmSelect p) s =
      .next (sendHead p q id 0 (setTmPort p (fun t => { t with v := tset 0 t.v (queueTc q x) x.start }) u)))) ∧
  (∀ (s : State) (p q id : Nat) (f : Frame), live s = true → p < 64 → f.egress = p → f.queue = some q →
    (tmPort s p).sending = some id → frameOf (ptpDecide id s) id = some f → (f.stomp.isSome ∨ (outBytes f).isSome) →
    let u := ptpDecide id s
    let d := if f.stomp.isSome then stompBytes f else (outBytes f).getD []
    let len := d.length + 4
    let side := tmSide p
    let x := queueOf u side q
    let fin := x.start + frameCost len x.weight
    ∃ t, exec (.tmFrameDeparted p) s = .next t ∧ (queueOf t side q).frames = x.frames.erase id ∧
      (queueOf t side q).sent = x.sent + 1 ∧
      (if x.frames.erase id = [] then (queueOf t side q).fLast =
          if (port s p).st = .up ∧ blocked s p = false then some fin else none
        else (queueOf t side q).start = fin) ∧
      ∀ level i, (level, i) ∈ [(0, q), (1, p % 32 * 8 + queueTc q x), (2, p % 32)] → (shaperOf u side level i).rate ≠ 0 →
        (shaperOf t side level i).credit =
          (shaperOf u side level i).credit - chargeLen (shaperOf u side level i) (side == 1) len (macsecSent f) * 16777216) ∧
  (∀ (s : State) (side q : Nat), live s = true → side < 2 → q < 2048 → (queueOf s side q).frames = [] →
    exec (.fLastExpiry side q) s = .next (setQueue side q (fun x => { x with fLast := none }) s))

/-- Pause, express slots and gates (R198 to R206, R223, R226 to R228): a port enters XOFF below HEADROOM and returns at HEADROOM
and XON_GAP; a due pause frame goes out and is repeated while it lasts; a halt ends with its quanta; 10 ms in XOFF are
reported; an express frame that is not at its head in time, or longer than EXPRESS_MAX, is dropped and counted, and one
dropped at its slot that has left the TM whole is charged; one that is there leaves in its slot, preempting a frame that is no
express frame where preemption is active; a pending list becomes operating at T_c, and its entries follow one another. Times
are compared by their signed difference (R236). What a queue keeps on a BLOCKED port is the model's choice (log entry 100), and so is
what has arrived of a frame still in reception (log entry 132). -/
def Obligations.PauseExpressAndGates : Prop :=
  (∀ (s : State) (p : Nat), live s = true → 32 ≤ p → p < 64 →
    ∃ t, exec .tmRoomCheck s = .next t ∧ (tmPort t p).xoff = if (tmPort s p).xoff
      then decide (portRoom s p < ((tmPort s p).headroom + (tmPort s p).xonGap) * 1024)
      else decide (portRoom s p < (tmPort s p).headroom * 1024)) ∧
  (∀ (s : State) (p : Nat), live s = true → (tmPort s p).xoff = true → (tmPort s p).stuck = false →
    reached s.tsu.ns ((tmPort s p).xoffSince + 10000000) = true →
    exec (.tmXoffStuck p) s = .next (evH 0x5003 (le 1 p) (setTmPort p (fun y => { y with stuck := true }) s))) ∧
  (∀ (s : State) (h : Nat), live s = true → h < 32 → (tmPort s h).pauseDue = true → (tmPort s h).sending = none →
    canSend s h = true → (port s h).cfg.flow ≠ 0 → ∃ t, exec (.pauseFrameSend h) s = .next t ∧
      t.flow.sent = tset none s.flow.sent h (some ⟨pauseFrame s h (pauseWant s h), false⟩) ∧ t.ports = (cntPort h
        (fun c => { c with txPause := c.txPause + 1 }) s).ports) ∧
  (∀ (s : State) (h : Nat), live s = true → h < 32 → pauseWant s h ≠ 0 →
    exec (.pauseRepeat h) s = .next (setTmPort h (fun y => { y with pauseDue := true }) s)) ∧
  (∀ (s : State) (p t : Nat), live s = true → p < 64 → t < 8 → nbit (tmPort s p).halted t = true →
    reached s.tsu.ns (tget 0 (tmPort s p).haltEnd t) = true →
    exec (.pauseHaltExpiry p t) s = .next (setTmPort p (fun y => { y with
      halted := y.halted &&& (255 - 2 ^ t), haltFrom := tset 0 y.haltFrom t 0, haltEnd := tset 0 y.haltEnd t 0 })
      (haltCount p s))) ∧
  (∀ (s : State) (id : Nat) (f : Frame) (b : Int), live s = true → frameOf s id = some f → f.slot = some b →
    f.left = false →
    let p := f.egress
    let come := match f.ingress with
      | some k => Nat.max (f.hdr.length + 4) ((s.tsu.count - f.rxCount) * portRate s k / 34359738368)
      | none => f.hdr.length + 4
    let late := (tmPort s p).expMax < (wholeLen f).getD (come + macsecLen f) ∨ haltMask s (tmPort s p) ≠ 0
    let keeps := (port s p).preemptOn = false ∨ (tmPort s p).resume ≠ none ∨
      ∃ o g, (tmPort s p).sending = some o ∧ frameOf s o = some g ∧ g.slot ≠ none
    (timeGap b (todNow s) ≤ 40 * 4294967296 →
      (isHead s id f = false ∨ late ∨ (port s p).st ≠ .up → exec (.expressHeadCheck id) s = .next (expressMiss id f s)) ∧
      (¬ (isHead s id f = false ∨ late ∨ (port s p).st ≠ .up) → exec (.expressHeadCheck id) s = .next s)) ∧
    (timeGap b (todNow s) ≤ 0 →
      (isHead s id f = false → exec (.expressSlotStart id) s = .next (expressMiss id f s)) ∧
      (isHead s id f = true → late ∨ canSend s p = false → exec (.expressSlotStart id) s = .next (expressMiss id f
        (match outBytes f with
         | some d => lastWord id f (d.length + 4) s
         | none => s))) ∧
      (isHead s id f = true → ¬ late → canSend s p = true → (tmPort s p).sending ≠ none → keeps →
        exec (.expressSlotStart id) s = .next s) ∧
      (isHead s id f = true → ¬ late → canSend s p = true → ((tmPort s p).sending = none ∨ ¬ keeps) →
        let u := setTmPort p (fun x => { x with expSent := x.expSent + 1 }) (preempt p s)
        exec (.expressSlotStart id) s = .next (expressSkew id (sendHead p (f.queue.getD 0) id
          (max 0 (timeGap (b + (Config.blockWait p b : Int)) (todNow s))).toNat u))))) ∧
  (∀ (s : State) (p : Nat) (l : GateList), live s = true → p < 64 → ((gateOf s p).st = 1 ∨ (gateOf s p).st = 3) →
    (gateOf s p).pend = some l → reached s.tsu.ns (gateOf s p).tc = true →
    ∃ t, exec (.gclChangeTime p) s = .next t ∧ (gateOf t p).st = 2 ∧ (gateOf t p).oper = some l ∧
      (gateOf t p).pend = none ∧ (gateOf t p).ts = (gateOf s p).tc ∧
      (gateOf t p).changes = (gateOf s p).changes + 1) ∧
  (∀ (s : State) (p : Nat) (l : GateList), live s = true → (gateOf s p).oper = some l →
    let g := gateOf s p
    let e := l.parts.getD (g.cur + 1) (l.cycle, 0, 0)
    reached s.tsu.ns (g.cycleTod + BitVec.ofNat 64 e.1) = true →
    (g.cur + 1 < l.parts.length → exec (.gateEntryAdvance p) s = .next (setGate p (fun g => { g with
      cur := g.cur + 1, gates := e.2.2, entryTod := g.cycleTod + BitVec.ofNat 64 e.1 }) s)) ∧
    (l.parts.length ≤ g.cur + 1 → gateExtends g l (g.cycleTod + BitVec.ofNat 64 e.1) = false →
      exec (.gateEntryAdvance p) s = .next (setGate p (fun g => { g with
        cur := 0, gates := (l.parts.getD 0 (0, 0, 255)).2.2, cycleTod := g.cycleTod + BitVec.ofNat 64 e.1
        entryTod := g.cycleTod + BitVec.ofNat 64 e.1 }) s)))

/-! ### Time (10_time.md) -/

/-- The TOD_* and PTP_* commands with valid arguments (R257, R258; Tables 10-8 to 10-12): TOD_GET reports TOD and the PTP view;
TOD_SET loads TOD at once, or waits for the next PPS_IN edge; TOD_ADJUST slews an offset of at most STEP_LIMIT under AUTO and steps any other;
TOD_FREQ_SET sets TOD_INC to the nearest 2^-32 ns; all three give WRONG_STATE while the servo is INTERNAL and not FREERUN;
TOD_PPS_SET, PTP_PORT_SET, PTP_PORT_GET, PTP_CLOCK_SET, PTP_STATUS_GET (the state of the clock port is a free value, log
entry 36), PTP_STATS_GET. -/
def Obligations.TimeCommandsComplete : Prop :=
  (∀ (s : State) (mb : Nat) (c : Cmd), Taken 0x0600 mb s c → c.payload = [] →
    let t := s.tsu
    AnswersOk (.todGet mb) s c (le64 t.ns ++ le 4 t.frac.toNat ++ zb 4 ++ le 8 (t.ns.toNat / 1000000000) ++
      le 4 (t.ns.toNat % 1000000000) ++ le 1 t.servo ++
      le 1 (mask [decide (t.slew ≠ 0), t.ppsOk, t.ref10m, t.timeSet, t.armed.isSome]) ++ zb 2 ++ le64 t.ppsOutLast ++
      le64 (t.ppsInLast.getD 0)) s) ∧
  (∀ (s : State) (mb v fr : Nat) (c : Cmd), Taken 0x0601 mb s c → lcBad s = false → servoHolds s = false →
    v < 2 ^ 64 → fr < 2 ^ 32 →
    (c.payload = le 8 v ++ le 4 fr ++ zb 4 →
      AnswersOk (.todSet mb) s c [] (todLoadTo (BitVec.ofNat 64 v) (BitVec.ofNat 32 fr) s)) ∧
    (c.payload = le 8 v ++ le 4 fr ++ le 1 1 ++ zb 3 →
      Completes (.todSet mb) s (cmdWait c .pps (setTsu (fun t => { t with
        armed := some ⟨true, BitVec.ofNat 64 v, BitVec.ofNat 32 fr, true, t.ns + 2000000000⟩ }) s))) ) ∧
  (∀ (s : State) (mb m : Nat) (off : Int) (c : Cmd), Taken 0x0602 mb s c → lcBad s = false → servoHolds s = false →
    m ≤ 2 → -(2 ^ 63) ≤ off → off < 2 ^ 63 → c.payload = leInt 8 off ++ le 1 m ++ zb 7 →
    (m = 1 → 1000000 < off.natAbs → Turned (.todAdjust mb) s c stInvalid) ∧
    ((m = 1 ∧ off.natAbs ≤ 1000000) ∨ (m = 0 ∧ off.natAbs ≤ s.tsu.stepLimit) →
      AnswersOk (.todAdjust mb) s c (le 1 1 ++ zb 7) (todSlewBy off s)) ∧
    (m = 2 ∨ (m = 0 ∧ s.tsu.stepLimit < off.natAbs) →
      AnswersOk (.todAdjust mb) s c (le 1 2 ++ zb 7) (todStepBy (BitVec.ofInt 64 off) s))) ∧
  (∀ (s : State) (mb : Nat) (off : Int) (c : Cmd), Taken 0x0603 mb s c → lcBad s = false → servoHolds s = false →
    -32768000000 ≤ off → off ≤ 32768000000 → c.payload = leInt 8 off →
    ∃ inc : Nat, (2 * ((inc : Int) * 65536000000000 - 5368709120 * (65536000000000 + off))).natAbs ≤ 65536000000000 ∧
      AnswersOk (.todFreqSet mb) s c [] { s with tsu := { s.tsu with
        inc := inc, incNs := BitVec.ofNat 4 (inc / 2 ^ 32), incFrac := BitVec.ofNat 32 (inc % 2 ^ 32) } }) ∧
  (∀ (s : State) (mb : Nat) (c : Cmd), lcBad s = false → s.tsu.external = false → s.tsu.servo ≠ 0 →
    (Taken 0x0601 mb s c → Turned (.todSet mb) s c stWrongState) ∧
    (Taken 0x0602 mb s c → Turned (.todAdjust mb) s c stWrongState) ∧
    (Taken 0x0603 mb s c → Turned (.todFreqSet mb) s c stWrongState)) ∧
  (∀ (s : State) (mb en pol width : Nat) (off delay : Int) (c : Cmd), Taken 0x0604 mb s c → lcBad s = false → en ≤ 1 →
    pol ≤ 1 → 100 ≤ width → width ≤ 500000000 → off.natAbs ≤ 500000000 → delay.natAbs ≤ 100000 →
    c.payload = le 1 en ++ le 1 pol ++ zb 2 ++ le 4 width ++ leInt 4 off ++ leInt 4 delay →
    AnswersOk (.todPpsSet mb) s c [] { s with tsu := { s.tsu with
      ppsOut := decide (en = 1), ppsHigh := s.tsu.ppsHigh && decide (en = 1), ppsFalling := decide (pol = 1), ppsWidth := width,
      ppsOffset := off, ppsDelay := delay } }) ∧
  (∀ (s : State) (mb n mode fl : Nat) (rx tx : Int) (c : Cmd), Taken 0x0610 mb s c → lcBad s = false →
    (n < 64 ∧ mode ≤ 2 ∧ fl ≤ 1 ∨ n = 64 ∧ mode = 0 ∧ fl = 0) → rx.natAbs ≤ 100000 → tx.natAbs ≤ 100000 →
    c.payload = le 1 n ++ le 1 mode ++ le 1 fl ++ zb 1 ++ leInt 4 rx ++ leInt 4 tx ++ zb 12 →
    AnswersOk (.ptpPortSet mb) s c [] (ptRewrite (setPtp n (fun x => { x with
      mode := mode, notify := decide (fl = 1), asymRx := BitVec.ofInt 32 rx, asymTx := BitVec.ofInt 32 tx }) s))) ∧
  (∀ (s : State) (mb n : Nat) (c : Cmd), Taken 0x0611 mb s c → lcBad s = false → n ≤ 64 → c.payload = le 1 n ++ zb 3 →
    AnswersOk (.ptpPortGet mb) s c (ptpPortBytes s n) s) ∧
  (∀ (s : State) (mb md src port prof dom fl sl lt hl : Nat) (c : Cmd), Taken 0x0612 mb s c → lcBad s = false →
    md ≤ 1 → src ≤ 3 → (port < 64 ∨ port = 255 ∧ src ≠ 1) → (prof = 0 ∨ prof = 1 ∧ 24 ≤ dom ∧ dom ≤ 43) → dom ≤ 127 →
    fl ≤ 7 → sl ≤ 1000000 → lt ≤ 10000 → hl ≤ 604800 →
    c.payload = le 1 md ++ le 1 src ++ le 1 port ++ le 1 prof ++ le 1 dom ++ le 1 fl ++ zb 2 ++ le 4 sl ++ le 4 lt ++
      le 4 hl ++ zb 12 →
    ∃ t, AnswersOk (.ptpClockSet mb) s c [] t ∧ t.tsu.servo = (if md = 1 then 4 else 0) ∧
      t.tsu.external = decide (md = 1) ∧ t.tsu.source = src ∧ t.tsu.clockPort = port ∧ t.tsu.profile = prof ∧
      t.tsu.domain = dom ∧ t.tsu.clockFlags = fl ∧ t.tsu.stepLimit = (if sl = 0 then 1000 else sl) ∧
      t.tsu.lockThr = (if lt = 0 then 100 else lt) ∧ t.tsu.holdLimit = (if hl = 0 then 14400 else hl) ∧
      t.tsu.ns = s.tsu.ns ∧ t.tsu.frac = s.tsu.frac ∧ t.tsu.inc = s.tsu.inc ∧ t.tsu.slew = s.tsu.slew) ∧
  (∀ (s : State) (mb : Nat) (c : Cmd), Taken 0x0613 mb s c → lcBad s = false → c.payload = [] →
    let t := s.tsu
    ∃ r w, AnswersOk (.ptpStatusGet mb) s c (le 1 t.servo ++ le 1 t.source ++ le 1 t.clockPort ++ le 1 r ++ zb 4 ++ le64 t.ns ++
      pad 10 t.parent ++ zb 6 ++ leInt 8 t.offset ++ leInt 8 t.pathDelay ++
      le 4 ((t.ns - t.since).toNat / 1000000000) ++ le 4 (b2n t.limitFlag) ++ zb 8) w ∧ w = { s with free := w.free }) ∧
  (∀ (s : State) (mb : Nat) (c : Cmd), Taken 0x0614 mb s c → lcBad s = false → c.payload = zb 4 →
    ∃ b, AnswersOk (.ptpStatsGet mb) s c b s ∧ b.length = 2088 ∧ sub b 8 8 = le64 s.tsu.stepCnt ∧
      ∀ n, n < 64 → sub b (40 + 32 * n) 32 = le64 (ptpPort s n).corr ++ le64 (ptpPort s n).write ++
        le64 (ptpPort s n).fallback ++ le64 (ptpPort s n).skew)

/-- How TOD changes (R234, R237, R251, R254): TOD_STEP adds the operand and TOD_LOAD takes it with the fraction 0, each discards
the slew, counts, sets TIME_SET and leaves a running pulse of PPS_OUT its width, or with AT_PPS is armed for the next PPS_IN edge;
TOD_SLEW by at most 1,000,000 ns replaces the remaining offset and above that is ignored; TOD_SLEW_ABORT discards it; SLEW_COMPLETE
absorbs all of it in the TCLK that it takes at TOD_INC / 1,024 each, and does nothing without one; a write of TOD_INC_NS applies both
fields, kept within 500 ppm of 1.25 ns; a read of TOD_FRAC latches TOD. It is the model's choice that the limits of TOD_INC are rounded
inwards to 2^-32 ns, and that SLEW_COMPLETE stands for the cycles in which the offset is used up (log entry 82), and that a step
does not change the width of a pulse (log entry 144). -/
def Obligations.TodChangesByRule : Prop :=
  (∀ (s : State), cpRuns s = true →
    (∃ t, exec (.todStep false) s = .next t ∧ t.tsu = { s.tsu with
      ns := s.tsu.ns + s.tsu.adj, slew := 0, stepped := true, timeSet := true, stepCnt := s.tsu.stepCnt + 1
      ppsFrom := s.tsu.ppsFrom + s.tsu.adj }) ∧
    (∃ t, exec (.todLoad false) s = .next t ∧ t.tsu = { s.tsu with
      ns := s.tsu.adj, frac := 0, slew := 0, stepped := true, timeSet := true, stepCnt := s.tsu.stepCnt + 1
      ppsFrom := s.tsu.ppsFrom + (s.tsu.adj - s.tsu.ns) }) ∧
    (let arm := fun load => { s with tsu := { s.tsu with armed := some ⟨load, s.tsu.adj, 0, s.tsu.armed.any (·.command),
        (s.tsu.armed.map (·.deadline)).getD 0⟩ } };
      exec (.todStep true) s = .next (arm false) ∧ exec (.todLoad true) s = .next (arm true)) ∧
    exec .todSlew s = .next (if s.tsu.adj.toInt.natAbs ≤ 1000000
      then { s with tsu := { s.tsu with slew := s.tsu.adj.toInt * 2 ^ 32 } } else s) ∧
    exec .todSlewAbort s = .next { s with tsu := { s.tsu with slew := 0 } } ∧
    exec .todFracRead s = .next { s with tsu := { s.tsu with latched := s.tsu.ns, latchedFrac := s.tsu.frac } } ∧
    (∀ v : W32, let w := (v.setWidth 4).toNat * 2 ^ 32 + s.tsu.incFrac.toNat
      exec (.todIncApply v) s = .next { s with tsu := { s.tsu with
        incNs := v.setWidth 4, inc := if w < 5366024766 then 5366024766 else if 5371393474 < w then 5371393474 else w } })) ∧
  (∀ (s : State), live s = true → (s.tsu.slew = 0 → exec .slewComplete s = .next s) ∧
    (1024 ≤ s.tsu.inc → s.tsu.slew ≠ 0 →
      ∃ t n, exec .slewComplete s = .next t ∧ t.tsu.slew = 0 ∧ (n - 1) * (s.tsu.inc / 1024) < s.tsu.slew.natAbs ∧
        s.tsu.slew.natAbs ≤ n * (s.tsu.inc / 1024) ∧ t.tsu.count = s.tsu.count + n * s.tsu.inc ∧
        todNow t = (todNow s + (n * s.tsu.inc : Nat) + s.tsu.slew) % 2 ^ 96))

/-- The servo, PPS and the 10 MHz input (R239, R240, R251 to R254). The first sample of a fresh acquisition is stepped beyond
STEP_LIMIT and slewed otherwise and leads to ACQUIRING; 16 samples in a row within the threshold lock; a new parent counts as a
master change and is acquired afresh; a lost source (its Announce and Sync intervals passed, PPS_IN_OK fallen, or no SYNC for 46.875
ms) brings HOLDOVER, unless a master change came in the same evaluation (Table 10-6), its limit the flag and event 0x6005. A
PPS_IN edge of the polarity is captured with its fraction, at a phase that is a free value (log entry 123), and applies what is armed; 1.5 s without one takes PPS_IN_OK away; 2 s end a TOD_SET with TIMEOUT. PPS_OUT rises at its instant, where TOD
reaches it by running, and falls after its width. REF10M_OK is 1 while the last 16 counts are between 9,990 and 10,010. The offset's sign (local
minus master) and what a later sample steers are the model's choice (log entry 34), as is that the first sample which leaves HOLDOVER clears the limit's flag (log entry 82). That an
edge whose instant a backward step repeats while the pin is high starts a new pulse is its choice too (log entry 144). -/
def Obligations.ServoAndPpsFollow : Prop :=
  (∀ (s : State) (off pd : Int) (parent : Bytes), fwRuns s = true → s.tsu.external = false → s.tsu.source = 1 ∨ s.tsu.source = 2 →
    let same := s.tsu.source = 2 ∨ parent = s.tsu.parent
    let inside := off.natAbs ≤ s.tsu.lockThr * 65536
    ((s.tsu.servo = 0 ∨ s.tsu.servo = 3 ∨ ¬ same ∨ s.tsu.fresh = true) → s.tsu.servo ≤ 3 → ∃ t, Completes (.servoSample off pd parent) s t ∧
      t.tsu.offset = off ∧ t.tsu.pathDelay = pd ∧ t.tsu.limitFlag = false ∧ t.tsu.inc = s.tsu.inc ∧
      (if s.tsu.stepLimit * 65536 < off.natAbs then t.tsu.ns = s.tsu.ns - BitVec.ofInt 64 (off.tdiv 65536) ∧ t.tsu.slew = 0
        else t.tsu.ns = s.tsu.ns ∧ t.tsu.slew = -(off * 65536)) ∧
      t.tsu.servo = 1 ∧ t.tsu.inLock = (if inside then 1 else 0) ∧
      t.tsu.masterCnt = (if ¬ same ∧ (s.tsu.servo = 1 ∨ s.tsu.servo = 2) then s.tsu.masterCnt + 1 else s.tsu.masterCnt)) ∧
    ((s.tsu.servo = 1 ∨ s.tsu.servo = 2) → same → s.tsu.fresh = false → ∃ t, Completes (.servoSample off pd parent) s t ∧ t.tsu.offset = off ∧
      t.tsu.inLock = (if inside then min 16 (s.tsu.inLock + 1) else 0) ∧ t.tsu.ns = s.tsu.ns ∧
      t.tsu.servo = (if inside ∧ 15 ≤ s.tsu.inLock then 2 else s.tsu.servo))) ∧
  (∀ (s : State) (cause : Nat), fwRuns s = true →
    (cause = 0 ∧ s.tsu.source = 1 ∧ masterSilent 11 Config.announceReceiptTimeout s = true ∨
      cause = 1 ∧ s.tsu.source = 1 ∧ masterSilent 0 3 s = true ∨ cause = 2 ∧ s.tsu.source = 2 ∧ s.tsu.ppsOk = false ∨
      cause = 3 ∧ s.tsu.source = 3 ∧ reached s.tsu.ns (s.pack.syncAccepted + 46875000) = true) →
    Completes (.servoSourceLost cause) s (if s.tsu.masterTod ≠ some s.tsu.ns ∧ s.tsu.external = false ∧
        (s.tsu.servo = 1 ∨ s.tsu.servo = 2) then
      evF 0x6003 (le 1 s.tsu.source ++ le 1 cause) (setTsu (fun t => { t with servo := 3, since := t.ns, limitFlag := false }) s)
      else s)) ∧
  (∀ (s : State), fwRuns s = true → s.tsu.external = false → s.tsu.servo = 3 → s.tsu.limitFlag = false →
    reached s.tsu.ns (s.tsu.since + BitVec.ofNat 64 (s.tsu.holdLimit * 1000000000)) = true →
    Completes .holdoverLimit s (evF 0x6005 (le 4 ((s.tsu.ns - s.tsu.since).toNat / 1000000000))
      { s with tsu := { s.tsu with limitFlag := true } })) ∧
  (∀ (s : State), live s = true →
    Completes (.ppsInEdge (!s.tsu.ppsFalling)) s s ∧
    (s.tsu.armed = none → s.tsu.fifo.length < 4096 →
      let ph := capturePhase s
      let cap := timeOf (todNow s + ph.1 - psUnits s.tsu.ppsDelay)
      Completes (.ppsInEdge s.tsu.ppsFalling) s { ph.2 with tsu := { s.tsu with
        ppsEdge := true, ppsInLast := some cap.1, ppsInFrac := cap.2, fifo := s.tsu.fifo ++ [.pps cap.1 cap.2]
        ppsOk := s.tsu.ppsOk || s.tsu.ppsInLast.any (fun l => decide (((cap.1 - l - 1000000000).toInt * 4294967296 +
          ((cap.2.toNat : Int) - s.tsu.ppsInFrac.toNat)).natAbs ≤ 4294967296000)) } }) ∧
    (∀ a, s.tsu.armed = some a → s.hif.cmds = [] → ∃ t, Completes (.ppsInEdge s.tsu.ppsFalling) s t ∧ t.tsu.armed = none ∧
      t.tsu.ns = (if a.load then a.value else s.tsu.ns + a.value) ∧ t.tsu.frac = (if a.load then a.frac else s.tsu.frac) ∧
      t.tsu.slew = 0 ∧ t.tsu.timeSet = true ∧
      t.tsu.ppsInLast = some (timeOf (todNow t + (capturePhase s).1 - psUnits s.tsu.ppsDelay)).1)) ∧
  (∀ (s : State) (l : W64), live s = true → s.tsu.ppsOk = true → s.tsu.ppsInLast = some l →
    reached s.tsu.ns (l + 1500000000) = true → s.tsu.source ≠ 2 →
    Completes .ppsInLost s (evH 0x6006 (le64 l) { s with tsu := { s.tsu with ppsOk := false } })) ∧
  (∀ (s : State) (a : Armed) (c : Cmd), live s = true → s.tsu.armed = some a → a.command = true →
    reached s.tsu.ns a.deadline = true → s.hif.cmds = [c] → c.wait = .pps →
    Answers .todSetPpsTimeout s c ⟨stTimeout, 0, []⟩ { s with tsu := { s.tsu with armed := none } }) ∧
  (∀ (s : State), live s = true →
    (s.pending = [] → s.tsu.slew = 0 → ∃ t, step s = .next t ∧ t.tsu.ppsDue =
      if s.tsu.ppsOut = true ∧ timeGap (todNow t) (timeNum (ppsInstant t.tsu) 0) < s.tsu.inc then some (ppsInstant t.tsu) else none) ∧
    (∀ w, s.tsu.ppsDue = some w → s.tsu.ppsOut = true →
      Completes .ppsOutEdge s { s with tsu := { s.tsu with ppsHigh := true, ppsOutLast := w, ppsFrom := w, ppsDue := none } }) ∧
    (s.tsu.ppsDue = none → Completes .ppsOutEdge s s) ∧
    (s.tsu.ppsHigh = true → reached s.tsu.ns (s.tsu.ppsFrom + BitVec.ofNat 64 s.tsu.ppsWidth) = true →
      Completes .ppsOutFall s { s with tsu := { s.tsu with ppsHigh := false } }) ∧
    (0 ≤ s.tsu.ppsOffset → s.tsu.ppsOffset ≤ 500000000 → s.tsu.ppsOffset ≤ s.tsu.ns.toNat →
      ((ppsInstant s.tsu).toNat % 1000000000 : Int) = s.tsu.ppsOffset)) ∧
  (∀ (s : State) (counts : List Nat), live s = true → s.tsu.refGood = 0 → s.tsu.ref10m = false →
    let run := counts.foldl (fun (o : Option State) n => o.bind (fun x => match exec (.ref10mWindow n) x with
      | .next y => some y
      | _ => none)) (some s)
    ∃ t, run = some t ∧ (t.tsu.ref10m = true ↔ 16 ≤ counts.length ∧
      ∀ n ∈ counts.drop (counts.length - 16), 9990 ≤ n ∧ n ≤ 10010))

/-! ### The pack (11_pack.md) -/

/-- The PACK_* and EPOCH_* commands with valid arguments (R262, R264, R273, R281, R282): PACK_CREATE makes the member its lead under a fresh key with
number 1; PACK_JOIN sends its request and defers; PACK_LEAVE leaves it in no pack; PACK_EXPEL; PACK_POLICY_SET; the reads; EPOCH_PREPARE
makes the next epoch; EPOCH_ENLIST binds its entries and waits for the lead's acknowledgement of the vote; EPOCH_ABORT
decides, after the deputy has the decision. -/
def Obligations.PackCommandsComplete : Prop :=
  (∀ (s : State) (mb id me hold : Nat) (owner : Bytes) (ds : List Bytes) (c : Cmd), Taken 0x0700 mb s c → lcBad s = false →
    s.pack.st = .none → gp0Up s = true → 0 < id → id < 2 ^ 64 → me < 512 → 1 ≤ hold → hold ≤ 3600 → owner.length = 48 →
    1 ≤ ds.length → ds.length ≤ 8 → (∀ d ∈ ds, d.length = 48) →
    c.payload = le 8 id ++ le 2 me ++ le 1 1 ++ zb 1 ++ le 2 hold ++ zb 2 ++ le 1 ds.length ++ zb 7 ++ owner ++ ds.flatten ++
      zb (48 * (8 - ds.length)) →
    ∃ t, AnswersOk (.packCreate mb) s c [] t ∧ t.pack = { s.pack with
      st := .active, packId := id, me := me, eligible := true, lead := some me, dirHold := hold, policy := ⟨owner, ds⟩
      key := some (drawBytes 32 s).1, keyNumber := 1, sendNow := 1, txSeq := 1 }) ∧
  (∀ (s : State) (mb id me fl : Nat) (c : Cmd), Taken 0x0701 mb s c → lcBad s = false → s.pack.st = .none → gp0Up s = true →
    0 < id → id < 2 ^ 64 → me < 512 → fl ≤ 1 → (∀ i b, certOf s i = some b → b.length ≤ 16384) →
    s.boot.ownerKey.length ≤ 4096 → c.payload = le 8 id ++ le 2 me ++ le 1 fl ++ zb 5 →
    ∃ t, Answers (.packJoin mb) s c ⟨stDeferred, 0, []⟩ t ∧ t.pack.st = .joining ∧ t.pack.packId = id ∧ t.pack.me = me ∧
      t.pack.eligible = decide (fl = 1) ∧ t.pack.joinDeferred = some s.hif.nextDeferred ∧ t.pack.joinTod = s.tsu.ns) ∧
  (∀ (s : State) (mb : Nat) (c : Cmd), Taken 0x0702 mb s c → lcBad s = false → inPack s = true →
    s.chan.scs.any (fun e => e.2.any (fun x => x.group)) = false →
    s.pack.epochs.any (fun e => e.st == 1 || e.st == 4) = false → c.payload = zb 4 →
    ∃ t, AnswersOk (.packLeave mb) s c [] t ∧ t.pack.st = .none ∧ t.pack.key = none ∧ t.pack.packId = 0 ∧ t.pack.lead = none ∧
      t.pack.dir = [] ∧ t.pack.epochs = []) ∧
  (∀ (s : State) (mb m : Nat) (c : Cmd), Taken 0x0703 mb s c → lcBad s = false → leads s = true → m < 512 → m ≠ s.pack.me →
    (peerOf s m).configured = true → c.payload = le 2 m ++ zb 2 →
    ∃ t, AnswersOk (.packExpel mb) s c [] t ∧ (peerOf t m).configured = false) ∧
  (∀ (s : State) (mb : Nat) (owner : Bytes) (ds : List Bytes) (c : Cmd), Taken 0x0704 mb s c → lcBad s = false →
    leads s = true → owner.length = 48 → 1 ≤ ds.length → ds.length ≤ 8 → (∀ d ∈ ds, d.length = 48) →
    c.payload = le 1 ds.length ++ zb 7 ++ owner ++ ds.flatten ++ zb (48 * (8 - ds.length)) →
    AnswersOk (.packPolicySet mb) s c [] { s with pack := { s.pack with policy := ⟨owner, ds⟩ } }) ∧
  (∀ (s : State) (mb : Nat) (c : Cmd), Taken 0x0705 mb s c → lcBad s = false → c.payload = [] → s.pack.packId < 2 ^ 64 →
    ∃ b, AnswersOk (.packStatusGet mb) s c b s ∧ b.length = 160 ∧ u64 b 0 = s.pack.packId ∧ u8 b 10 = s.pack.st.code ∧
      nbit (u8 b 11) 0 = isLead s ∧ sub b 24 8 = le64 s.tsu.ns ∧
      ∀ m, m < 512 → nbit (leNat (sub b 32 64)) m = ((s.pack.st != .none && m == s.pack.me) || (peerOf s m).configured) ∧
        nbit (leNat (sub b 96 64)) m =
          ((s.pack.st != .none && m == s.pack.me) || ((peerOf s m).configured && (peerOf s m).heard))) ∧
  (∀ (s : State) (mb a i n : Nat) (rs : List (Nat × Nat)) (c : Cmd), Taken 0x0706 mb s c → lcBad s = false → a < 2 ^ 64 → i < 2 ^ 32 →
    dmaRange a (24 * n) = true → c.payload = le 8 a ++ le 4 i ++ le 4 n →
    let es := (s.pack.dir.drop i).take n
    (es ≠ [] → rs = []) →
    AnswersOk (.packDirGet mb rs) s c (le 4 es.length ++ le 4 s.pack.dirVersion)
      (if es = [] then s else dmaPut a (es.flatMap dirBytes) s)) ∧
  (∀ (s : State) (mb : Nat) (c : Cmd), Taken 0x0707 mb s c → lcBad s = false → c.payload = zb 4 →
    let p := s.pack
    AnswersOk (.packStatsGet mb) s c (le64 s.tsu.ns ++ le64 p.txCnt ++ le64 p.rxCnt ++ le64 p.authFail ++ le64 p.replayDrop ++
      le64 p.foreign ++ le64 p.claimCnt ++ le64 p.denyCnt ++ le64 p.commitCnt ++ le64 p.abortCnt ++ le64 p.lateCnt ++
      le64 p.lostCnt) s) ∧
  (∀ (s : State) (mb n ts tp v ms : Nat) (c : Cmd), Taken 0x0710 mb s c → lcBad s = false → leads s = true →
    s.pack.lastEpoch < n → n < 2 ^ 32 → ts < 2 ^ 64 → tp < 2 ^ 64 → ms < 2 ^ 512 → ms ≠ 0 →
    reached (BitVec.ofNat 64 ts) (BitVec.ofNat 64 tp + 10000000) = true → reached s.tsu.ns (BitVec.ofNat 64 tp) = false →
    1000000 ≤ v → v ≤ 3600000000000 → (∀ e ∈ epochsOpen s, e.decision ≠ 0) → (epochsOpen s).length ≤ 3 →
    (∀ m, m < 512 → nbit ms m = true → m = s.pack.me ∨ (peerOf s m).configured = true ∧ (peerOf s m).heard = true) →
    s.pack.txSeq + 1024 < 2 ^ 64 →
    c.payload = le 4 n ++ zb 4 ++ le 8 ts ++ le 8 tp ++ le 8 v ++ le 64 ms →
    ∃ t e, AnswersOk (.epochPrepare mb) s c [] t ∧ t.pack.lastEpoch = n ∧ t.pack.epochs = s.pack.epochs ++ [e] ∧
      e.par = ⟨n, BitVec.ofNat 64 ts, BitVec.ofNat 64 tp, v, ms⟩ ∧ e.st = (if nbit ms s.pack.me then 0 else 255) ∧
      e.decision = 0 ∧ e.voted = 0) ∧
  (∀ (s : State) (mb n vote : Nat) (d : DmaRead) (es : List (Nat × Nat)) (e : Epoch) (c : Cmd), Taken 0x0711 mb s c →
    lcBad s = false → s.pack.st = .active → (∃ l, s.pack.lead = some l ∧ l ≠ s.pack.me) → epochOf s n = some e → e.st = 0 →
    e.enlisted = false → reached s.tsu.ns e.par.tp = false → vote ≤ 1 → es.length ≤ 4096 → n < 2 ^ 32 →
    s.pack.txSeq < 2 ^ 64 - 1 →
    (∀ x ∈ es, x.1 < 131072 ∧ ∃ a, saOf s x.1 = some a ∧
      (x.2 = 1 ∧ a.rx = false ∧ a.st = .armed ∧ a.mode = 2 ∧ a.tod = e.par.ts ∨ x.2 = 2 ∧ a.rx = true ∧ a.st = .active)) →
    let bytes := es.flatMap (fun x => le 4 x.1 ++ le 1 x.2 ++ zb 3)
    (nbit c.flags 3 = false ∧ es.length ≤ 509 ∧ c.payload = le 4 n ++ le 2 es.length ++ le 1 vote ++ zb 1 ++ bytes ∨
      nbit c.flags 3 = true ∧ d = .data bytes ∧ ∃ a r, a < 2 ^ 64 ∧ r < 2 ^ 64 ∧ r ≠ 0 ∧ dmaRange a (8 * es.length) = true ∧
        dmaRange r 0 = true ∧
        c.payload = le 4 n ++ le 2 es.length ++ le 1 vote ++ zb 1 ++ le 8 a ++ le 8 r ++ le 4 (8 * es.length) ++ zb 4) →
    ∃ t, Completes (.epochEnlist mb d) s (cmdWait c (.vote n) t) ∧
      epochOf t n = some { e with enlisted := true, st := if vote = 0 then 1 else 2, entries := es }) ∧
  (∀ (s : State) (mb n : Nat) (e : Epoch) (c : Cmd), Taken 0x0712 mb s c → lcBad s = false → leads s = true →
    epochOf s n = some e → e.decision = 0 → n < 2 ^ 32 → s.pack.txSeq + 1024 < 2 ^ 64 → c.payload = le 4 n →
    (deputy s = none → .decision n false ∉ s.pack.copies → e.entries = [] → ∃ t, AnswersOk (.epochAbort mb) s c [] t ∧ (epochOf t n).map (·.decision) = some 2) ∧
    (∀ d, deputy s = some d → ∃ t, Completes (.epochAbort mb) s (cmdWait c (.deputy n) t) ∧
      (epochOf t n).map (·.decision) = some 2 ∧ t.pack.copies = s.pack.copies ++ [.decision n false])) ∧
  (∀ (s : State) (mb n : Nat) (e : Epoch) (c : Cmd), Taken 0x0713 mb s c → lcBad s = false → epochOf s n = some e →
    n < 2 ^ 32 → c.payload = le 4 n →
    AnswersOk (.epochStatusGet mb) s c (le 4 n ++ le 1 e.st ++ le 1 e.decision ++ zb 2 ++ le64 e.par.ts ++ le64 e.par.tp ++
      le 8 e.par.overlap ++ le64 e.decisionTod ++ le64 (if e.st = 6 then e.switchTod else 0) ++ le 64 e.par.members ++
      le 64 (if isLead s then e.votes else 0)) s)

/-- The Gwynlen engine's checks of every protected message (R260, R261, R266): one that GP0 does not receive changes nothing, every other counts at GP0,
whomever it is addressed to (R54); a foreign header counts in GWL_FOREIGN_DROP_CNT; one addressed to another member is not looked at further; an ICV that
does not verify under an accepted key, or a key that is not accepted, counts in GWL_AUTH_FAIL_CNT; a sequence not above the highest accepted from that
sender under that key, in GWL_REPLAY_DROP_CNT; nothing else happens. The model's choices: what counts as received and for whom, and the order of the
checks (log entry 84). -/
def Obligations.PackMessagesChecked : Prop :=
  ∀ (s : State) (i : Instr) (h : PackHeader) (typ : Nat) (body : Bytes), protectedMessage i = some (h, typ, body) →
    (gwlLive s = false → Completes i s s) ∧
    (gwlLive s = true →
      let u := gpFrame false body.length s
      (h.etherType ≠ 0x88B5 ∨ h.version ≠ 1 ∨ h.packId ≠ s.pack.packId ∨ inPack s = false →
        Completes i s { u with pack := { s.pack with foreign := s.pack.foreign + 1 } }) ∧
      (gwlForeign false h s = false → gwlMine h s = false → Completes i s u) ∧
      (gwlForeign false h s = false → gwlMine h s = true → gwlAuthentic (typ == 0x01) typ body h s = false →
        Completes i s { u with pack := { s.pack with authFail := s.pack.authFail + 1 } }) ∧
      (gwlForeign false h s = false → gwlMine h s = true → gwlAuthentic (typ == 0x01) typ body h s = true →
        h.sequence ≤ tget 0 s.pack.rxSeq (512 * h.keyNumber + h.source) →
        Completes i s { u with pack := { s.pack with replayDrop := s.pack.replayDrop + 1 } }))

/-- Members, keys and quorum (R262 to R267): HELLO keeps its sender, a configured member, heard, and of two that claim the lead the lower ID has it;
a member that was LOST when the key changed is sent the key by the lead that hears it, under the key it has, and lacks it until it is heard under the
current one; LEAVE, and
DIR_HOLD after a loss, take a member out; KEY_ROTATE gives a new key or ends the membership; a key is switched to after 1 ms and the previous one
accepted for 100 ms; 10 ms without HELLO make a member LOST, and half the members heard or fewer make this one ISOLATED; the next lead is the lowest
eligible one heard; fragments are reassembled, discarded and timed out; JOIN_REQ admits or refuses; JOIN_ACCEPT makes the joiner ACTIVE; JOIN_REFUSE and
1 s without an answer end the join. The model's choices: the layout of the bodies (log entry 40), the key of a HELLO of a LOST member and of its KEY_ROTATE,
the link keys, and from whom a key is taken (log entry 41), fragments and joins of several parts, and what a joiner knows of its pack (log entry 83). -/
def Obligations.PackMembership : Prop :=
  (∀ (s : State) (h : PackHeader) (cl el : Bool) (v heard : Nat), let i := Instr.hello h cl el v s.pack.view heard
    PackTaken i h s → h.source ≠ s.pack.me → (peerOf s h.source).configured = true → s.pack.claims = [] → s.pack.copies = [] →
    s.pack.gone = [] → (∀ k, tget 1 s.pack.oldSeq k < 2 ^ 64 - 1) →
    s.pack.txSeq + 1100 * s.pack.epochs.length + 2 * s.pack.owed.length + s.pack.releasing.length + 2 < 2 ^ 64 → ∃ t, Completes i s t ∧
      (h.keyNumber = s.pack.keyNumber → peerOf t h.source = { peerOf s h.source with
        heard := true, eligible := el, claims := cl, lastHello := s.tsu.ns, lacks := none }) ∧
      (peerOf t h.source).heard = true ∧
      t.pack.lead = if cl ∧ (∀ l, s.pack.lead = some l → h.source < l) then some h.source else s.pack.lead) ∧
  (∀ (s : State) (h : PackHeader) (cl el : Bool) (v view heard : Nat) (key : Bytes), let i := Instr.hello h cl el v view heard
    gwlHears h s = true → gwlForeign false h s = false →
    gwlAuthentic true 0x01 (helloBody cl el v view heard) h s = true →
    tget 0 s.pack.rxSeq (512 * h.keyNumber + h.source) < h.sequence → fwRuns s = true → leads s = true →
    confCount s < 2 * heardCount s → cl = false → h.source ≠ s.pack.me → h.keyNumber ≠ s.pack.keyNumber →
    (peerOf s h.source).configured = true → (peerOf s h.source).lacks = some (h.keyNumber, key) → canSend s 64 = true →
    s.pack.copies = [] → tget 1 s.pack.oldSeq h.keyNumber < 2 ^ 64 - 1 → s.pack.txSeq + 1100 * s.pack.epochs.length + 1 < 2 ^ 64 →
    ∃ t m, Completes i s t ∧ (peerOf t h.source).lacks = some (h.keyNumber, key) ∧ (peerOf t h.source).heard = true ∧
      t.pack.sent = some m ∧ m.typ = 6 ∧ m.dest = h.source ∧ m.keyNumber = h.keyNumber ∧
      m.body = rotateBody s.pack.keyNumber 0 (keySealed (linkKey h.source s) s) ∧
      m.frames = [packFrame 6 s.pack.packId s.pack.me h.source m.sequence h.keyNumber key m.body]) ∧
  (∀ (s : State) (h : PackHeader), PackTaken (.leave h) h s → ∃ t, Completes (.leave h) s t ∧
    (peerOf t h.source).configured = false) ∧
  (∀ (s : State) (h : PackHeader) (k cause : Nat) (w : Bytes), let i := Instr.keyRotate h k cause w
    PackTaken i h s →
    (cause ≠ 0 → s.pack.lead = some h.source → ∃ t, Completes i s t ∧ t.pack.st = .none ∧ t.pack.key = none) ∧
    (cause ≠ 0 → s.pack.lead ≠ some h.source → Completes i s (packTaken i h s)) ∧
    (cause = 0 → ∃ t, Completes i s t ∧ match keyUnsealed (linkKey h.source s) w with
      | some key => (s.pack.keyNumber < k → t.pack.key = some key ∧ t.pack.keyNumber = k ∧
          t.pack.olds = s.pack.olds ++ [⟨s.pack.keyNumber, s.pack.key.getD [], s.tsu.ns + 100000000⟩] ∧
          t.pack.switches = s.pack.switches ++ [(k, s.tsu.ns + 1000000)]) ∧
          (k ≤ s.pack.keyNumber → t = packTaken i h s)
      | none => t = packTaken i h s)) ∧
  (∀ (s : State) (k : Nat) (at_ : W64) (rest : List (Nat × W64)), fwRuns s = true → s.pack.switches = (k, at_) :: rest →
    reached s.tsu.ns at_ = true →
    Completes .packKeySwitch s { s with pack := { s.pack with
      oldSeq := tset 1 s.pack.oldSeq s.pack.sendNow s.pack.txSeq, sendNow := k, txSeq := 1, switches := rest } }) ∧
  (∀ (s : State), fwRuns s = true → Completes .packOldKeyExpiry s
    { s with pack := { s.pack with olds := s.pack.olds.filter (fun o => !reached s.tsu.ns o.til) } }) ∧
  (∀ (s : State), fwRuns s = true → inPack s = true → canSend s 64 = true → s.pack.txSeq < 2 ^ 64 - 1 →
    reached s.tsu.ns (s.pack.helloTod + 1000000) = true → ∃ t m, Completes .helloTimer s t ∧ t.pack = { s.pack with
      helloTod := s.tsu.ns, txSeq := s.pack.txSeq + 1, txCnt := s.pack.txCnt + 1, sent := some m } ∧
      m.typ = 1 ∧ m.dest = 0xFFFF ∧ m.sequence = s.pack.txSeq ∧ m.keyNumber = s.pack.sendNow ∧
      m.body = helloBody (isLead s) s.pack.eligible s.pack.dirVersion (confBits s) (heardBits s) ∧
      m.frames = [packFrame 1 s.pack.packId s.pack.me 0xFFFF s.pack.txSeq s.pack.sendNow
        ((packKey s s.pack.sendNow).getD []) m.body]) ∧
  (∀ (s : State) (m : Nat), fwRuns s = true → inPack s = true → (peerOf s m).configured = true → (peerOf s m).heard = true →
    silent m s = true → s.pack.claims = [] → s.pack.copies = [] → s.pack.owed = [] → s.pack.gone = [] →
    s.pack.txSeq + 1100 * s.pack.epochs.length < 2 ^ 64 → ∃ t, Completes (.memberUnheard m) s t ∧
      peerOf t m = { peerOf s m with heard := false, claims := false, lostAt := s.tsu.ns } ∧
      t.pack.lostCnt = s.pack.lostCnt + 1 ∧ t.pack.lead = s.pack.lead ∧
      t.pack.st = if s.pack.st = .active ∧ 2 * heardCount t ≤ confCount t then .isolated
        else if s.pack.st = .isolated ∧ confCount t < 2 * heardCount t then .active else s.pack.st) ∧
  (∀ (s : State) (m : Nat), fwRuns s = true → inPack s = true → (peerOf s m).configured = true → (peerOf s m).heard = false →
    reached s.tsu.ns ((peerOf s m).lostAt + BitVec.ofNat 64 (s.pack.dirHold * 1000000000)) = true →
    ∃ t, Completes (.memberDepart m) s t ∧ (peerOf t m).configured = false) ∧
  (∀ (s : State) (l : Nat), fwRuns s = true → inPack s = true → s.pack.lead = some l → l ≠ s.pack.me → silent l s = true →
    (peerOf s l).configured = true → s.pack.claims = [] → s.pack.epochs = [] →
    s.pack.gone = [] → s.pack.txSeq + 2 * s.pack.held.length + s.pack.owed.length + s.pack.releasing.length < 2 ^ 64 → ∃ t, Completes .leadTimeout s t ∧
      t.pack.lead = nextLead (some l) s) ∧
  (∀ (s : State) (h : PackHeader) (f : Fragment), gwlHears h s = true → gwlForeign true h s = false → fwRuns s = true →
    (if f.request then leads s = true else s.pack.st = .joining) → f.index < f.count → f.count ≤ 64 → f.data.length ≤ 1416 →
    (∀ r ∈ s.pack.reasm, ¬ (r.source = h.source ∧ r.exchange = f.exchange ∧ r.request = f.request)) →
    (f.request = true → (s.pack.reasm.filter (fun r => r.request && !r.dead)).length ≤ 3) →
    let u := gpFrame false (8 + f.data.length) s
    (2 ≤ f.count → Completes (.packFragment h f) s { u with pack := { s.pack with reasm := s.pack.reasm ++
      [⟨h.source, f.exchange, f.request, f.count, f.total, [(f.index, f.data)], s.tsu.ns, false⟩] } }) ∧
    (f.count = 1 → f.total = f.data.length → Completes (.packFragment h f) s { u with pack := { s.pack with
      ready := s.pack.ready ++ [(h.source, f.exchange, f.data)], rxCnt := s.pack.rxCnt + 1 } }) ∧
    (f.count = 1 → f.total ≠ f.data.length → Completes (.packFragment h f) s { u with pack := { s.pack with
      foreign := s.pack.foreign + 1, reasm := s.pack.reasm ++
        [⟨h.source, f.exchange, f.request, f.count, f.total, [], s.tsu.ns, true⟩] } })) ∧
  (∀ (s : State) (src ex : Nat), fwRuns s = true →
    let late := fun (r : Reasm) => r.source == src && r.exchange == ex && reached s.tsu.ns (r.first + 100000000)
    Completes (.packReassemblyTimeout src ex) s { s with pack := { s.pack with
      reasm := s.pack.reasm.filter (fun r => !late r)
      foreign := s.pack.foreign + BitVec.ofNat 64 (s.pack.reasm.filter (fun r => late r && !r.dead)).length } }) ∧
  (∀ (s : State) (src ex : Nat) (b : Bytes), fwRuns s = true → leads s = true →
    s.pack.ready.find? (fun r => r.1 == src && r.2.1 == ex) = some (src, ex, b) →
    let q := joinRead b
    let u := setPack (fun p => { p with ready := p.ready.erase (src, ex, b) }) s
    let refused := fun (code : Nat) => evF 0x700B (le 2 code ++ le 2 q.member) (packSend 0x04 q.member (be 2 code) u)
    s.pack.txSeq + 1024 + 1100 * s.pack.epochs.length + s.pack.copies.length < 2 ^ 64 → (s.pack.key.getD []).length = 32 →
    (∀ i c, certOf s i = some c → c.length ≤ 16384) → ∃ t, Completes (.joinReq src ex) s t ∧
      if joinCheck q s ≠ stOk then t = refused (joinCheck q s)
      else match pkeRespond 1 (drawMany 3 u).1 q.m1 with
        | none => t = refused stDenied
        | some _ => (peerOf t q.member).configured = true ∧ (peerOf t q.member).heard = true ∧
            (peerOf t q.member).eligible = q.eligible ∧ (peerOf t q.member).link = some (tfree 0x1000 s.km.sym)) ∧
  (∀ (s : State) (src ex : Nat) (b : Bytes) (dir : List DirEntry), fwRuns s = true → s.pack.st = .joining →
    s.pack.ready.find? (fun r => r.1 == src && r.2.1 == ex) = some (src, ex, b) →
    let a := acceptRead b
    let u := setPack (fun p => { p with ready := p.ready.erase (src, ex, b) }) s
    let ckn := joinCkn s.pack.packId s.pack.me
    let tr := pkeT 1 2 32 ckn s.pack.joinM1 a.m2
    ∃ t, Completes (.joinAccept src ex dir) s t ∧ if acceptOk a tr = false then t = u
      else match pkeFinish 1 s.pack.joinSecret a.m2 with
      | none => t = u
      | some (ze, zk) => match keyUnsealed (pkeResult 2 32 ze zk tr ckn) a.wrapped with
        | none => t = u
        | some key => t.pack.st = .active ∧ t.pack.lead = some a.lead ∧ t.pack.key = some key ∧ t.pack.keyNumber = a.keyNumber ∧
          t.pack.dirHold = a.dirHold ∧ t.pack.dir = dir ∧ t.pack.dirVersion = a.version ∧ t.pack.joinDeferred = none ∧
          ∀ m, m < 512 → nbit a.members m = true → m ≠ s.pack.me → (peerOf t m).configured = true ∧
            (m = a.lead → (peerOf t m).link = some (tfree 0x1000 s.km.sym))) ∧
  (∀ (s : State) (h : PackHeader) (code : Nat), gwlHears h s = true → gwlForeign true h s = false → fwRuns s = true →
    s.pack.st = .joining → code = stDenied ∨ code = stExists ∨ code = stNoRoom →
    ∃ t, Completes (.joinRefuse h code) s t ∧ t.pack.st = .none ∧ t.pack.rxCnt = s.pack.rxCnt + 1) ∧
  (∀ (s : State), fwRuns s = true → s.pack.st = .joining → reached s.tsu.ns (s.pack.joinTod + 1000000000) = true →
    ∃ t, Completes .packJoinTimeout s t ∧ t.pack.st = .none)

/-- Pack time and the shared directory (R269 to R272): the lead sends SYNC and FOLLOW_UP, a member DELAY_REQ, every
15.625 ms; the times of the four messages give the path delay and the servo's sample; the lead grants a claim unless
another member owns the value or the directory is full; the replica follows DIR_UPDATE in version order; a release empties the entry. The model's choices:
the delay and the parent identity (log entry 39), the layout of the bodies (log entry 40), from whom a message is taken (log entry 84), and the grant's copy
to the deputy and the versions (log entry 85). -/
def Obligations.PackTimeAndDirectory : Prop :=
  (∀ (s : State), fwRuns s = true → canSend s 64 = true → s.pack.txSeq + 2 < 2 ^ 64 →
    let c := capturePhase s
    (leads s = true → reached s.tsu.ns (s.pack.syncTod + 15625000) = true → ∃ t m, Completes .packSyncTimer s t ∧
      t.pack = { s.pack with syncTod := s.tsu.ns, txSeq := s.pack.txSeq + 2, txCnt := s.pack.txCnt + 2, sent := some m } ∧
      m.typ = 0x11 ∧ m.dest = 0xFFFF ∧ m.body = be 8 s.pack.txSeq ++ timeWire (txStamp s 64 c.1)) ∧
    (∀ l, s.pack.lead = some l → followsPack s = true → reached s.tsu.ns (s.pack.delayTod + 15625000) = true →
      ∃ t m, Completes .packDelayReqTimer s t ∧ t.pack = { s.pack with
        delayTod := s.tsu.ns, delayTx := some (txStamp s 64 c.1, s.pack.txSeq), txSeq := s.pack.txSeq + 1
        txCnt := s.pack.txCnt + 1, sent := some m } ∧ m.typ = 0x12 ∧ m.dest = l)) ∧
  (∀ (s : State) (h : PackHeader), PackTaken (.sync h) h s → s.pack.lead = some h.source →
    let u := packTaken (.sync h) h s
    let c := capturePhase u
    Completes (.sync h) s { c.2 with pack := { u.pack with
      syncRx := some (rxStamp u 64 c.1, h.sequence), syncAccepted := s.tsu.ns } }) ∧
  (∀ (s : State) (h : PackHeader) (n k : Nat) (tod : W64) (frac : W32) (r : W64 × W32),
    PackTaken (.followUp h n tod frac) h s → s.pack.lead = some h.source → s.pack.syncRx = some (r, k) →
    let u := packTaken (.followUp h n tod frac) h s
    let d := timeDiff r (tod, frac)
    let v := { u with pack := { u.pack with syncRx := none, syncDelta := some d } }
    (k ≠ n → Completes (.followUp h n tod frac) s u) ∧
    (k = n → s.pack.packDelay = none → Completes (.followUp h n tod frac) s v) ∧
    (∀ path, k = n → s.pack.packDelay = some path → followsPack s = true →
      ∃ t, Completes (.followUp h n tod frac) s t ∧ t = servoSample (toCorrection d - path) path (pad 10 (be 2 h.source)) v)) ∧
  (∀ (s : State) (h : PackHeader), PackTaken (.delayReq h) h s → leads s = true →
    let u := packTaken (.delayReq h) h s
    let c := capturePhase u
    Completes (.delayReq h) s (packSend 0x13 h.source (be 8 h.sequence ++ timeWire (rxStamp u 64 c.1)) c.2)) ∧
  (∀ (s : State) (h : PackHeader) (n : Nat) (tod : W64) (frac : W32) (tx : W64 × W32) (d : Int),
    PackTaken (.delayResp h n tod frac) h s → s.pack.lead = some h.source → s.pack.delayTx = some (tx, n) →
    s.pack.syncDelta = some d →
    let u := packTaken (.delayResp h n tod frac) h s
    Completes (.delayResp h n tod frac) s { u with pack := { u.pack with
      delayTx := none, packDelay := some (toCorrection ((d + timeDiff (tod, frac) tx).tdiv 2)) } }) ∧
  (∀ (s : State) (h : PackHeader) (x : DirEntry), PackTaken (.dirClaim h x) h s → leads s = true →
    h.source ≠ s.pack.me → s.pack.txSeq + 2 < 2 ^ 64 →
    let u := packTaken (.dirClaim h x) h s
    let e := { x with owner := h.source }
    ∃ t, Completes (.dirClaim h x) s t ∧
      (dirOwned s e = true → t = packSend 0x21 h.source (dirWire e ++ be 4 s.pack.dirVersion) u) ∧
      (dirOwned s e = false → dirTaken s e = false → dirFull s e.typ = false → deputy s = none →
        e ∈ t.pack.dir ∧ t.pack.dirVersion = s.pack.dirVersion + 1) ∧
      (∀ d, dirOwned s e = false → dirTaken s e = false → dirFull s e.typ = false → deputy s = some d →
        t.pack.dir = s.pack.dir ∧ t.pack.copies = s.pack.copies ++ [.grant e]) ∧
      (dirOwned s e = false → dirTaken s e = true → t.pack.dir = s.pack.dir ∧ t = packSend 0x22 h.source (dirWire e) u) ∧
      (dirOwned s e = false → dirTaken s e = false → dirFull s e.typ = true → t.pack.dir = s.pack.dir ∧
        t = evF 0x700A (le 1 e.typ) (packSend 0x22 h.source (dirWire e) u))) ∧
  (∀ (s : State) (h : PackHeader) (x : DirEntry), PackTaken (.dirRelease h x) h s → leads s = true →
    let e := { x with owner := h.source }
    dirOwned s e = true → s.pack.txSeq + 1 < 2 ^ 64 → ∃ t, Completes (.dirRelease h x) s t ∧
      t.pack.dir = s.pack.dir.filter (fun y => !(dirSame y e && y.owner == e.owner)) ∧ t.pack.dirVersion = s.pack.dirVersion + 1) ∧
  (∀ (s : State) (h : PackHeader) (e : DirEntry) (v : Nat) (add : Bool), PackTaken (.dirUpdate h e add v) h s →
    s.pack.lead = some h.source →
    let u := packTaken (.dirUpdate h e add v) h s
    let held := s.pack.held.filter (fun x => !dirSame x e)
    let rest := s.pack.dir.filter (fun x => !(dirSame x e && x.owner == e.owner))
    Completes (.dirUpdate h e add v) s (if v ≤ s.pack.dirVersion then { u with pack := { u.pack with held := held } }
      else { u with pack := { u.pack with
        held := held, dir := if add then rest ++ [e] else rest, dirVersion := v
        releasing := s.pack.releasing.filter (fun x => !(dirSame x e && x.owner == e.owner)) } })) ∧
  (∀ (s : State) (h : PackHeader) (e : DirEntry) (v mb : Nat) (c : Cmd), s.pack.lead = some h.source →
    s.pack.claims = [⟨e, mb⟩] → s.hif.cmds = [c] → c.mb = mb → c.opcode = 0x0300 →
    (∃ es l bad, c.wait = .claim es l bad) →
    (PackTaken (.dirDeny h e) h s → Answers (.dirDeny h e) s c ⟨stExists, 0, []⟩ { packTaken (.dirDeny h e) h s with
      pack := { (packTaken (.dirDeny h e) h s).pack with claims := [], denyCnt := s.pack.denyCnt + 1 } }) ∧
    (PackTaken (.dirGrant h e v) h s → e.owner = s.pack.me → ∃ t, Completes (.dirGrant h e v) s t ∧
      t = settle c (scCommit c { packTaken (.dirGrant h e v) h s with pack := { (packTaken (.dirGrant h e v) h s).pack with
        claims := [], dir := s.pack.dir.filter (fun x => !(dirSame x e && x.owner == e.owner)) ++ [e],
        releasing := s.pack.releasing.filter (fun x => !(dirSame x e && x.owner == e.owner)) } })))

/-- Epochs (R268, R273 to R275, R278, Table 11-5): EPOCH_PREP makes the epoch at a participant; the lead records a vote once and decides COMMIT
when every participant is READY and ABORT at a REFUSE, at EPOCH_ABORT or at Tp; the deputy stores what the lead copies; a participant follows the table: READY to COMMITTED,
IN_DOUBT or ABORTED, IN_DOUBT to SWITCHED by a late COMMIT or at Ts + V, COMMITTED to SWITCHED at Ts, and CLOSED at Ts + V. The model's choices: the epoch
of a deputy or a lead that is no participant, and when a copy is stored and a decision taken over (log entry 85). -/
def Obligations.EpochsFollowTable : Prop :=
  (∀ (s : State) (h : PackHeader) (p : EpochParams), PackTaken (.epochPrep h p) h s → s.pack.lead = some h.source →
    epochOf s p.number = none → s.pack.txSeq + 1 < 2 ^ 64 → ∃ t e, Completes (.epochPrep h p) s t ∧
      t.pack.epochs = s.pack.epochs ++ [e] ∧ e.par = p ∧ e.st = (if nbit p.members s.pack.me then 0 else 255) ∧
      e.decision = 0 ∧ t.pack.lastEpoch = max s.pack.lastEpoch p.number) ∧
  (∀ (s : State) (h : PackHeader) (n : Nat) (ready : Bool) (e : Epoch), PackTaken (.epochVote h n ready) h s → leads s = true → epochOf s n = some e →
    e.decision = 0 → h.source < 512 → nbit e.par.members h.source = true → nbit e.voted h.source = false →
    nbit e.votes h.source = false → e.entries = [] → s.pack.txSeq + 2048 < 2 ^ 64 →
    ∃ t x, Completes (.epochVote h n ready) s t ∧ epochOf t n = some x ∧ nbit x.voted h.source = true ∧
      nbit x.votes h.source = ready ∧
      (ready = false → x.decision = 2) ∧
      ((∀ m ∈ epochMembers e, (m ≠ h.source → nbit e.votes m = true ∧ nbit e.voted m = true) ∧ (m = h.source → ready = true)) →
        x.decision = 1)) ∧
  (∀ (s : State) (h : PackHeader) (n m : Nat) (ready commit : Bool) (e : Epoch) (g : DirEntry), s.pack.lead = some h.source →
    epochOf s n = some e → s.pack.txSeq + 1 < 2 ^ 64 →
    (PackTaken (.stateCopy h (.vote n m ready)) h s → nbit e.voted m = false → ∃ t x, Completes (.stateCopy h (.vote n m ready)) s t ∧ epochOf t n = some x ∧
      nbit x.voted m = true ∧ (nbit e.votes m = false → nbit x.votes m = ready)) ∧
    (PackTaken (.stateCopy h (.decision n commit)) h s → ∃ t, Completes (.stateCopy h (.decision n commit)) s t ∧
      epochOf t n = some { e with held := if commit then 1 else 2 }) ∧
    (PackTaken (.stateCopy h (.grant g)) h s → ∃ t, Completes (.stateCopy h (.grant g)) s t ∧
      t.pack.held = s.pack.held.filter (fun y => !dirSame y g) ++ [g] ∧ t.pack.dir = s.pack.dir)) ∧
  (∀ (s : State) (h : PackHeader) (n cause : Nat) (e : Epoch), s.pack.lead = some h.source →
    epochOf s n = some e → e.entries = [] → s.pack.txSeq + 1 < 2 ^ 64 →
    (PackTaken (.epochDecide h n true cause) h s → e.received = false → ∃ t x, Completes (.epochDecide h n true cause) s t ∧ epochOf t n = some x ∧ x.decision = 1 ∧ x.decisionTod = s.tsu.ns ∧
      t.pack.commitCnt = s.pack.commitCnt + 1 ∧
      x.st = (if e.st = 1 ∧ reached s.tsu.ns (epochDoubt e) = false then 3
        else if (e.st = 1 ∨ e.st = 4) ∧ reached s.tsu.ns (epochEnd e) = false then 6
        else if e.st = 1 then 4 else e.st) ∧
      t.pack.lateCnt = (if (e.st = 1 ∧ reached s.tsu.ns (epochDoubt e) = true ∨ e.st = 4) ∧ reached s.tsu.ns (epochEnd e) = false
        then s.pack.lateCnt + 1 else s.pack.lateCnt)) ∧
    (PackTaken (.epochDecide h n false cause) h s → ∃ t x, Completes (.epochDecide h n false cause) s t ∧ epochOf t n = some x ∧
      (e.received = false → x.decision = 2 ∧ x.cause = cause) ∧
      t.pack.abortCnt = (if e.received then s.pack.abortCnt else s.pack.abortCnt + 1) ∧ x.st = (if e.st = 1 ∨ e.st = 4 then 5 else e.st))) ∧
  (∀ (s : State) (h : PackHeader) (n : Nat) (e : Epoch), epochOf s n = some e →
    (PackTaken (.epochAck h n) h s → leads s = true → nbit e.acks h.source = false → ∃ t, Completes (.epochAck h n) s t ∧
      epochOf t n = some { e with acks := e.acks + 2 ^ h.source }) ∧
    (∀ c, PackTaken (.voteAcknowledgement h n) h s → s.pack.lead = some h.source → s.hif.cmds = [c] → c.wait = .vote n →
      Answers (.voteAcknowledgement h n) s c ⟨stOk, 0, []⟩ (packTaken (.voteAcknowledgement h n) h s))) ∧
  (∀ (s : State) (n : Nat) (e : Epoch), fwRuns s = true → leads s = true → epochOf s n = some e → e.decision ≠ 0 → e.copied = true →
    reached s.tsu.ns (epochEnd e) = false → reached s.tsu.ns (e.sentTod + 1000000) = true → s.pack.txSeq + 512 < 2 ^ 64 →
    ∃ t, Completes (.epochDecideResend n) s t ∧ epochOf t n = some { e with sentTod := s.tsu.ns } ∧
      t.pack.txSeq = s.pack.txSeq + ((epochMembers e).filter (fun m => m != s.pack.me && !nbit e.acks m)).length) ∧
  (∀ (s : State) (n : Nat) (e : Epoch), fwRuns s = true → inPack s = true → epochOf s n = some e →
    reached s.tsu.ns e.par.tp = true → e.entries = [] → s.pack.txSeq + 1024 < 2 ^ 64 → ∃ t x, Completes (.epochTpReached n) s t ∧
      epochOf t n = some x ∧ (e.st = 0 → x.st = 2) ∧ (leads s = true → e.decision = 0 → x.decision = 2 ∧ x.cause = 2)) ∧
  (∀ (s : State) (n : Nat) (e : Epoch), fwRuns s = true → epochOf s n = some e →
    (e.st = 1 → reached s.tsu.ns (epochDoubt e) = true → ∃ t, Completes (.epochInDoubt n) s t ∧ epochOf t n = some { e with st := 4 } ∧
      ∀ sah, (sah, 1) ∈ e.entries → (saOf t sah).map (·.st) ≠ some .armed) ∧
    (e.st = 3 → reached s.tsu.ns e.par.ts = true → ∃ t, Completes (.epochTsReached n) s t ∧
      epochOf t n = some { e with st := 6, switchTod := s.tsu.ns }) ∧
    (e.st = 4 → e.entries = [] → reached s.tsu.ns (epochEnd e) = true → ∃ t, Completes (.epochOverlapEnd n) s t ∧
      epochOf t n = some { e with st := 6, switchTod := s.tsu.ns }) ∧
    (e.st = 2 ∨ e.st = 5 ∨ e.st = 6 → reached s.tsu.ns (epochEnd e) = true → ∃ t, Completes (.epochOverlapEnd n) s t ∧
      epochOf t n = some { e with st := 7 })) ∧
  (∀ (s : State) (h : PackHeader) (x : CopyItem), PackTaken (.deputyAcknowledgement h x) h s → leads s = true →
    let u := packTaken (.deputyAcknowledgement h x) h s
    (deputy s = some h.source → x ∈ s.pack.copies → Completes (.deputyAcknowledgement h x) s
      (copyEffect x { u with pack := { u.pack with copies := s.pack.copies.erase x } })) ∧
    (deputy s ≠ some h.source → Completes (.deputyAcknowledgement h x) s u))

/-! ### The host interface (12_host_interface.md) -/

/-- Mailboxes follow Table 12-5, BAR0 and a reset of the host interface R284 to R287: RING posts an IDLE mailbox under the tag of its header and overruns any other;
ABORT withdraws a POSTED request; RELEASE frees a DONE one; a write of the request area lands only in IDLE and DONE; the watchdog ends a
POSTED request, and an EXECUTING one under a halted CP, and is remembered under a running one; a boundary fault is counted and recorded and nothing else happens; a read of a
_LO register latches its _HI half; host reads return the mailbox status, the response area and the summary (Table 12-11), zero where the meter is
absent (R2), and a Completer Abort where the firewall denies them (R315) or that are boundary faults; the access itself counts in HIF's performance
events (the model's choices: log entries 86, 94 and 146); a reset closes sessions and mailboxes and discards the waiting notifications, each
counted, and touches no datapath state. -/
def Obligations.MailboxesFollowTable : Prop :=
  (∀ (s : State) (mb : Nat), mbThere mb s = true →
    let m := getMb s mb
    (m.st = .idle → ∃ t, Completes (.mbRing mb) s t ∧ getMb t mb = { m with
      st := .posted, tag := BitVec.ofNat 16 (leNat (bufRead m.req 4 2)), expired := false } ∧
      t.hif.ringOrder = if mb = 8 then s.hif.ringOrder else s.hif.ringOrder ++ [mb]) ∧
    (m.st ≠ .idle → ∃ t, Completes (.mbRing mb) s t ∧ getMb t mb = { m with overrun := true } ∧
      t.hif.ringOrder = s.hif.ringOrder) ∧
    (m.st = .posted → ∃ t, Completes (.mbAbort mb) s t ∧ getMb t mb = { m with st := .idle } ∧
      t.hif.ringOrder = s.hif.ringOrder.erase mb) ∧
    (m.st ≠ .posted → Completes (.mbAbort mb) s (barSeen true s)) ∧
    (m.st = .done → ∃ t, Completes (.mbRelease mb) s t ∧ getMb t mb = { m with st := .idle }) ∧
    (m.st ≠ .done → Completes (.mbRelease mb) s (barSeen true s))) ∧
  (∀ (s : State) (mb off : Nat) (data : Bytes), mbThere mb s = true →
    data ≠ [] → data.length ≤ 128 → off < 4096 →
    (off + data.length ≤ 4096 → (getMb s mb).st = .idle ∨ (getMb s mb).st = .done →
      ∃ t, Completes (.mbRequestWrite mb off data) s t ∧ (∀ i, tget 0 (getMb t mb).req i =
        if off ≤ i ∧ i < off + data.length then data.getD (i - off) 0 else tget 0 (getMb s mb).req i) ∧
        { getMb t mb with req := [] } = { getMb s mb with req := [] }) ∧
    (off + data.length ≤ 4096 → (getMb s mb).st = .posted ∨ (getMb s mb).st = .executing →
      ∃ t, Completes (.mbRequestWrite mb off data) s t ∧ getMb t mb = { getMb s mb with overrun := true })) ∧
  (∀ (s : State) (mb off : Nat) (data : Bytes), live s = true → mb ≤ 8 → data.length ≤ 128 → off < 4096 →
    4096 < off + data.length → Completes (.mbRequestWrite mb off data) s (xbound (reqBase mb + off) true (barSeen true s))) ∧
  (∀ (s : State) (mb : Nat), mbThere mb s = true → (getMb s mb).timeoutMs ≠ 0 →
    let m := getMb s mb
    ((m.st = .posted ∨ (m.st = .executing ∧ mb ≠ 8 ∧ s.boot.agent = 3)) → ∃ t, Completes (.mbWatchdog mb) s t ∧
      (getMb t mb).st = .done ∧ (getMb t mb).completions = m.completions + 1 ∧ (getMb t mb).req = m.req ∧
      (m.st = .posted → t.hif.ringOrder = s.hif.ringOrder.erase mb ∧ t.hif.cmds = s.hif.cmds)) ∧
    (m.st = .executing → mb ≠ 8 → s.boot.agent ≠ 3 → ∃ t, Completes (.mbWatchdog mb) s t ∧
      getMb t mb = { m with expired := true })) ∧
  (∀ (s : State) (addr size : Nat) (w : Bool), live s = true → 1 ≤ size → size ≤ 128 → addr + size ≤ 2 ^ 20 →
    addr / 4096 ≠ (addr + size - 1) / 4096 →
    Completes (.bar0BoundaryFault addr size w) s (evH 0xB001 (le 4 addr ++ [if w then 1 else 0]) { barSeen w s with hif := { s.hif with
      xboundCnt := s.hif.xboundCnt + 1, irqStatus := s.hif.irqStatus ||| 0x2000#14 } })) ∧
  (∀ (s : State), live s = true → ∀ a v, (a, v) ∈ [(0x018, s.hif.xboundCnt), (0x058, s.hif.nqLostCnt), (0x060, s.hif.authFailCnt)] →
    ∃ t, Completes (.counterLoRead a 4) s t ∧ tget 0 t.hif.latched a = hi32 v ∧ t.hif.readData = some (le 4 (lo32 v).toNat) ∧
      t = { barSeen false s with hif := { s.hif with latched := t.hif.latched, readData := t.hif.readData } } ∧
      (barRead (a + 4) 4 t).1 = some (le 4 (hi32 v).toNat)) ∧
  (∀ (s : State) (a n : Nat), live s = true → 1 ≤ n → n ≤ 128 → a + n ≤ 0x100000 →
    let u := barSeen false s
    let reads := fun (b : Option Bytes) (v : State) => Completes (.counterLoRead a n) s { v with hif := { v.hif with readData := b } }
    (barFault a n = true → reads none (xbound a false u)) ∧
    (∀ k, k < 8 → a = 0x104 + 0x20 * k → n = 4 → let m := getMb s k
      reads (some (le 4 (m.st.code + 4 * b2n m.overrun + 256 * m.completions.toNat))) u) ∧
    (∀ k i, k < 8 → i + n ≤ 4096 → a = 0x2000 + 0x2000 * k + i → reads (some (bufRead (getMb s k).resp i n)) u) ∧
    (a = 0x40000 → n = 4 → ∃ v : W32, reads (some (le 4 v.toNat)) u ∧ v.getLsbD 5 = s.boot.meterFuse ∧ v.getLsbD 4 = s.km.muzzled ∧
      v.getLsbD 7 = s.tamper.lock) ∧
    (a = 0x40004 → n = 4 → reads (some (le 4 s.tamper.active.toNat)) u) ∧
    (s.boot.meterFuse = false → barFault a n = false → 0x80000 ≤ a → a + n ≤ 0x84000 → reads (some (zb n)) u) ∧
    (∀ w c, barFault a n = false → windowCp a = some w → fwlJudge s 2 w n 0 = c → c ≠ 0 → reads none (fwlDeny 2 w n 0 c u))) ∧
  (∀ (s : State) (cause : HifResetCause), live s = true → ∃ t, Completes (.hifReset cause) s t ∧
    t = { s with hif := t.hif, evr := t.evr } ∧ t.hif.sessions = [] ∧ (∀ mb, mb < 8 → (getMb t mb).st = .idle) ∧
    t.hif.backlog = [] ∧ t.hif.nqAfter = [] ∧ t.hif.nqEnable = false ∧
    t.hif.nqLostCnt = s.hif.nqLostCnt + BitVec.ofNat 64 (s.hif.backlog.length + s.hif.nqAfter.length) ∧
    t.hif.xboundCnt = s.hif.xboundCnt ∧ t.hif.authFailCnt = s.hif.authFailCnt ∧ t.hif.smbAddr = s.hif.smbAddr ∧
    t.hif.smbLock = s.hif.smbLock ∧ t.hif.irqStatus = 0 ∧ t.hif.irqMask = 0 ∧
    t.hif.cmds = s.hif.cmds.map (fun c => if c.mb = 8 then c else { c with discard := true }))

/-- MB_TAKE checks a request in the order of Table 12-6 (R292, R13, R295, R297, R298): the first check that fails completes the
command with its status; a request that passes is executing. An AUTH command consumes the session's nonce; a failed verification is counted, and the
eighth in a row starts the lockout, which AUTH_LOCKOUT_END ends; NONCE_EXPIRY takes a nonce away, the meter's even while the device is in reset (R402). The
model's choices: the order of the checks where the table leaves it open, and the nonce's and the lockout's details (log entries 86, 94). -/
def Obligations.RequestsChecked : Prop :=
  (∀ (s : State) (mb : Nat) (rest : List Nat) (bm : Bool) (ck : Bytes), serving s = true → mb < 8 →
    s.hif.cmds.any (fun c => c.mb != 8 && c.wait == Wait.none) = false → s.hif.ringOrder = mb :: rest →
    let m := getMb s mb
    let header := bufRead m.req 0 16
    let q : Request := ⟨header, bufRead m.req 16 (min (u16 header 6) 4080)⟩
    let op := u16 header 0
    let flags := u16 header 2
    let session := u32 header 8
    let dma := nbit flags 3
    let c := cmdFrom mb q (if s.boot.lc = 1 then ck else [])
    let u := setMb mb { m with st := .executing } (setHif (fun h => { h with ringOrder := rest, dmaOut := [] }) s)
    let open_ := s.hif.sessions.any (fun x => x.id == session) || (session == 0 && (op == 0 || op == 1))
    let answers := fun st w => Completes (.mbTake false bm ck) s (finish c ⟨st, 0, []⟩ w)
    let g := tget .reset s.gates (u8 q.payload 0)
    let late := if dma && !(dmaFlagOk op || dmaOwn op) then stInvalid
      else if !bm && ((dma && dmaFlagOk op) || (dmaOwn op && op != 0x0801 && op != 0x0521) || (op == 0x0801 && u32 q.payload 4 != 0) ||
        (op == 0x0521 && (if u8 q.payload 1 = 0 then g.oper else g.pend).any (fun l => decide (506 < l.entries.length)))) then stWrongState
      else if s.boot.agent = 1 ∧ recoveryOk (s.boot.lc == 4) op = false then stWrongState else stOk
    let goes := fun w => Completes (.mbTake false bm ck) s { w with hif := { w.hif with cmds := w.hif.cmds ++ [c] } }
    (4080 < u16 header 6 → answers stInvalid u) ∧
    (u16 header 6 ≤ 4080 → 15 < flags ∨ zeros header 12 4 = false → answers stInvalid u) ∧
    (u16 header 6 ≤ 4080 → flags ≤ 15 → zeros header 12 4 = true →
      (op / 256 = 12 → answers stDenied u) ∧
      (op / 256 ≠ 12 → opRole op = none → answers stUnsupported u) ∧
      (∀ role, op / 256 ≠ 12 → opRole op = some role →
        (open_ = false → answers stDenied u) ∧
        (open_ = true → role = 0 → nbit flags 2 = true → answers stInvalid u) ∧
        (open_ = true → role = 0 → nbit flags 2 = false → late ≠ stOk → answers late u) ∧
        (open_ = true → role = 0 → nbit flags 2 = false → late = stOk → goes u) ∧
        (open_ = true → role ≠ 0 → nbit flags 2 = false → answers stDenied u) ∧
        (open_ = true → role ≠ 0 → nbit flags 2 = true →
          let v := { u with hif := { u.hif with sessions := u.hif.sessions.map (fun x =>
            if x.id = session then { x with nonce := none } else x) } }
          let nonce := (s.hif.sessions.find? (fun x => x.id == session)).bind (·.nonce)
          (s.hif.lockout = true → answers stLocked v) ∧
          (s.hif.lockout = false → if authOk false op q nonce ck s = true then
              (if late = stOk then goes { v with hif := { v.hif with authRun := 0 } }
                else answers late { v with hif := { v.hif with authRun := 0 } })
            else ∃ w, answers stDenied w ∧ w.hif.authFailCnt = s.hif.authFailCnt + 1 ∧
              (s.hif.authRun ≤ 6 → w.hif.authRun = s.hif.authRun + 1 ∧ w.hif.lockout = false) ∧
              (s.hif.authRun = 7 → w.hif.authRun = 0 ∧ w.hif.lockout = true)))))) ∧
  (∀ (s : State) (bm : Bool) (ck : Bytes), mbAlive 8 s = true → s.mtr.mb.st = .posted →
    let header := bufRead s.mtr.mb.req 0 16
    let q : Request := ⟨header, bufRead s.mtr.mb.req 16 (min (u16 header 6) 4080)⟩
    let op := u16 header 0
    let c := cmdFrom 8 q (if s.boot.lc = 1 then ck else [])
    u16 header 6 ≤ 4080 → u16 header 2 ≤ 15 → zeros header 12 4 = true → ∃ w, w.mtr.mb = { s.mtr.mb with st := .executing } ∧
      (op / 256 ≠ 12 → Completes (.mbTake true bm ck) s (finish c ⟨stDenied, 0, []⟩ w)) ∧
      (opRole op = some 0 → op / 256 = 12 → u32 header 8 = 0 → nbit (u16 header 2) 2 = false → nbit (u16 header 2) 3 = false →
        Completes (.mbTake true bm ck) s { w with hif := { w.hif with cmds := w.hif.cmds ++ [c] } })) ∧
  (∀ (s : State), Completes (.nonceExpiry 0) s { s with mtr := { s.mtr with nonce := none } } ∧
    Completes (.authLockoutEnd true) s { s with mtr := { s.mtr with lockout := false } }) ∧
  (∀ (s : State) (n : Nat), live s = true →
    (n ≠ 0 → Completes (.nonceExpiry n) s { s with hif := { s.hif with sessions := s.hif.sessions.map (fun x =>
      if x.id = n then { x with nonce := none } else x) } }) ∧
    Completes (.authLockoutEnd false) s { s with hif := { s.hif with lockout := false } })

/-- The notification queue, SMBus and the device commands (R301 to R307, R310): ENABLE from 0 to 1 begins the ring afresh; the LOST entry of an episode precedes the
backlog, which is posted in order; vector 8 is signalled COAL_US after the first unsignalled entry, as a message or, while MSI-X masks it, as a pending bit (log entry 126); SMBus reads at HIF_SMB_ADDR answer the
content of Table 12-12, with a PEC where one is asked for (its form: log entry 127),
anything else there is a NACK, and another target's transactions change nothing; DEV_INFO_GET, DEV_SESSION_OPEN (which number is the model's free value, log entry 42), DEV_SESSION_CLOSE,
DEV_NONCE_GET. -/
def Obligations.NotificationsAndDevice : Prop :=
  (∀ (s : State) (v : W32), live s = true → s.hif.nqHeld = [] →
    let coal := { s.hif with coalCount := BitVec.ofNat 8 (fld v 8 8), coalUs := BitVec.ofNat 16 (fld v 16 16) }
    let u := barSeen true s
    (s.hif.nqEnable = true → Completes (.nqEnableWrite v) s { u with hif := { coal with nqEnable := bitOf v 0 } }) ∧
    (s.hif.nqEnable = false → bitOf v 0 = false → Completes (.nqEnableWrite v) s
      { u with hif := { coal with nqSize := BitVec.ofNat 5 (fld v 1 5) } }) ∧
    (s.hif.nqEnable = false → bitOf v 0 = true → Completes (.nqEnableWrite v) s { u with hif := { coal with
      nqSize := BitVec.ofNat 5 (fld v 1 5), nqEnable := true, nqTail := 0, nqPhase := true, nqRing := [] } }) ∧
    Completes (.nqHeadWrite v) s { u with hif := { s.hif with nqHead := BitVec.ofNat 16 (fld v 0 16) } }) ∧
  (∀ (s : State), live s = true → s.hif.nqHeld ≠ [] → s.hif.nqEnable = false → s.hif.backlog.length + s.hif.nqHeld.length ≤ 1024 →
    ∃ t, Completes (.nqEnableWrite 1) s t ∧ t.hif.backlog = s.hif.backlog ++ s.hif.nqHeld ∧ t.hif.nqHeld = []) ∧
  (∀ (s : State) (n : Notice), serving s = true → nqRoom s.hif = true → s.hif.backlog = [n] →
    let i := s.hif.nqTail.toNat
    (s.hif.nqEpisode = none → s.hif.nqAfter = [] → ∃ t, Completes .nqBacklogPost s t ∧ t.hif.backlog = [] ∧
      t.hif.nqTail = BitVec.ofNat 16 ((i + 1) % nqLen s.hif) ∧ (i, ⟨n.typ, n.body, s.hif.nqPhase, lo32 s.tsu.ns⟩) ∈ t.hif.nqRing ∧
      t.hif.nqPhase = if (i + 1) % nqLen s.hif = 0 then !s.hif.nqPhase else s.hif.nqPhase) ∧
    (∀ k d, s.hif.nqEpisode = some (k, d) → s.hif.nqAfter.length ≤ 1 → ∃ t, Completes .nqBacklogPost s t ∧ t.hif.nqEpisode = none ∧
      (i, ⟨6, le 4 k ++ zb 4 ++ le64 d, s.hif.nqPhase, lo32 s.tsu.ns⟩) ∈ t.hif.nqRing)) ∧
  (∀ (s : State), live s = true → s.hif.coalUs ≠ 0 → s.hif.nqUnsig ≠ 0 →
    ∃ t, Completes .nqCoalesceTimer s t ∧ t = { s with hif := { s.hif with
      nqUnsig := 0, irqStatus := t.hif.irqStatus, msix := t.hif.msix, msixPending := t.hif.msixPending } } ∧
      t.hif.irqStatus.getLsbD 8 = true ∧
      (s.hif.msixEnable = true → s.hif.irqMask.getLsbD 8 = false →
        (msixMasked s.hif 8 = false → tget 0 t.hif.msix 8 = tget 0 s.hif.msix 8 + 1 ∧ t.hif.msixPending = s.hif.msixPending) ∧
        (msixMasked s.hif 8 = true → t.hif.msix = s.hif.msix ∧ t.hif.msixPending.getLsbD 8 = true)) ∧
      (s.hif.msixEnable = false ∨ s.hif.irqMask.getLsbD 8 = true →
        t.hif.msix = s.hif.msix ∧ t.hif.msixPending = s.hif.msixPending)) ∧
  (∀ (s : State) (code target : Nat) (pec : Bool), live s = true →
    let a := s.hif.smbAddr.toNat
    let nack := { s with hif := { s.hif with smbData := none, smbPec := none } }
    let pecByte := if pec then (smbusContent code s).map (fun x => smbCrc (smbBytes s.hif.smbAddr code x)) else none
    Completes (.smbusRead a code pec) s { s with hif := { s.hif with smbData := smbusContent code s, smbPec := pecByte } } ∧
    Completes (.smbusWrite a code) s nack ∧ Completes .smbusSclTimeout s nack ∧
    (target ≠ a → Completes (.smbusRead target code pec) s s ∧ Completes (.smbusWrite target code) s s) ∧
    (8 < code → smbusContent code s = none) ∧
    smbusContent 4 s = some (le 4 s.tamper.active.toNat ++ le 4 s.tamper.latched.toNat ++ le 4 s.tamper.severity) ∧
    (s.boot.agent ≠ 2 → smbusContent 0 s = some (zb 8) ∧ smbusContent 3 s = some (zb 2) ∧ smbusContent 5 s = some (zb 9) ∧
      smbusContent 6 s = some (zb 8) ∧ smbusContent 7 s = some (zb 8) ∧ smbusContent 8 s = some (zb 2))) ∧
  (∀ (s : State) (power uptime : Nat), fwRuns s = true → ∃ t, Completes (.smbusRefresh power uptime) s t ∧
    smbusContent 3 t = some (le 2 (power % 65536)) ∧ smbusContent 7 t = some (le 8 (uptime % 2 ^ 64)) ∧
    smbusContent 8 t = some (le 2 s.cnt.days)) ∧
  (∀ (s : State) (mb : Nat) (c : Cmd), c.payload = [] →
    (Taken 0x0000 mb s c → AnswersOk (.devInfoGet mb) s c (le 2 0x3200 ++ le 1 1 ++
      le 1 (b2n s.boot.meterFuse + 2 * b2n s.boot.gradeE) ++ le 1 s.boot.lcView ++ le 1 (b2n s.boot.zeroized + 2 * b2n s.km.muzzled) ++
      le 1 s.boot.agent ++ zb 1 ++ le64 s.boot.serial ++ le 4 s.boot.running.version ++ le 1 (s.boot.running.image.getD 0xFF) ++
      zb 3 ++ pad 48 s.boot.running.digest ++ le 8 Config.lpddrSize) s) ∧
    (Taken 0x0001 mb s c → 16 ≤ s.hif.sessions.length → Turned (.devSessionOpen mb) s c stNoRoom) ∧
    (Taken 0x0001 mb s c → s.hif.sessions.length ≤ 15 → ∃ t n, AnswersOk (.devSessionOpen mb) s c (le 4 n ++ zb 4) t ∧
      n ≠ 0 ∧ n < 2 ^ 32 ∧ (∀ x ∈ s.hif.sessions, x.id ≠ n) ∧ t.hif.sessions = s.hif.sessions ++ [⟨n, none⟩]) ∧
    (Taken 0x0002 mb s c → AnswersOk (.devSessionClose mb) s c []
      { s with hif := { s.hif with sessions := s.hif.sessions.filter (fun x => x.id != c.session) } }) ∧
    (Taken 0x0003 mb s c → ∃ t b, AnswersOk (.devNonceGet mb) s c (b ++ le 4 60000 ++ zb 4) t ∧ b.length = 8 ∧
      t.hif.sessions = s.hif.sessions.map (fun x =>
        if x.id = c.session then { x with nonce := some (BitVec.ofNat 64 (leNat b)) } else x)))

/-! ### The firewall, the MPU and debug (13_protection.md) -/

/-- DAP_ACCESS is judged byte by byte (R312 to R316, R323, R327): the first of ABSENT, LEVEL, STRADDLE, NO_REGION and PERM that applies denies it, whatever the
regions grant; a denial is counted for master 3, captured unless one is captured already, sets the sticky flag, answers no data and changes nothing else;
an allowed access reads or writes the memory. The deciding region of a byte outside the fixed regions is the lowest enabled region that
holds it, else the background. -/
def Obligations.DapAccessJudged : Prop :=
  (∀ (s : State) (a : Nat), fixedOf a = none → (∀ i, i < 32 → deciding s a = i → fwlHas (fwlRegion s i) a = true ∧
      ∀ j, j < i → fwlHas (fwlRegion s j) a = false) ∧
    ((∀ i, i < 32 → fwlHas (fwlRegion s i) a = false) → deciding s a = 36)) ∧
  (∀ (s : State) (w : Bool) (addr size : Nat) (data : Bytes), live s = true → 1 ≤ size → size ≤ 128 → addr + size ≤ 2 ^ 40 →
    let page := fun a => (blockBase 6 ≤ a ∧ a < blockBase 6 + 0x1000) ∨ (blockBase 12 + 0x8000 ≤ a ∧ a < blockBase 12 + 0x9000)
    let absent := ∃ i, i < size ∧ page (addr + i)
    let level := s.prot.level = 0 ∨ (s.prot.level = 1 ∧ w = true)
    let straddle := ∃ i, i < size ∧ deciding s (addr + i) ≠ deciding s addr
    let noRegion := (∃ i, i < size ∧ mapped (addr + i) = false) ∨ deciding s addr = 36
    let grants := fwlGrants s (deciding s addr) 3 (if w then 1 else 0) = true
    let denied := fun cause => ∃ t, Completes (.dapAccess w addr size data) s t ∧ t = { s with prot := t.prot, evr := t.evr } ∧
      t.prot.mem = s.prot.mem ∧ tget 0 t.prot.denyCnt 3 = tget 0 s.prot.denyCnt 3 + 1 ∧ t.prot.dapSticky = true ∧
      t.prot.dapData = none ∧ t.prot.fwlValid = true ∧
      (s.prot.fwlValid = false → t.prot.fwlAddr = addr ∧ t.prot.fwlMaster = 3 ∧ t.prot.fwlCause = cause ∧
        t.prot.fwlAccess = (if w then 1 else 0) ∧ t.prot.fwlSize = size) ∧
      (s.prot.fwlValid = true → t.prot.fwlOverflow = true ∧ t.prot.fwlAddr = s.prot.fwlAddr ∧ t.prot.fwlCause = s.prot.fwlCause)
    (absent → denied 4) ∧ (¬ absent → level → denied 5) ∧ (¬ absent → ¬ level → straddle → denied 2) ∧
    (¬ absent → ¬ level → ¬ straddle → noRegion → denied 3) ∧
    (¬ absent → ¬ level → ¬ straddle → ¬ noRegion → ¬ grants → denied 1) ∧
    (¬ absent → ¬ level → ¬ straddle → ¬ noRegion → grants →
      (w = false → (∀ i, i < size + 8 → inSram (addr - addr % 4 + i) = true) → Completes (.dapAccess w addr size data) s
        { s with prot := { s.prot with dapData := some (bufRead s.prot.mem addr size) } }) ∧
      (w = true → inSram addr = true → data.length = size → Completes (.dapAccess w addr size data) s
        { s with prot := { s.prot with mem := bufWrite s.prot.mem addr data, dapData := some [] } })))

/-- MPU_FAULT: a CP access under an enabled MPU (R319 to R321, R328): different deciding regions give STRADDLE, a region that does not grant the
type PERM, the background NO_REGION to a user and to everyone without PRIVDEF; a user fault is counted and restarts the task; a privileged
one, and a denial by the firewall of what the MPU allows, halt the CP; an access that both allow changes nothing. Nothing reaches memory. -/
def Obligations.MpuChecksCp : Prop :=
  ∀ (s : State) (k : AccessKind) (priv : Bool) (addr size task : Nat), cpRuns s = true → 1 ≤ size → size ≤ 128 →
    addr + size ≤ 2 ^ 40 → s.hif.cmds = [] →
    let d := mpuDeciding s addr
    let straddle := ∃ i, i < size ∧ mpuDeciding s (addr + i) ≠ d
    let page := ∃ i, i < size ∧ inMpuPage (addr + i) = true
    let grants := (mpuRegion s d).perm.getLsbD ((if priv then 0 else 3) + accessCode k) = true
    let faults := fun cause => ∃ t, Completes (.mpuFault k priv addr size task) s t ∧ t.prot.mem = s.prot.mem ∧
      t.prot.denyCnt = s.prot.denyCnt ∧ t.prot.mpuValid = true ∧
      (s.prot.mpuValid = false → t.prot.mpuAddr = addr ∧ t.prot.mpuCause = cause ∧ t.prot.mpuPriv = priv ∧
        t.prot.mpuAccess = accessCode k) ∧
      (priv = true → t.prot.mpuCntP = s.prot.mpuCntP + 1 ∧ t.prot.mpuCntU = s.prot.mpuCntU ∧ t.boot.agent = 3) ∧
      (priv = false → t.prot.mpuCntU = s.prot.mpuCntU + 1 ∧ t.prot.mpuCntP = s.prot.mpuCntP ∧ t.boot.agent = s.boot.agent ∧
        t.prot.restarted = some (task % 256))
    (s.prot.mpuEnable = true →
      (straddle → faults 2) ∧
      (¬ straddle → ¬ (page ∧ priv = false) → d ≠ 16 → ¬ grants → faults 1) ∧
      (¬ straddle → page → priv = false → faults 1) ∧
      (¬ straddle → ¬ page → d = 16 → (priv = false ∨ s.prot.privdef = false) → faults 3)) ∧
    ((s.prot.mpuEnable = false ∨ (¬ straddle ∧ d ≠ 16 ∧ grants)) → ¬ page →
      (fwlJudge s 0 addr size (accessCode k) = 0 → Completes (.mpuFault k priv addr size task) s s) ∧
      (fwlJudge s 0 addr size (accessCode k) ≠ 0 → ∃ t, Completes (.mpuFault k priv addr size task) s t ∧ t.boot.agent = 3 ∧
        tget 0 t.prot.denyCnt 0 = tget 0 s.prot.denyCnt 0 + 1 ∧ t.prot.mpuCntP = s.prot.mpuCntP ∧ t.prot.mem = s.prot.mem))

/-- FWL_CLOSE closes the boot window only when MPU_CTRL.LOCK is 1: event 0xB103, the agent becomes FIRMWARE or RECOVERY, and
mailboxes, not served under the boot ROM, are served from then on; 0x8009 carries the ms since POR_L (R350), a ms being 800,000 TCLK (R25); otherwise the
write is ignored, flagged in FWL_STATUS and recorded (R317, R318). -/
def Obligations.FwlCloseNeedsMpuLock : Prop :=
  ∀ (s : State), cpRuns s = true → s.prot.window = true →
    (s.prot.mpuLock = false → Completes .fwlClose s (evH 0xB102 (le 2 0) { s with prot := { s.prot with wrIgnored := true } })) ∧
    (s.prot.mpuLock = true → ∃ t, Completes .fwlClose s t ∧ t.prot = { s.prot with window := false, closedAt := t.prot.closedAt } ∧
      t.boot = { s.boot with agent := if s.boot.recovery then 1 else 2 } ∧ (s.boot.agent = 0 → serving s = false) ∧ serving t = true ∧
      (s.evr.fwQueue.length < 256 → s.tsu.timeSet = false → t.evr.fwQueue = s.evr.fwQueue ++
        [⟨0x8009, le 1 (if s.boot.recovery then 1 else 2) ++ le 1 (s.boot.running.image.getD 0xFF) ++ le 4 s.boot.running.version ++
          le 4 (s.boot.porClk / 800000), s.tsu.ns, true⟩]) ∧
      (s.evr.hwFifo.length < 64 → s.tsu.timeSet = false ∨ s.tamper.evd.recs.length < 126 → t.evr.hwFifo = s.evr.hwFifo ++
        [⟨0xB103, le 4 (mask ((List.range 32).map (fun i => (fwlRegion s i).enable))), s.tsu.ns, !s.tsu.timeSet⟩]))

/-- The debug port's control of the CP and register writes (R9, R10, R317, R322, R323, R325): halt, step and resume need the level INVASIVE and answer an
error below it; a granted INVASIVE level takes effect once the clearing of MUZZLE is complete; MPU_LOCK locks MPU_CTRL; a
BAR0 or CP write acts on the register at its address under its access code and lock, a CP write where the MPU and the firewall let it through: once
the window is closed the firewall denies it the firewall's own registers, and the CP halts (R311, R314, R315); in the cycle in which it closes such a
write is ignored and flagged (R328). The model's choices: the debug port's control requests (log entry 18), the operands and the reach of a register write
(log entries 61, 145). -/
def Obligations.DebugAndRegisterWrites : Prop :=
  (∀ (s : State), live s = true →
    let error := { s with prot := { s.prot with dapSticky := true, dapData := none } }
    (s.prot.level = 2 → Completes .dapHalt s { s with prot := { s.prot with dapHalted := true } } ∧
      Completes .dapResume s { s with prot := { s.prot with dapHalted := false } } ∧
      Completes .dapStep s { s with prot := { s.prot with
        dapSteps := if s.prot.dapHalted then s.prot.dapSteps + 1 else s.prot.dapSteps } }) ∧
    (s.prot.level ≠ 2 → Completes .dapHalt s error ∧ Completes .dapResume s error ∧ Completes .dapStep s error)) ∧
  (∀ (s : State), live s = true → s.prot.granting = true → s.km.clearing = false → s.tamper.safe = [] →
    (∀ c ∈ s.hif.cmds, ∀ l, c.wait ≠ .debug l) → ∃ t, Completes .debugLevelGranted s t ∧ t.prot.granting = false ∧
      t.prot.level = 2) ∧
  (∀ (s : State) (v : W32), cpRuns s = true →
    (s.prot.mpuLock = true → Completes (.mpuLock v) s s) ∧
    (s.prot.mpuLock = false → Completes (.mpuLock v) s { s with prot := { s.prot with
      mpuEnable := v.getLsbD 0, privdef := v.getLsbD 1, mpuLock := v.getLsbD 2 } })) ∧
  (∀ (s : State) (v : W32), live s = true →
    let u := barSeen true s
    Completes (.registerWrite .bar0 0x010 v) s { u with hif := { s.hif with irqStatus := s.hif.irqStatus &&& ~~~(v.setWidth 14) } } ∧
    Completes (.registerWrite .bar0 0x014 v) s { u with hif := { s.hif with irqMask := v.setWidth 12 } } ∧
    (s.hif.smbLock = true → Completes (.registerWrite .bar0 0x020 v) s u) ∧
    (s.hif.smbLock = false → Completes (.registerWrite .bar0 0x020 v) s
      { u with hif := { s.hif with smbAddr := v.setWidth 7, smbLock := v.getLsbD 7 } }) ∧
    Completes (.registerWrite .bar0 0x042 v) s (xbound 0x042 true u) ∧
    (∀ n, n < 8 → exec (.registerWrite .bar0 (0x100 + 0x20 * n) 1) s = exec (.mbRing n) s ∧
      exec (.registerWrite .bar0 (0x100 + 0x20 * n) 7) s = exec (.mbRing n) s ∧
      exec (.registerWrite .bar0 (0x100 + 0x20 * n) 6) s = exec (.mbAbort n) s ∧
      exec (.registerWrite .bar0 (0x100 + 0x20 * n) 4) s = exec (.mbRelease n) s)) ∧
  (∀ (s : State) (n task : Nat) (priv : Bool) (v : W32), cpRuns s = true → n < 32 →
    let a := 0x40000000 + 0x108 + 0x10 * n
    let cp := RegSpace.cp priv task
    (∀ b, mpuJudge s 1 priv a 4 b = 0) →
    (s.prot.window = false → s.prot.closedAt = some s.tsu.count → Completes (.registerWrite cp a v) s
      (evH 0xB102 (le 2 (0x108 + 0x10 * n)) { s with prot := { s.prot with wrIgnored := true } })) ∧
    (s.prot.window = false → s.prot.closedAt ≠ some s.tsu.count → ∃ t, Completes (.registerWrite cp a v) s t ∧ t.boot.agent = 3 ∧
      tget 0 t.prot.denyCnt 0 = tget 0 s.prot.denyCnt 0 + 1 ∧ t.prot.regions = s.prot.regions) ∧
    ((fwlRegion s n).lock = true → s.prot.window = true → Completes (.registerWrite cp a v) s
      (evH 0xB102 (le 2 (0x108 + 0x10 * n)) { s with prot := { s.prot with wrIgnored := true } })) ∧
    ((fwlRegion s n).lock = false → s.prot.window = true →
      ∃ t, Completes (.registerWrite cp a v) s t ∧ t = { s with prot := { s.prot with regions := t.prot.regions } } ∧
      fwlRegion t n = { fwlRegion s n with
        enable := v.getLsbD 0, lock := v.getLsbD 1, size := BitVec.ofNat 6 (v.toNat / 4 % 64), perm := BitVec.ofNat 9 (v.toNat / 256 % 512) } ∧
      ∀ m, m ≠ n → fwlRegion t m = fwlRegion s m))

/-! ### Boot, life cycle and identity (14_boot_lifecycle.md) -/

/-- LC_STATE_GET, FW_STATUS_GET, ID_CERT_GET, ID_CSR_GET, ID_CERT_SET and ID_QUOTE_GET answer as Tables 14-9 and 14-14 lay out
(R344, R345, R351, R352): a certificate goes to host memory; one is set only where it is the slot's and the owner's; a quote
holds the fields of Table 14-9 and a signature over "PK3200-QUOTE" and bytes 0 to 495; a certificate whose bytes DMA may not read from the CP's map is not
sent, and the command ends with INTEGRITY (R315). The model's choices: the order of the checks (log entry 65), and what an answer holds where the tables leave
it open (log entry 89). -/
def Obligations.IdentityCommandsAnswer : Prop :=
  ∀ (s : State) (mb : Nat) (c : Cmd) (d : DmaRead) (reads : List (Nat × Nat)) (slot a n : Nat) (cert nonce : Bytes) (scheme : Nat) (ldev : Bool) (k : Bytes × Bytes),
    let b := s.boot
    (Taken 0x0800 mb s c → c.payload = [] → AnswersOk (.lcStateGet mb) s c (le 1 b.lc ++ le 1 (mask [b.zeroized, b.ownerScheme != 0]) ++
      le 1 s.prot.level ++ le 1 s.prot.highest ++ le 1 b.transitions ++ le 1 b.svn ++ le 1 b.ownerScheme ++ zb 1 ++
      (if b.ownerScheme = 0 then zb 48 else pad 48 b.ownerDigest)) s) ∧
    (Taken 0x0823 mb s c → c.payload = [] → AnswersOk (.fwStatusGet mb) s c (le 1 (b.running.image.getD 0xFF) ++ bit8 b.running.trial ++
      le 1 b.staging.st ++ zb 1 ++ le 4 b.running.version ++ le 4 b.running.svn ++ le 4 b.svn ++ le 4 b.staging.version ++
      le 4 b.staging.svn ++ zb 8 ++ pad 48 b.staging.digest) s) ∧
    (Taken 0x0810 mb s c → slot < 4 → a < 2 ^ 64 → a % 8 = 0 → c.payload = le 1 slot ++ zb 7 ++ le 8 a →
      (certOf s slot = none → Turned (.idCertGet mb reads) s c stNotFound) ∧
      (certOf s slot = some cert → dmaRange a cert.length = true →
        AnswersOk (.idCertGet mb []) s c (le 4 cert.length ++ zb 4) (dmaPut a cert s) ∧
        ∀ x size, fwlJudge s 1 x size 0 ≠ 0 →
          Answers (.idCertGet mb [(x, size)]) s c ⟨stIntegrity, 0, []⟩ (fwlDeny 1 x size 0 (fwlJudge s 1 x size 0) s))) ∧
    (Taken 0x0811 mb s c → b.lc ≠ 4 → 2 ≤ slot → slot < 4 → a < 2 ^ 64 → a % 8 = 0 → c.payload = le 1 slot ++ zb 7 ++ le 8 a →
      (b.ownerScheme = 0 → Turned (.idCsrGet mb reads) s c stWrongState) ∧
      (b.ownerScheme ≠ 0 → idKey s slot = some k →
        if dmaRange a (Config.csr k).length then AnswersOk (.idCsrGet mb []) s c (le 4 (Config.csr k).length ++ zb 4) (dmaPut a (Config.csr k) s)
        else Turned (.idCsrGet mb []) s c stInvalid)) ∧
    (Taken 0x0812 mb s c → b.lc ≠ 4 → 2 ≤ slot → slot < 4 → 1 ≤ n → n ≤ 8192 → a < 2 ^ 64 → dmaRange a n = true →
      c.payload = le 1 slot ++ zb 3 ++ le 4 n ++ le 8 a ++ zb 8 → d = .data cert → cert.length = n →
      (b.ownerScheme = 0 → Turned (.idCertSet mb d) s c stWrongState) ∧
      (b.ownerScheme ≠ 0 → idKey s slot = some k →
        if Config.certSubject cert k.2 && ownerVerifies b cert then
          AnswersOk (.idCertSet mb d) s c [] { s with boot := { b with certs := tset none b.certs slot (some cert) } }
        else Turned (.idCertSet mb d) s c stIntegrity)) ∧
    (Taken 0x0813 mb s c → b.lc ≠ 4 → nonce.length = 32 → 1 ≤ scheme → scheme ≤ 3 → c.payload = nonce ++ le 1 scheme ++ bit8 ldev ++ zb 6 →
      (s.km.muzzled = true → Turned (.idQuoteGet mb) s c stWrongState) ∧
      (s.km.muzzled = false → noLdev s ldev scheme = true → Turned (.idQuoteGet mb) s c stNotFound) ∧
      (s.km.muzzled = false → noLdev s ldev scheme = false → ∃ q, AnswersOk (.idQuoteGet mb) s c q s ∧
        q.length = 496 + (if scheme = 1 then 96 else if scheme = 2 then 3309 else 3405) ∧
        sub q 0 8 = le 4 0x51540001 ++ le 1 b.lc ++ le 1 (mask [b.zeroized, false, ldev, b.running.trial]) ++ le 1 b.agent ++
          le 1 s.prot.highest ∧
        sub q 8 24 = le64 b.serial ++ le 4 b.running.version ++ le 4 b.running.svn ++ le 4 b.svn ++ le 1 (b.running.image.getD 0xFF) ++ zb 3 ∧
        sub q 32 32 = le64 s.tsu.ns ++ le64 b.bbram.counter ++ zb 16 ∧ sub q 64 32 = nonce ∧
        sub q 96 384 = (List.range 8).flatMap (fun i => pad 48 (tget [] b.meas i)) ∧ u8 q 482 = scheme ∧
        q.drop 496 = idSign ldev scheme (ascii "PK3200-QUOTE" ++ q.take 496) s))

/-- LC_STATE_SET, LC_TRANSITION_COMMIT, LC_DEBUG_UNLOCK and FACTORY_PROVISIONING follow Tables 13-6 and 14-7 (R324, R325, R339 to R342,
R349, R352): a target the table does not give is turned away, so is one with its fuses used up; a claim needs a valid key block, and a second one that was
taken before the first took effect comes too late; MUZZLE is
asserted and the command waits; the commit writes the state, one fuse between FIELD and RECOVERY, a new share out of ZEROIZED, the erased
share of RETIRED, and asks for a core reset 10 ms later; no identity key is left in RETIRED. -/
def Obligations.LifeCycleFollowsTable : Prop :=
  (∀ (s : State) (mb : Nat) (c : Cmd) (d : DmaRead) (target : Nat), Taken 0x0801 mb s c → s.boot.lc ≠ 4 → target < 256 →
    ¬ (s.boot.lc = 1 ∧ target = 2) → c.claim = [] → c.payload = le 1 target ++ zb 23 → s.boot.transition = none →
    let allowed := (s.boot.lc = 2 ∧ s.boot.zeroized = false ∧ (target = 3 ∨ target = 4)) ∨
      (s.boot.lc = 2 ∧ s.boot.zeroized = true ∧ target = 2) ∨ (s.boot.lc = 3 ∧ (target = 2 ∨ target = 4))
    let fuse := (s.boot.lc = 2 ∧ target = 3) ∨ (s.boot.lc = 3 ∧ target = 2)
    (¬ allowed → Turned (.lcStateSet mb d) s c stWrongState) ∧
    (allowed → fuse → 64 ≤ s.boot.transitions → Turned (.lcStateSet mb d) s c stNoRoom) ∧
    (allowed → (¬ fuse ∨ s.boot.transitions < 64) → ∃ t, Completes (.lcStateSet mb d) s (cmdWait c (.muzzle target) t) ∧
      t.km.muzzled = true ∧ t.boot.transition = some target ∧ t.boot.lc = s.boot.lc)) ∧
  (∀ (s : State) (mb : Nat) (c : Cmd) (d : DmaRead) (scheme a n : Nat), Taken 0x0801 mb s c → c.claim ≠ [] → a < 2 ^ 64 →
    (scheme = 1 ∧ n = 97 ∨ scheme = 2 ∧ n = 1952 ∨ scheme = 3 ∧ n = 2049) → dmaRange a n = true →
    c.payload = le 1 2 ++ le 1 scheme ++ zb 2 ++ le 4 n ++ le 8 a ++ zb 8 →
    s.boot.lc ≠ 1 ∨ s.boot.transition.isSome = true → Turned (.lcStateSet mb d) s c stWrongState) ∧
  (∀ (s : State) (mb : Nat) (c : Cmd) (d : DmaRead) (scheme a n : Nat) (key : Bytes), Taken 0x0801 mb s c → s.boot.lc = 1 → a < 2 ^ 64 →
    (scheme = 1 ∧ n = 97 ∨ scheme = 2 ∧ n = 1952 ∨ scheme = 3 ∧ n = 2049) → dmaRange a n = true → d = .data key → key.length = n →
    c.claim = key → c.payload = le 1 2 ++ le 1 scheme ++ zb 2 ++ le 4 n ++ le 8 a ++ zb 8 → s.boot.transition = none →
    if keyBlockOk scheme key then ∃ t, Completes (.lcStateSet mb d) s (cmdWait c (.muzzle 2) t) ∧ t.boot.transition = some 2
    else Turned (.lcStateSet mb d) s c stIntegrity) ∧
  (∀ (s : State), (s.boot.transition = none → Completes .lcTransitionCommit s s) ∧
    (s.km.clearing = true → Completes .lcTransitionCommit s s) ∧
    (∀ target, s.boot.transition = some target → cpRuns s = true → s.km.clearing = false →
      (s.hif.cmds.filter (fun c => waitsCommit c.wait)).length ≤ 1 → ∃ t, Completes .lcTransitionCommit s t ∧
      t.boot.lc = target ∧ t.boot.transition = none ∧ t.boot.coreReset = some (s.tsu.ns + 10000000) ∧
      t.boot.transitions = s.boot.transitions + (if s.boot.lc = 2 ∧ target = 3 ∨ s.boot.lc = 3 ∧ target = 2 then 1 else 0) ∧
      (target = 4 → t.boot.bbram.share = none) ∧
      (s.boot.lc = 2 → target = 2 → t.boot.bbram.share.isSome = true ∧ t.boot.bbram.recorded = some (s.boot.transitions, 2)) ∧
      (target = 3 → t.boot.bbram.share = s.boot.bbram.share) ∧ t.boot.svn = s.boot.svn ∧ t.boot.certs = s.boot.certs ∧
      (s.tamper.safe = [] → t.prot.level = levelDefault target ∧ t.tamper.lock = false) ∧
      (∀ c ∈ s.hif.cmds, c.wait = .muzzle target → s.boot.lc = 1 → t.boot.ownerScheme = u8 c.payload 1 ∧
        t.boot.ownerKey = pad (keyBlockLen (u8 c.payload 1)) c.claim))) ∧
  (∀ (s : State) (mb : Nat) (c : Cmd) (l : Nat), Taken 0x0802 mb s c → s.boot.lc ≠ 4 → l ≤ 2 → c.payload = le 1 l ++ zb 7 →
    (s.boot.lc = 1 → l = 2 → Turned (.lcDebugUnlock mb) s c stDenied) ∧
    (s.boot.lc ≠ 1 ∨ l ≠ 2 → l ≤ s.prot.level → AnswersOk (.lcDebugUnlock mb) s c [] (levelSet l 1 s)) ∧
    (s.boot.lc = 2 → l = 2 → s.prot.level < 2 → ∃ t, Completes (.lcDebugUnlock mb) s (cmdWait c (.debug 2) t) ∧ t.km.muzzled = true ∧
      t.prot.granting = true ∧ t.prot.level = s.prot.level) ∧
    (s.boot.lc ≠ 1 ∨ l ≠ 2 → s.boot.lc ≠ 2 ∨ l ≠ 2 → s.prot.level < l → AnswersOk (.lcDebugUnlock mb) s c [] (levelSet l 0 s))) ∧
  (∀ (s : State) (target : Nat), live s = true →
    (s.boot.lc = 0 → ∃ t, Completes (.factoryProvisioning 1) s t ∧ t.boot.lc = 1 ∧ (idKey t 0).isSome = true ∧ (idKey t 1).isSome = true ∧
      certOf t 0 = some (Config.idevCert 0) ∧ certOf t 1 = some (Config.idevCert 1)) ∧
    (s.boot.lc = 0 ∨ s.boot.lc = 1 → ∃ t, Completes (.factoryProvisioning 4) s t ∧ t.boot.lc = 4 ∧
      t.km.uds = none ∧ ∀ i, idKey t i = none) ∧
    (2 ≤ s.boot.lc ∨ target = 0 ∨ target = 2 ∨ target = 3 → Completes (.factoryProvisioning target) s s))

/-- Firmware update follows Tables 14-3 and 14-10 (R333, R346 to R349, R352): an image is accepted exactly when all checks pass; staging
starts in the slot that is not active and defers its answer; check 7 and the flash end it; ACTIVATE sets the trial in the directory;
CONFIRM blows fuses, revokes generations and makes the trial active, and one that a reset cuts leaves some of the fuses blown and the trial as it was;
ABORT invalidates the slot. The model's choices: the order of the checks (log entry 65), when the flash ends a staging (log entry 89), and the operand
of a cut (log entry 149). -/
def Obligations.FirmwareUpdateFollowsTable : Prop :=
  (∀ (b : Boot) (x : ImageSlot), let m := x.manifest
    (imageCause b x = 0 ↔ u32 m 0 = 0x4D460001 ∧ u16 m 12 = 0x3200 ∧ u8 m 14 ≤ 1 ∧ u8 m 15 ≤ 3 ∧ nbit b.revoked.toNat (u8 m 15) = false ∧
      verify 1 (Config.fwKey (u8 m 15) 1) (m.take 128) (sub m 128 96) = true ∧
      verify 2 (Config.fwKey (u8 m 15) 2) (m.take 128) (sub m 224 3309) = true ∧ b.svn ≤ u32 m 8 ∧ u32 m 8 ≤ 128 ∧
      1 ≤ u32 m 20 ∧ u32 m 20 ≤ 16773120 ∧ x.code.length = u32 m 20 ∧ sha384 x.code = sub m 24 48) ∧
    (u32 m 0 ≠ 0x4D460001 ∨ u16 m 12 ≠ 0x3200 ∨ 1 < u8 m 14 → imageCause b x = 1) ∧
    (u32 m 0 = 0x4D460001 → u16 m 12 = 0x3200 → u8 m 14 ≤ 1 → nbit b.revoked.toNat (u8 m 15) = true → imageCause b x = 2)) ∧
  (∀ (s : State) (mb : Nat) (c : Cmd) (d : DmaRead) (a n : Nat) (image : Bytes), Taken 0x0820 mb s c → s.boot.lc ≠ 4 → 4096 ≤ n → a < 2 ^ 64 →
    dmaRange a n = true → c.payload = le 8 a ++ le 4 n ++ zb 4 → d = .data image → image.length = n →
    let m := image.take 4096
    let cause := manifestCause s.boot m
    (s.boot.staging.st ≠ 0 ∨ s.boot.running.trial = true → Turned (.fwImageStage mb d) s c stWrongState) ∧
    (s.boot.staging.st = 0 → s.boot.running.trial = false → n ≠ 4096 + u32 m 20 → Turned (.fwImageStage mb d) s c stInvalid) ∧
    (s.boot.staging.st = 0 → s.boot.running.trial = false → n = 4096 + u32 m 20 →
      if cause = 5 then Turned (.fwImageStage mb d) s c stStale else if cause ≠ 0 then Turned (.fwImageStage mb d) s c stIntegrity
      else ∃ t, Answers (.fwImageStage mb d) s c ⟨stDeferred, 0, le 4 (u32 m 4) ++ le 4 (u32 m 8) ++ le 4 (u32 m 20) ++ zb 4⟩ t ∧
        t.boot.staging.st = 1 ∧ t.boot.staging.slot = 1 - (dirNow s.boot).active ∧ slotImage t.boot (1 - (dirNow s.boot).active) = .erased ∧
        t.boot.staged = true ∧ t.hif.nextDeferred = s.hif.nextDeferred + 1)) ∧
  (∀ (s : State) (flashOk : Bool), cpRuns s = true → s.boot.staging.st = 1 →
    let g := s.boot.staging
    let good := sha384 g.image.code = sub g.image.manifest 24 48
    (good → flashOk = true → ∃ t, Completes (.fwStageWriteDone flashOk) s t ∧ t.boot.staging = { g with st := 2 } ∧
      slotImage t.boot g.slot = g.image) ∧
    (¬ good ∨ flashOk = false → ∃ t, Completes (.fwStageWriteDone flashOk) s t ∧ t.boot = { s.boot with staging := { g with st := 3 } })) ∧
  (∀ (s : State) (mb : Nat) (c : Cmd) (act : Nat) (cut : Option (Nat × BitVec 4)), Taken 0x0821 mb s c → s.boot.lc ≠ 4 → act ≤ 2 → c.payload = le 1 act ++ zb 3 →
    (dirNow s.boot).seq + 1 < 2 ^ 32 →
    let d := dirNow s.boot
    let r := s.boot.running
    (act ≤ 1 → s.boot.staging.st ≠ 2 → Turned (.fwImageActivate mb cut) s c stWrongState) ∧
    (act ≤ 1 → s.boot.staging.st = 2 → ∃ t, AnswersOk (.fwImageActivate mb cut) s c [] t ∧ t.boot.staging.st = 0 ∧
      dirNow t.boot = { seq := d.seq + 1, active := d.active, trial := some s.boot.staging.slot, attempts := 1 } ∧
      t.boot.coreReset = (if act = 1 then some (s.tsu.ns + 10000000) else s.boot.coreReset)) ∧
    (act = 2 → r.trial = false → Turned (.fwImageActivate mb cut) s c stWrongState) ∧
    (act = 2 → r.trial = true → ∀ k g, ∃ t, Completes (.fwImageActivate mb (some (k, g))) s (cmdWait c .cut t) ∧ dirNow t.boot = d ∧
      t.boot.running = r ∧ t.boot.svn = Nat.max s.boot.svn (Nat.min r.svn (s.boot.svn + k)) ∧ ∀ i, i < 4 →
        t.boot.revoked.getLsbD i = (s.boot.revoked.getLsbD i || (nbit r.revoke i && decide (i ≠ r.keyGen) && g.getLsbD i))) ∧
    (act = 2 → r.trial = true → ∃ t, AnswersOk (.fwImageActivate mb none) s c [] t ∧ t.boot.running.trial = false ∧
      dirNow t.boot = { seq := d.seq + 1, active := r.image.getD 0, trial := none, attempts := 0 } ∧ t.boot.svn = Nat.max s.boot.svn r.svn ∧
      ∀ g, g < 4 → t.boot.revoked.getLsbD g = (s.boot.revoked.getLsbD g || (nbit r.revoke g && decide (g ≠ r.keyGen))))) ∧
  (∀ (s : State) (mb : Nat) (c : Cmd), Taken 0x0822 mb s c → s.boot.lc ≠ 4 → c.payload = [] →
    (s.boot.staging.st = 0 → Turned (.fwStageAbort mb) s c stWrongState) ∧
    (s.boot.staging.st ≠ 0 → ∃ t, AnswersOk (.fwStageAbort mb) s c [] t ∧ t.boot.staging = .none ∧
      slotImage t.boot s.boot.staging.slot = .erased))

/-- The reset inputs, the core reset, the boot sequence and the measurement registers (R317, R331, R334 to R341, R397, R425): a reset holds
the device with its registers at their reset values and keeps OTP, flash, BBRAM, the meter and the health history; a release boots; the
share is treated by the first case of R340; MEAS0 to MEAS3 end locked; POR_L rules over SYS_RST_L, which holds the device once POR_L is released, and the boot
is then that of a power-on; XSPI_RESET_L is low while a reset input is low and for 10 µs behind; an extension of a locked register is ignored. -/
def Obligations.ResetsAndBoot : Prop :=
  (∀ (s : State), let held := fun (t : State) => t.ports = State.reset.ports ∧ t.chan = State.reset.chan ∧ t.slices = State.reset.slices ∧
      t.km = State.reset.km ∧ t.tm = State.reset.tm ∧ t.tsu = State.reset.tsu ∧ t.pack = State.reset.pack ∧ t.evr = State.reset.evr ∧
      t.prot = { Prot.reset with level := levelDefault s.boot.lc } ∧ t.mtr = s.mtr ∧ t.cnt.hist0 = s.cnt.hist0 ∧ t.cnt.hist1 = s.cnt.hist1 ∧
      t.boot.handed = false ∧ t.boot.agent = 0 ∧ t.boot.meas = [] ∧ t.boot.lockLow = false ∧ t.boot.lc = s.boot.lc ∧ t.boot.svn = s.boot.svn ∧
      t.boot.transitions = s.boot.transitions ∧ t.boot.bbram = s.boot.bbram ∧ t.boot.dir0 = s.boot.dir0 ∧ t.boot.dir1 = s.boot.dir1 ∧
      t.boot.certs = s.boot.certs ∧ t.boot.staging = .none ∧ live t = false ∧ xspiResetL t = false
    (s.boot.por = true → Completes .porLAssert s s ∧ Completes .sysRstLAssert s { s with boot := { s.boot with sysRst := true } }) ∧
    (s.boot.por = false → ∃ t, Completes .porLAssert s t ∧ t.boot.por = true ∧ t.boot.cold = true ∧ held t) ∧
    (s.boot.por = false → s.boot.sysRst = false → ∃ t, Completes .sysRstLAssert s t ∧ t.boot.sysRst = true ∧ held t)) ∧
  (∀ (s : State), let b := s.boot
    let recorded := some (b.transitions, b.lc)
    let boots := fun (i : Instr) => ∃ t, Completes i s t ∧ live t = true ∧ t.boot.cold = false ∧
      (∀ k, xspiResetL { t with boot := { t.boot with pinClk := k } } = decide (8000 ≤ k)) ∧ t.boot.pinClk = 0 ∧ t.boot.handed = true ∧ t.boot.lockLow = true ∧ t.boot.lcView = b.lc ∧
      t.boot.recovery = t.boot.running.image.isNone ∧ (b.lc = 4 → b.running.image = none → t.boot.recovery = true) ∧
      (∀ n, n < 8 → (fwlRegion t n).lock = true) ∧ t.prot.window = s.prot.window ∧
      (b.lc = 4 → t.boot.bbram = b.bbram ∧ t.km.uds = none) ∧
      (b.lc = 2 → b.bbram.aonReset = true → t.boot.zeroized = true ∧ t.boot.bbram.share = none ∧ t.boot.bbram.recorded = recorded ∧
        t.boot.bbram.aonReset = false ∧ t.km.uds = none) ∧
      (b.lc < 4 → b.lc ≠ 2 → b.bbram.aonReset = true → t.boot.zeroized = b.zeroized ∧ t.boot.bbram.share.isSome = true ∧
        t.boot.bbram.recorded = recorded) ∧
      (b.lc < 4 → b.bbram.aonReset = false → b.bbram.recorded ≠ recorded → t.boot.bbram.share.isSome = true ∧
        t.boot.bbram.recorded = recorded ∧ t.boot.bbram.counter = 0) ∧
      (b.lc = 2 → b.bbram.aonReset = false → b.bbram.recorded = recorded → b.bbram.share = none → t.boot.zeroized = true ∧ t.km.uds = none) ∧
      (b.lc < 4 → b.bbram.aonReset = false → b.bbram.recorded = recorded → b.bbram.share.isSome = true → t.boot.bbram = b.bbram ∧
        t.boot.zeroized = b.zeroized ∧ t.km.uds.isSome = true)
    (b.por = true → b.sysRst = false → s.tamper.onBattery = false → s.tamper.aonDown = false → boots .porLRelease) ∧
    (b.por = true → b.sysRst = true → s.tamper.onBattery = false → s.tamper.aonDown = false → Completes .porLRelease s
      { s with boot := { b with por := false, porClk := 0, pinClk := 0 } }) ∧
    (b.por = false → b.sysRst = true → boots .sysRstLRelease) ∧
    (b.por = true → b.sysRst = true → Completes .sysRstLRelease s { s with boot := { b with sysRst := false, pinClk := 0 } }) ∧
    (b.por = false → b.sysRst = false → Completes .porLRelease s s ∧ Completes .sysRstLRelease s s) ∧
    (∀ r, b.coreReset = some r → live s = true →
      (reached s.tsu.ns r = true → Completes .coreReset s (bootRun 2 (resetState true s))) ∧
      (reached s.tsu.ns r = false → Completes .coreReset s s))) ∧
  (∀ (s : State) (n : Nat), cpRuns s = true → n < 8 →
    Completes .measLockLow s { s with boot := { s.boot with lockLow := true } } ∧
    (n < 4 → s.boot.lockLow = true → Completes (.measExtend n) s { s with boot := { s.boot with
      measIndex := BitVec.ofNat 3 n, measIgnored := true } }) ∧
    (4 ≤ n ∨ s.boot.lockLow = false → s.boot.measBusy = none → Completes (.measExtend n) s { s with boot := { s.boot with
      measIndex := BitVec.ofNat 3 n, measBusy := some (n, measData s.boot) } }) ∧
    (∀ w, s.boot.measBusy = some (n, w) → Completes .measExtendComplete s { s with boot := { s.boot with
      meas := tset [] s.boot.meas n (sha384 (pad 48 (tget [] s.boot.meas n) ++ pad 48 w)), measBusy := none } }))

/-! ### The security monitors (15_tamper.md) -/

/-- A detection latches its alarm, counts it, records it and acts by its class (R353, R354, R358 to R360): from BLOCK_TRAFFIC on the
ports are blocked, from ZEROIZE on MUZZLE is asserted, RETIRE retires a device in FIELD or RECOVERY; on battery only the record, the
latch, the count and the share change; a sampled alarm is detected at its second failing sample in a row (R357), and a loop's sample drives a fresh
word of the loop generator and fails where the wire does not return it (R355); TEMP_LOW is the AON sensor's on battery alone (Table 15-1); CLK_AON is not evaluated while the RTC, run on to now, is below 65,536 cycles, its 2 s from the
first power-up (R424; log entry 128); a shadow mismatch puts the
register at its safe value (R365); loss of AON power, with or without a cell, clears what R360 and R363 say (R422). The model's choices: what an alarm does
where the tables are silent (log entry 90), and the loop's wire as the sample's operand (log entry 148). -/
def Obligations.AlarmsActByClass : Prop :=
  (∀ (s : State) (a : Nat) (param : W64), a < 24 → s.tamper.aonDown = false → monitored s a = true →
    (a = 9 → 65536 ≤ (rtcRun s).tamper.rtc) →
    let cls := alarmClass s a
    let seen := fun (t : State) => t.tamper.active = s.tamper.active ||| (1#32 <<< a) ∧ t.tamper.latched = s.tamper.latched ||| (1#32 <<< a) ∧
      tget 0 t.tamper.cnt a = (if tget 0 s.tamper.cnt a = 0xFFFFFFFF then 0xFFFFFFFF else tget 0 s.tamper.cnt a + 1) ∧
      t.tamper.severity = Nat.max s.tamper.severity cls ∧
      (s.tamper.evd.stopped = false → s.tamper.evd.recs.length < 126 → ∃ r rest, t.tamper.evd.recs = s.tamper.evd.recs ++ r :: rest ∧
        r.code = 0x9000 + a ∧ r.cls = cls ∧ r.seq = s.tamper.evd.next ∧ r.param = param)
    (s.tamper.onBattery = false → live s = true → ∃ t, Completes (.alarmDetected a param) s t ∧ seen t ∧ t.hif.irqStatus.getLsbD 10 = true ∧
      (3 ≤ cls → blockCause t = true) ∧ (4 ≤ cls → t.km.muzzled = true) ∧ (cls = 5 → t.boot.bbram.share = none) ∧
      (4 ≤ cls → (s.tamper.cfg.alarms.getD a (0, false)).2 = true → t.boot.bbram.share = none) ∧
      (cls < 4 → t.boot.bbram = s.boot.bbram ∧ t.km.muzzled = s.km.muzzled) ∧
      (cls = 5 → s.boot.lc = 2 ∨ s.boot.lc = 3 → t.boot.lc = 4 ∧ t.boot.coreReset = some (s.tsu.ns + 10000000)) ∧
      (cls ≠ 5 ∨ s.boot.lc < 2 → t.boot.lc = s.boot.lc) ∧ (a = 21 → t.boot.agent = 3) ∧ (a = 13 → t.slices.entropyFail = true)) ∧
    (s.tamper.onBattery = true → aonAlarm a = false → Completes (.alarmDetected a param) s s) ∧
    (s.tamper.onBattery = true → aonAlarm a = true → ∃ t, Completes (.alarmDetected a param) s t ∧ seen t ∧
      t = { s with tamper := t.tamper, boot := { s.boot with bbram := t.boot.bbram }, free := t.free } ∧
      t.boot.bbram = { s.boot.bbram with share := if 4 ≤ cls then none else s.boot.bbram.share })) ∧
  (∀ (s : State) (param : W64), s.tamper.aonDown = false → ∃ t, Completes (.alarmDetected 9 param) s t ∧
    ((rtcRun s).tamper.rtc < 65536 → t = rtcRun s)) ∧
  (∀ (s : State) (a : Nat), a < 24 → a ≠ 20 ∨ s.tamper.safe = [] → Completes (.alarmConditionEnded a) s
    { s with tamper := { s.tamper with active := s.tamper.active &&& ~~~(1#32 <<< a) } }) ∧
  (∀ (s : State), s.tamper.onBattery = false → s.tamper.aonDown = false → s.tamper.active.getLsbD 13 = false → live s = true →
    ∃ t, Completes .entropyHealthFail s t ∧ t.tamper.latched.getLsbD 13 = true ∧ t.slices.entropyFail = true) ∧
  (∀ (s : State) (a : Nat) (fails : Bool) (v : Nat), a ∈ [6, 11, 12, 14, 15, 16, 17, 18] → s.tamper.aonDown = false → monitored s a = true →
    let word := Config.loopWord (Config.loopNext s.tamper.loopSeed)
    let wordOf := fun (m : Nat) => if m = a - 14 then word else if (loopsInForce s).getLsbD m then tget 0 s.tamper.loopOut m else 0
    let wire := if v = 0 then word else if v = 1 then 0 else if v < 6 then wordOf (v - 2) else BitVec.ofNat 8 (v - 6)
    let bad := if a = 6 then v % 65536 < 2500
      else if a = 11 then signed 2 (v % 65536) < (if s.boot.gradeE then -440 else -200)
      else if 14 ≤ a ∧ a ≤ 17 then wire ≠ word else fails = true
    (a = 11 → s.tamper.onBattery = false → Completes (.tamperSample (.item a 0) fails v) s
      { s with tamper := { s.tamper with aonTemp := BitVec.ofNat 16 v } }) ∧
    (s.tamper.active.getLsbD a = false → (a = 11 → s.tamper.onBattery = true) → ∃ t, Completes (.tamperSample (.item a 0) fails v) s t ∧
      (14 ≤ a → a ≤ 17 → t.tamper.loopSeed = Config.loopNext s.tamper.loopSeed ∧ tget 0 t.tamper.loopOut (a - 14) = word) ∧
      (¬ bad → a ∉ t.tamper.failing ∧ t.tamper.latched = s.tamper.latched) ∧
      (bad → a ∉ s.tamper.failing → a ∈ t.tamper.failing ∧ t.tamper.latched = s.tamper.latched ∧ t.km = s.km) ∧
      (bad → a ∈ s.tamper.failing → t.tamper.latched.getLsbD a = true))) ∧
  (∀ (s : State) (still : Bool), live s = true → s.tamper.aonDown = false → s.tamper.safe = [] →
    let held := fun (g i : Nat) (p : State → Prop) => ∃ t, Completes (.shadowMismatch g i still) s t ∧ p t ∧ t.tamper.latched.getLsbD 20 = true
    (∀ i, i < 24 → held 1 i (fun t => alarmClass t i = alarmTop i) ∧ held 3 i (fun t => t.tamper.latched.getLsbD i = true)) ∧
    held 1 24 (fun t => loopsInForce t = 0xF ∧ lidInForce t = true) ∧ held 2 0 (fun t => t.tamper.lock = true) ∧
    held 4 0 (fun t => t.prot.level = 0) ∧ (∀ i, i < 32 → held 5 i (fun t => (fwlRegion t i).lock = true ∧ (fwlRegion t i).perm = 0)) ∧
    held 5 32 (fun t => t.prot.mpuLock = true) ∧ held 6 0 (fun t => t.boot.lockLow = true) ∧ held 7 0 (fun t => t.km.muzzled = true) ∧
    held 8 0 (fun t => still = true → t.tamper.latched.getLsbD 22 = true)) ∧
  (∀ (s : State) (m : W32), cpRuns s = true → Completes .secLockSet s { s with tamper := { s.tamper with lock := true } } ∧
    (s.tamper.safe = [] → Completes (.secLatchedClear m) s { s with tamper := { s.tamper with
      latched := s.tamper.latched &&& ~~~(m &&& s.tamper.latched &&& ~~~s.tamper.active) } })) ∧
  (∀ (s : State), s.tamper.aonDown = false →
    (s.tamper.onBattery = false → ∃ t, Completes .powerToBattery s t ∧ t.tamper.onBattery = true ∧ t.boot.por = true ∧
      t.tamper.latched = s.tamper.latched ∧ t.tamper.cfg = s.tamper.cfg ∧ t.tamper.lock = s.tamper.lock ∧ t.tamper.cnt = s.tamper.cnt ∧
      t.tamper.evd = s.tamper.evd ∧ t.boot.bbram = s.boot.bbram ∧ t.km = State.reset.km) ∧
    (s.tamper.onBattery = true → Completes .powerFromBattery s { s with tamper := { s.tamper with
      onBattery := false, active := s.tamper.active &&& ~~~(1#32 <<< 11), failing := s.tamper.failing.filter (· != 11) } }) ∧
    (∃ t, Completes .aonPowerLoss s t ∧ (s.tamper.onBattery = false → t.boot.por = true ∧ t.km = State.reset.km) ∧ t.tamper.aonDown = true ∧ t.tamper.cfg = .reset ∧ t.tamper.lock = false ∧ t.tamper.latched = 0 ∧
        t.tamper.evd.recs = [] ∧ t.tamper.lostLog = true ∧ t.boot.bbram.share = none ∧ t.boot.bbram.recorded = none)) ∧
  (∀ (s : State), s.tamper.aonDown = true → Completes .aonPowerUp s { s with
    tamper := { s.tamper with aonDown := false }, boot := { s.boot with bbram := { s.boot.bbram with aonReset := true } } })

/-- The TMP_* and EVD_* commands answer as Tables 15-7, 15-10 and 15-11 say (R362 to R364, R368, R371): a locked configuration is not
changed, nor one with an entry out of range; clearing leaves the bits of ACTIVE alarms; an export carries the log, signed, and TRUNCATE
then removes it and records the last sequence number. A register held at its safe value keeps its configuration (R365, R369). The model's
choices: log entry 90. -/
def Obligations.TamperCommandsAnswer : Prop :=
  ∀ (s : State) (mb : Nat) (c : Cmd) (m a scheme : Nat) (ldev cut : Bool) (cfg : TmpCfg)
    (reads : List (Nat × Nat)),
    let t := s.tamper
    let e := t.evd
    let header := le 4 e.recs.length ++ le64 s.boot.serial ++ le 4 ((e.recs.head?.map (·.seq)).getD 0) ++ le 4 e.dropped ++ pad 8 e.anchor
    (Taken 0x0900 mb s c → c.payload = [] → AnswersOk (.tmpStatusGet mb) s c (le 4 t.active.toNat ++ le 4 t.latched.toNat ++ le 1 t.severity ++
      le 1 (mask [t.lock, blockCause s, s.km.muzzled]) ++ le 2 t.vbat ++ le 2 t.aonTemp.toNat ++ zb 2 ++ le64 s.tsu.ns ++
      (List.range 8).flatMap (fun i => le 2 (tget 0 t.sensors i).toNat) ++ le 1 t.loopsFailing.toNat ++ bit8 t.lidOpen ++ zb 6 ++
      (List.range 32).flatMap (fun i => le 4 (tget 0 t.cnt i).toNat)) s) ∧
    (Taken 0x0901 mb s c → s.boot.lc < 3 → c.payload = [] → AnswersOk (.tmpConfigGet mb) s c
      ((List.range 24).flatMap (fun i => le 1 (alarmClass s i) ++ bit8 (t.cfg.alarms.getD i (0, false)).2) ++ zb 16 ++
        le 1 (loopsInForce s).toNat ++ bit8 (lidInForce s) ++ zb 6 ++ bit8 t.lock ++ zb 7) s) ∧
    (Taken 0x0902 mb s c → s.boot.lc < 3 → cfg.alarms.length = 24 → (∀ i, i < 24 → (cfg.alarms.getD i (0, false)).1 < 256) →
      c.payload = cfg.alarms.flatMap (fun x => le 1 x.1 ++ bit8 x.2) ++ zb 16 ++ le 1 cfg.loops.toNat ++ bit8 cfg.lid ++ zb 6 →
      let allowed := ∀ i, i < 24 → alarmLow i ≤ (cfg.alarms.getD i (0, false)).1 ∧ (cfg.alarms.getD i (0, false)).1 ≤ alarmTop i
      (¬ allowed → Turned (.tmpConfigSet mb) s c stInvalid) ∧ (allowed → t.lock = true → Turned (.tmpConfigSet mb) s c stLocked) ∧
      (allowed → t.lock = false → ∃ u, AnswersOk (.tmpConfigSet mb) s c [] u ∧
        u.tamper.cfg = { alarms := (List.range 24).map (fun i => (if (1, i) ∈ t.safe then t.cfg else cfg).alarms.getD i (0, false))
                         loops := (if (1, 24) ∈ t.safe then t.cfg else cfg).loops, lid := (if (1, 24) ∈ t.safe then t.cfg else cfg).lid } ∧ u.tamper.latched = t.latched ∧
        u.tamper.lock = false)) ∧
    (Taken 0x0903 mb s c → s.boot.lc < 3 → c.payload = [] → (t.lock = true → AnswersOk (.tmpConfigLock mb) s c [] s) ∧
      (t.lock = false → ∃ u, AnswersOk (.tmpConfigLock mb) s c [] u ∧ u.tamper.lock = true ∧ u.tamper.cfg = t.cfg)) ∧
    (Taken 0x0904 mb s c → s.boot.lc < 3 → t.safe = [] → m < 2 ^ 24 → c.payload = le 4 m ++ zb 4 →
      let n := BitVec.ofNat 32 m &&& t.latched &&& ~~~t.active
      let still := BitVec.ofNat 32 m &&& t.active
      ∃ u, Answers (.tmpAlarmClear mb) s c ⟨if still = 0 then stOk else stPartial, 0, le 4 n.toNat ++ le 4 still.toNat⟩ u ∧
        u.tamper.latched = t.latched &&& ~~~n ∧ u.tamper.active = t.active ∧
        (e.stopped = false → e.recs.length < 126 → t.onBattery = false → ∃ r, u.tamper.evd.recs = e.recs ++ [r] ∧ r.code = 0x9040 ∧
          r.param = BitVec.ofNat 64 n.toNat)) ∧
    (Taken 0x0910 mb s c → c.payload = [] → AnswersOk (.evdStatusGet mb) s c (header ++ le 4 e.next ++ pad 8 e.head ++ zb 8) s) ∧
    (Taken 0x0911 mb s c → s.boot.lc ≠ 4 → s.km.muzzled = true → a < 2 ^ 64 → a % 8 = 0 → 1 ≤ scheme → scheme ≤ 3 →
      c.payload = le 8 a ++ bit8 ldev ++ le 1 scheme ++ bit8 cut ++ zb 5 → Turned (.evdLogExport mb reads) s c stWrongState) ∧
    (Taken 0x0911 mb s c → s.boot.lc ≠ 4 → s.km.muzzled = false → noLdev s ldev scheme = false → a < 2 ^ 64 → a % 8 = 0 → 1 ≤ scheme →
      scheme ≤ 3 → c.payload = le 8 a ++ bit8 ldev ++ le 1 scheme ++ bit8 cut ++ zb 5 →
      let n := e.recs.length
      let sig := if scheme = 1 then 96 else if scheme = 2 then 3309 else 3405
      dmaRange a (64 + 32 * n + sig) = true → ∃ out u, AnswersOk (.evdLogExport mb []) s c (le 4 n ++ le 4 out.length) u ∧
        out.length = 64 + 32 * n + sig ∧ sub out 0 32 = le 4 0x45560001 ++ header ∧ sub out 32 8 = le64 s.tsu.ns ∧ u8 out 57 = scheme ∧
        sub out 64 (32 * n) = e.recs.flatMap (fun r => evdHead r ++ pad 8 r.chain) ∧
        out.drop (64 + 32 * n) = idSign ldev scheme (ascii "PK3200-EVIDENCE" ++ out.take (64 + 32 * n)) s ∧
        u.hif = (dmaPut a out s).hif ∧ u = { s with hif := u.hif, tamper := u.tamper, evr := u.evr, free := u.free } ∧
        (cut = false → u.tamper.evd = e) ∧
        (cut = true → e.stopped = false → u.tamper.evd.dropped = 0 ∧
          u.tamper.evd.anchor = (e.recs.getLast?.map (·.chain)).getD e.anchor ∧ ∃ r, u.tamper.evd.recs = [r] ∧ r.code = 0x9043 ∧
          r.param = BitVec.ofNat 64 ((e.recs.getLast?.map (·.seq)).getD 0)))

/-! ### The event recorder (16_event_recorder.md) -/

/-- The recorder takes one event at a time (R372, R374 to R381): it folds, records or suppresses it; losses at its inputs are reported first;
the oldest records make room; cursors below the oldest record are overtaken; the summary tick closes the newest record and writes one
summary a code; the firmware takes the record at cursor 0 and forwards it if its chapter says so; what cursor 0 has skipped while the CP stood still it first counts as lost
(R378); a host cursor moves by its ADV. The model's choices: what an arrival and a forwarding do together, and how losses are counted (log entry 87). -/
def Obligations.RecorderTakesEvents : Prop :=
  (∀ (s : State) (fw : Bool), live s = true →
    let queue := if fw then s.evr.fwQueue else s.evr.hwFifo
    let used := fun (rs : List Rec) => (rs.map Rec.size).sum
    (queue = [] → Completes (.evrEventArrival fw) s s) ∧
    (∀ e rest, queue = e :: rest → s.evr.lostSince = 0 → ∃ t, Completes (.evrEventArrival fw) s t ∧
      let left := if fw then t.evr.fwQueue else t.evr.hwFifo
      rest <+: left ∧ (s.evr.skipped = 0 → evrOldest t.evr ≤ s.evr.cur0.seq → left = rest) ∧
      let folds := ∃ r, s.evr.ring.getLast? = some r ∧ r.opn = true ∧ r.code = e.code ∧ r.params = e.params ∧ r.rep < 65535
      let record : Rec := { code := e.code, params := e.params.take 52, opn := true, notSet := e.notSet, fw := fw, rep := 0, seq := s.evr.next,
                            first := e.tod, last := e.tod }
      let moved := fun (c d : Cursor) => d = (if c.seq < evrOldest t.evr then
        { seq := evrOldest t.evr, lost := true, lostCnt := c.lostCnt + BitVec.ofNat 64 (evrOldest t.evr - c.seq) } else c)
      let recorded := t.evr.next = s.evr.next + 1 ∧ t.evr.foldCnt = s.evr.foldCnt ∧ t.evr.suppressCnt = s.evr.suppressCnt ∧
        (∃ kept removed, s.evr.ring = removed ++ kept ∧ t.evr.ring = kept.map (fun r => { r with opn := false }) ++ [record] ∧
          (used s.evr.ring + record.size ≤ 262144 → removed = []) ∧
          used kept + record.size ≤ 262144 ∧ (removed ≠ [] → t.evr.wrapped = true)) ∧
        moved s.evr.cur0 t.evr.cur0 ∧ moved s.evr.cur1 t.evr.cur1 ∧ moved s.evr.cur2 t.evr.cur2 ∧
        (thrOver t.evr = true → s.evr.thrSignalled = false → t.hif.irqStatus.getLsbD 9 = true) ∧
        (s.evr.cur1.seq < evrOldest t.evr → t.hif.irqStatus.getLsbD 9 = true)
      (folds → ∃ older r, s.evr.ring = older ++ [r] ∧ t.evr.ring = older ++ [{ r with rep := r.rep + 1, last := e.tod }] ∧
        t.evr.foldCnt = s.evr.foldCnt + 1 ∧ t.evr.next = s.evr.next ∧ t.evr.missing = s.evr.missing) ∧
      (¬ folds → evExempt e.code = true → recorded ∧ t.evr.missing = s.evr.missing) ∧
      (¬ folds → evExempt e.code = false → 0 < evTokens s.evr e.code → recorded ∧
        tget 0 t.evr.missing e.code = tget 0 s.evr.missing e.code + 1) ∧
      (¬ folds → evExempt e.code = false → evTokens s.evr e.code = 0 → t.evr.ring = s.evr.ring ∧ t.evr.next = s.evr.next ∧
        t.evr.suppressCnt = s.evr.suppressCnt + 1 ∧
        let x := tget .none s.evr.supp e.code
        tget .none t.evr.supp e.code = { count := if x.count < 2 ^ 32 - 1 then x.count + 1 else x.count
                                         first := if x.count = 0 then e.tod else x.first, last := e.tod })) ∧
    (∀ e rest, queue = e :: rest → s.evr.lostSince ≠ 0 → s.evr.skipped = 0 → evrOldest s.evr ≤ s.evr.cur0.seq → used s.evr.ring + 40 + (32 + (e.params.length + 7) / 8 * 8) ≤ 262144 →
      ∃ t r newer, Completes (.evrEventArrival fw) s t ∧ t.evr.lostSince = 0 ∧
        t.evr.ring = s.evr.ring.map (fun r => { r with opn := false }) ++ r :: newer ∧ r.code = 2 ∧ r.seq = s.evr.next ∧
        r.params = le 4 s.evr.lostSince ++ zb 4)) ∧
  (∀ (s : State) (code : Nat), live s = true → Completes (.evrTokenRefill code) s { s with evr := { s.evr with
      missing := tset 0 s.evr.missing code (tget 0 s.evr.missing code - 1) } }) ∧
  (∀ (s : State), live s = true → (s.evr.ring.map Rec.size).sum + 56 * s.evr.supp.length ≤ 262144 → ∃ t made,
    Completes .evrSummaryTick s t ∧ t.evr.supp = [] ∧ t.evr.ring = s.evr.ring.map (fun r => { r with opn := false }) ++ made ∧
    made.map (fun r => (r.code, r.params)) =
      s.evr.supp.map (fun x => (1, le 2 x.1 ++ zb 2 ++ le 4 x.2.count ++ le64 x.2.first ++ le64 x.2.last))) ∧
  (∀ (s : State), fwRuns s = true →
    let next := { s with evr := { s.evr with cur0 := { s.evr.cur0 with seq := s.evr.cur0.seq + 1 } } }
    (s.evr.skipped = 0 → s.evr.ring.find? (fun r => r.seq == s.evr.cur0.seq) = none → Completes .evrForward s s) ∧
    (s.evr.skipped ≠ 0 → s.evr.ring.find? (fun r => r.seq == s.evr.cur0.seq) = none → ∃ t, Completes .evrForward s t ∧
      t.evr.skipped = 0 ∧ t.evr.cur0 = s.evr.cur0 ∧ t.hif.nqLostCnt = s.hif.nqLostCnt + BitVec.ofNat 64 s.evr.skipped) ∧
    ∀ r, s.evr.skipped = 0 → s.evr.ring.find? (fun r => r.seq == s.evr.cur0.seq) = some r →
      (evForwards s r = false → Completes .evrForward s next) ∧
      (evForwards s r = true → r.code ≠ 0xB004 ∨ s.hif.nqEpisode = none →
        Completes .evrForward s (notify 2 (le 2 r.code ++ le 2 r.params.length ++ r.params) next))) ∧
  (∀ (s : State) (c count : Nat), live s = true → c = 1 ∨ c = 2 → count < 65536 →
    let a := 0x400D0108 + 0x20 * (c - 1)
    let dest := Nat.min ((cursorOf s.evr c).seq + count) s.evr.next
    (fwlJudge s 2 a 4 1 ≠ 0 → Completes (.evrCursorAdvance c count) s (fwlDeny 2 a 4 1 (fwlJudge s 2 a 4 1) (barSeen true s))) ∧
    (fwlJudge s 2 a 4 1 = 0 → ∃ t, Completes (.evrCursorAdvance c count) s t ∧ t.evr.ring = s.evr.ring ∧
      (evrOldest s.evr ≤ dest → (cursorOf t.evr c).seq = dest ∧ (cursorOf t.evr c).lost = (cursorOf s.evr c).lost) ∧
      (dest < evrOldest s.evr → (cursorOf t.evr c).seq = evrOldest s.evr ∧ (cursorOf t.evr c).lost = true)))

/-- The EVR_* commands answer as Table 16-6 says (R375, R382, R383): EVR_CONFIG_SET sets the areas' limits and fills every bucket;
EVR_STATUS_GET reads the sequences and counts; an entry of EVR_RATE_SET sets or removes a code's limit, at most 64 of them; EVR_CURSOR_SET
moves a host cursor and clears LOST. That a code whose limit is set or removed has a full bucket is the model's choice (log entry 87). -/
def Obligations.RecorderCommandsAnswer : Prop :=
  (∀ (s : State) (mb : Nat) (c : Cmd) (rates : List (Nat × Nat)) (thresh : Nat), Taken 0x0B00 mb s c → rates.length = 16 →
    (∀ x ∈ rates, x.1 < 65536 ∧ x.2 < 65536) → thresh < 65536 →
    c.payload = rates.flatMap (fun x => le 2 x.1 ++ le 2 x.2) ++ le 2 thresh ++ zb 6 →
    let allowed := ∀ x ∈ rates, x.1 ≤ 1024 ∧ 1 ≤ x.2 ∧ x.2 ≤ 1000
    (¬ allowed → Turned (.evrConfigSet mb) s c stInvalid) ∧
    (allowed → ∃ t, AnswersOk (.evrConfigSet mb) s c [] t ∧ t = { s with evr := t.evr } ∧ t.evr.thresh = BitVec.ofNat 16 thresh ∧
      t.evr.missing = [] ∧ t.evr.overrides = s.evr.overrides ∧ t.evr.ring = s.evr.ring ∧
      ∀ a, a < 16 → tget (64, 100) t.evr.areas a = rates.getD a (0, 0))) ∧
  (∀ (s : State) (mb : Nat) (c : Cmd), Taken 0x0B01 mb s c → c.payload = [] → let e := s.evr
    AnswersOk (.evrStatusGet mb) s c (le 8 (match e.ring with | r :: _ => r.seq | [] => e.next) ++ le 8 e.next ++ le 8 e.cur0.seq ++
      le 8 e.cur1.seq ++ le 8 e.cur2.seq ++ le64 e.cur0.lostCnt ++ le64 e.cur1.lostCnt ++ le64 e.cur2.lostCnt ++ le64 e.inputLostCnt ++
      le64 e.foldCnt ++ le64 e.suppressCnt ++ le 4 (e.ring.map Rec.size).sum ++ le 4 e.overrides.length) s) ∧
  (∀ (s : State) (code b r : Nat), code < 65536 → b < 65536 → r < 65536 →
    let entry := le 2 code ++ le 2 b ++ le 2 r ++ zb 2
    let others := s.evr.overrides.filter (fun x => x.1 != code)
    (evExempt code = true ∨ evDefined code = false → rateEntry entry s = (stInvalid, s)) ∧
    (evExempt code = false → evDefined code = true →
      (b = 0xFFFF → (rateEntry entry s).1 = stOk ∧ (rateEntry entry s).2.evr.overrides = others) ∧
      (b ≠ 0xFFFF → 1024 < b ∨ r = 0 ∨ 1000 < r → rateEntry entry s = (stInvalid, s)) ∧
      (b ≤ 1024 → 1 ≤ r → r ≤ 1000 → 64 ≤ others.length → rateEntry entry s = (stNoRoom, s)) ∧
      (b ≤ 1024 → 1 ≤ r → r ≤ 1000 → others.length < 64 → (rateEntry entry s).1 = stOk ∧
        let t := (rateEntry entry s).2
        t = { s with evr := { s.evr with overrides := t.evr.overrides, missing := t.evr.missing } } ∧
        evRate t.evr code = (b, r) ∧ evTokens t.evr code = b ∧ ∀ x, x ≠ code → evRate t.evr x = evRate s.evr x))) ∧
  (∀ (s : State) (mb : Nat) (c : Cmd) (n mode q : Nat), Taken 0x0B03 mb s c → n < 256 → mode < 256 → q < 2 ^ 64 →
    c.payload = le 1 n ++ le 1 mode ++ zb 6 ++ le 8 q →
    let v := if mode = 0 then evrOldest s.evr else if mode = 1 then s.evr.next else q
    (n = 0 ∨ 2 < n ∨ 2 < mode ∨ (mode = 2 ∧ s.evr.next ≤ q) → Turned (.evrCursorSet mb) s c stInvalid) ∧
    (n = 1 ∨ n = 2 → mode ≤ 2 → (mode = 2 → q < s.evr.next) →
      (v < evrOldest s.evr → Turned (.evrCursorSet mb) s c stNotFound) ∧
      (evrOldest s.evr ≤ v → ∃ t, AnswersOk (.evrCursorSet mb) s c (le 8 v) t ∧ (cursorOf t.evr n).seq = v ∧ (cursorOf t.evr n).lost = false ∧
        cursorOf t.evr (3 - n) = cursorOf s.evr (3 - n) ∧ t.evr.ring = s.evr.ring)))

/-! ### Counters, thresholds and health (17_counters_health.md) -/

/-- Performance counters, sweeps and thresholds follow R384 to R392 and R401: a wrap sets OVF and carries into a chained partner; a write
wins and discards a threshold's delta; a host sweep latches its first entry at its start and the rest one after another, 0 for an ID that names no counter, a
read of the firmware behind it; a threshold raises its event once an episode. An enabled counter whose occurrences the rows show adds them, in EDGE 1 where the
cycle before had none, sets OVF past 2^32 and carries; one of cycles or of a condition counts the cycles of its block's clock that pass. Sweeps and thresholds
are stated over STAT identifiers: what another PERF, PAIR or SLOT counter has counted is open in part (log entries 58, 59). The model's choices: log entries 33
(when a sweep latches), 93 (overlapping reads), 147 (the conditions). -/
def Obligations.CountersFollowRules : Prop :=
  (∀ (s : State) (k n : Nat), live s = true → (1 ≤ k ∧ k ≤ 11) ∨ k = 15 → n < 8 →
    ((pmcOf s k n).enable = false → Completes (.pmcWrap k n) s s) ∧
    ((pmcOf s k n).enable = true → ∃ t, Completes (.pmcWrap k n) s t ∧ t = { s with cnt := { s.cnt with pmc := t.cnt.pmc } } ∧
      pmcOf t k n = { pmcOf s k n with value := 0, ovf := true, base := (pmcTotal s k (pmcOf s k n)).getD 0, seen := none } ∧
      (n % 2 = 0 → (pmcOf s k (n + 1)).chain = true → (pmcOf s k (n + 1)).enable = true → (pmcOf t k (n + 1)).value = (pmcOf s k (n + 1)).value + 1) ∧
      (n % 2 = 1 ∨ (pmcOf s k (n + 1)).chain = false → pmcOf t k (n + 1) = pmcOf s k (n + 1)))) ∧
  (∀ (s : State) (k n : Nat) (v : W32) (wraps : Bool), cpRuns s = true → (1 ≤ k ∧ k ≤ 11) ∨ k = 15 → n < 8 →
    ∃ t, Completes (.pmcValueWrite k n v wraps) s t ∧
      pmcOf t k n = { pmcOf s k n with
        value := v, ovf := (pmcOf (pmcSync k n s) k n).ovf || (wraps && (pmcOf s k n).enable)
        base := (pmcTotal s k (pmcOf s k n)).getD 0, seen := none } ∧
      ∀ slot x, tget none s.cnt.thr slot = some x → x.id.toNat = k * 2 ^ 24 + n → ∃ y, tget none t.cnt.thr slot = some y ∧ y.discard = true) ∧
  (∀ (s : State) (k n : Nat) (t : W64), let x := pmcOf s k n
    n < 8 → x.enable = true → x.chain = false → pmcTotal s k x = some t →
    let more := if x.edge = false then (t - x.base).toNat else if t ≠ x.base ∧ pmcNext k s.cnt.tclk x.seen = false then 1 else 0
    let u := pmcSettle k n s
    let y := pmcOf s k (n + 1)
    pmcOf u k n = { x with value := BitVec.ofNat 32 (x.value.toNat + more), ovf := x.ovf || decide (2 ^ 32 ≤ x.value.toNat + more)
                           base := t, seen := if t = x.base then x.seen else some s.cnt.tclk } ∧ u = { s with cnt := { s.cnt with pmc := u.cnt.pmc } } ∧
    (n % 2 = 0 → y.chain = true → y.enable = true →
      (pmcOf u k (n + 1)).value = y.value + BitVec.ofNat 32 ((x.value.toNat + more) / 2 ^ 32))) ∧
  (∀ (s : State) (k n i level : Nat), let x := pmcOf s k i
    i < 8 → x.enable = true → x.chain = false → pmcTotal s k x = none → pmcLevel s k x = some level →
    let c := s.cnt.tclk
    let cycles := if k = 1 then 3 * (c + n) / 2 - 3 * c / 2 else if k = 15 then 2 * (c + n) / 3 - 2 * c / 3 else if k = 9 then n else 2 * n
    let more := if x.edge = false then level * cycles else if level ≠ 0 ∧ cycles ≠ 0 ∧ x.seen = none then 1 else 0
    pmcOf (pmcPass n k i s) k i = { x with
      value := BitVec.ofNat 32 (x.value.toNat + more), ovf := x.ovf || decide (2 ^ 32 ≤ x.value.toNat + more)
      seen := if level = 0 then none else some c }) ∧
  (∀ (s : State), live s = true → let c := s.cnt
    let u := barSeen true s
    let id := fun i => (tget 0 c.crdList i).toNat
    let value := fun i => statValue s (id i / 2 ^ 24 % 64) (id i % 2 ^ 24)
    (fwlJudge s 2 0x400E0000 4 1 ≠ 0 → Completes .crdStart s (fwlDeny 2 0x400E0000 4 1 (fwlJudge s 2 0x400E0000 4 1) u)) ∧
    (fwlJudge s 2 0x400E0000 4 1 = 0 → (c.crdBusy = true → Completes .crdStart s { u with cnt := { u.cnt with crdOverrun := true } }) ∧
      (c.crdBusy = false → id 0 / 2 ^ 30 = 2 → Completes .crdStart s { u with cnt := { u.cnt with
        crdBusy := true, crdTod := s.tsu.ns, crdSweep := some (if c.crdCount = 0 then 1 else Nat.min c.crdCount.toNat 1024, 1)
        crdResult := tset 0 c.crdResult 0 ((value 0).getD 0), crdFound := (value 0).isNone
        crdInvalid := c.crdInvalid || (value 0).isNone, crdInvalidIdx := if (value 0).isNone then 0 else c.crdInvalidIdx } })) ∧
    (c.crdSweep = none → Completes .crdSweepComplete s s) ∧
    (∀ n k, c.crdSweep = some (n, k) → n ≤ 1024 → (∀ i, k ≤ i → i < n → id i / 2 ^ 30 = 2) →
      let latched := fun (j : Nat) (t : State) => (∀ i, k ≤ i → i < j → tget 0 t.cnt.crdResult i = (value i).getD 0) ∧
        (∀ i, i < k ∨ j ≤ i → tget 0 t.cnt.crdResult i = tget 0 c.crdResult i) ∧
        ((∃ i, k ≤ i ∧ i < j ∧ value i = none) → t.cnt.crdInvalid = true)
      (∀ m, k + m ≤ n → (crdLatch m s).cnt.crdSweep = some (n, k + m) ∧ latched (k + m) (crdLatch m s)) ∧
      ∃ t, Completes .crdSweepComplete s t ∧ t = { s with cnt := t.cnt } ∧ t.cnt.crdBusy = false ∧ t.cnt.crdSweep = none ∧
        t.cnt.crdDone = true ∧ t.cnt.crdTod = c.crdTod ∧ t.cnt.crdDuration = 2 * (n - 1) ∧ (k ≤ n → latched n t))) ∧
  (∀ (s : State) (slot : Nat) (x : Thr), fwRuns s = true → tget none s.cnt.thr slot = some x → x.id.toNat / 2 ^ 30 = 2 →
    (reached s.tsu.ns (x.start + BitVec.ofNat 64 (x.window * 1000000)) = false → Completes (.thresholdWindow slot) s s) ∧
    (reached s.tsu.ns (x.start + BitVec.ofNat 64 (x.window * 1000000)) = true →
      let u := crdFinish s
      let v := (statValue u (x.id.toNat / 2 ^ 24 % 64) (x.id.toNat % 2 ^ 24)).getD 0
      let meets := decide (x.thr.toNat ≤ (v - x.base).toNat)
      let next := { u with cnt := { u.cnt with thr := tset none u.cnt.thr slot (some { x with
        base := v, start := s.tsu.ns, discard := false, episode := if x.discard then x.episode else meets }) } }
      Completes (.thresholdWindow slot) s (if meets = true ∧ x.episode = false ∧ x.discard = false then
        evF 0xA001 (le 1 slot ++ le 4 x.id.toNat ++ le64 (v - x.base) ++ le 4 x.window) next else next)))

/-- The CNT_* commands answer as Table 17-9 and R401 say: an entry that names no performance counter, or an event, CHAIN or FILTER its block
does not have, is refused; a sweep latches nothing when an ID is invalid, and its detail is the first such index; a threshold slot starts
with the counter's value as its base, and ENABLE 0 frees it (R384, R392, R400, R401). A read is served behind the sweep of the host port (the model's choice of
when: log entries 33, 93). -/
def Obligations.CounterCommandsAnswer : Prop :=
  (∀ (s : State) (id cfg preset load : Nat), id < 2 ^ 32 → cfg < 2 ^ 32 → preset < 2 ^ 32 → load ≤ 1 →
    let entry := le 4 id ++ le 4 cfg ++ le 4 preset ++ le 1 load ++ zb 3
    let k := id / 2 ^ 24
    let n := id % 2 ^ 24
    let event := cfg % 256
    let filter := cfg / 2 ^ 16 % 256
    let named := ((1 ≤ k ∧ k ≤ 11) ∨ k = 15) ∧ n < 8 ∧ event ≤ pmcEvents k ∧ (nbit cfg 10 = true → n % 2 = 1) ∧
      cfg / 4096 % 16 = 0 ∧ cfg / 2 ^ 24 = 0 ∧ (filter = 255 ∨ pmcPerPort k event = true ∧ filter ≤ 64 ∧
        (k = 2 ∨ k = 7 → filter < 32) ∧ (k = 3 ∨ k = 8 → 32 ≤ filter ∧ filter < 64))
    EntryRule .cntConfigSet 0x0A00 (fun _ e u status t => e.length = 16 ∧ cntConfigEntry e u = (status, t)) ∧
    (¬ named → cntConfigEntry entry s = (stInvalid, s)) ∧
    (named → (pmcOf s k n).enable = false → (cntConfigEntry entry s).1 = stOk ∧ pmcOf (cntConfigEntry entry s).2 k n =
      { event := event, enable := nbit cfg 8, edge := nbit cfg 9, chain := nbit cfg 10, ovf := (pmcOf s k n).ovf && !nbit cfg 11
        filter := filter, value := if load = 1 then BitVec.ofNat 32 preset else (pmcOf s k n).value
        base := (pmcTotal s k { Pmc.reset with event := event, edge := nbit cfg 9, filter := filter }).getD 0, seen := none })) ∧
  (∀ (s : State) (mb : Nat) (c : Cmd) (k n : Nat), Taken 0x0A01 mb s c → (1 ≤ k ∧ k ≤ 11) ∨ k = 15 → n < 8 → c.payload = le 4 (k * 2 ^ 24 + n) →
    let t := pmcSettle k n s
    let x := pmcOf t k n
    let word := x.event + 256 * b2n x.enable + 512 * b2n x.edge + 1024 * b2n x.chain + 2048 * b2n x.ovf + 65536 * x.filter
    AnswersOk (.cntConfigGet mb) s c (le 4 word ++ le 4 x.value.toNat ++ zb 4) t ∧ ((pmcOf s k n).enable = false → t = s) ∧
      t = { s with cnt := { s.cnt with pmc := t.cnt.pmc }, free := t.free }) ∧
  (∀ (s : State) (mb : Nat) (c : Cmd) (d : DmaRead) (ids : List Nat), Taken 0x0A02 mb s c → ids ≠ [] → ids.length ≤ 508 → nbit c.flags 3 = false →
    (∀ i ∈ ids, i / 2 ^ 30 = 2) → c.payload = batchPrefix ids.length 0 ++ ids.flatMap (le 4) →
    let value := fun i => statValue s (i / 2 ^ 24 % 64) (i % 2 ^ 24)
    let u := crdFinish s
    ((∀ i ∈ ids, (value i).isSome = true) → AnswersOk (.cntSweepGet mb d) s c (le 2 ids.length ++ zb 2 ++ le 4 (2 * (ids.length - 1)) ++
      le64 s.tsu.ns ++ ids.flatMap (fun i => le64 ((statValue u (i / 2 ^ 24 % 64) (i % 2 ^ 24)).getD 0))) u) ∧
    (∀ j, j < ids.length → value (ids.getD j 0) = none → (∀ i, i < j → (value (ids.getD i 0)).isSome = true) →
      Answers (.cntSweepGet mb d) s c ⟨stInvalid, j, []⟩ s)) ∧
  (∀ (s : State) (mb : Nat) (c : Cmd) (slot flags id w th : Nat), Taken 0x0A03 mb s c → slot < 256 → flags < 4 → id < 2 ^ 32 → w < 2 ^ 32 →
    th < 2 ^ 64 → c.payload = le 1 slot ++ le 1 flags ++ zb 2 ++ le 4 id ++ le 4 w ++ zb 4 ++ le 8 th →
    (63 < slot → Turned (.cntThresholdSet mb) s c stInvalid) ∧
    (slot ≤ 63 → id / 2 ^ 30 = 2 →
      let block := id / 2 ^ 24 % 64
      let index := id % 2 ^ 24
      let u := crdFinish s
      (w < 100 ∨ 3600000 < w ∨ w % 100 ≠ 0 ∨ statValue s block index = none → Turned (.cntThresholdSet mb) s c stInvalid) ∧
      (100 ≤ w → w ≤ 3600000 → w % 100 = 0 → (statValue s block index).isSome = true → nbit flags 0 = false →
        AnswersOk (.cntThresholdSet mb) s c [] { s with cnt := { s.cnt with thr := tset none s.cnt.thr slot none } }) ∧
      (100 ≤ w → w ≤ 3600000 → w % 100 = 0 → (statValue s block index).isSome = true → nbit flags 0 = true → ∃ t x,
        let v := (statValue u block index).getD 0
        AnswersOk (.cntThresholdSet mb) s c [] t ∧ t = { u with cnt := { u.cnt with thr := t.cnt.thr } } ∧ tget none t.cnt.thr slot = some x ∧ x.id = BitVec.ofNat 32 id ∧ x.window = w ∧
        x.thr = BitVec.ofNat 64 th ∧ x.forward = nbit flags 1 ∧ x.base = v ∧ x.start = s.tsu.ns ∧ x.episode = false)))

/-- Health (R393 to R397): measurements are kept; a powered second adds AF / 3,600 stress-equivalent hours; the daily sample keeps the last 64
values of every item that was measured, forecasts by R395 (0 days at the limit, none below 30 samples, at most 65,534), sets the device
forecast to the least of the ageing monitors and the battery, and saves the history; the reports lay out Tables 17-6 and 17-9. The model's choices: the
rounding and the span of a fit (log entries 21, 91), and the order of the daily sample (log entry 92). -/
def Obligations.HealthFollowsRules : Prop :=
  (∀ (s : State) (i lane mv : Nat) (v : Int), fwRuns s = true →
    (i < 24 → Completes (.ageingMeasure i v) s { s with cnt := { s.cnt with am := tset 0 s.cnt.am i v } }) ∧
    (∀ p, lane < 66 → mv < 65536 → lanePort s lane = some p → ((port s p).st = .up → Completes (.eyeMeasure lane mv) s
        { s with cnt := { s.cnt with eye := tset 0 s.cnt.eye lane mv } }) ∧
      ((port s p).st ≠ .up → Completes (.eyeMeasure lane mv) s s)) ∧
    (∃ t, Completes .stressTick s t ∧ t = { s with cnt := t.cnt, tamper := { s.tamper with sensors := t.tamper.sensors }, free := t.free } ∧
      t.cnt.powered = s.cnt.powered + 1 ∧ t.cnt.stress = s.cnt.stress + stressAf (sumTemp t) / 3600)) ∧
  (∀ (s : State), fwRuns s = true → ∃ t, Completes .healthDailySample s t ∧ t.cnt.dayNo = s.cnt.dayNo + 1 ∧
    t.cnt.dayTod = s.tsu.ns ∧ t.cnt.vbatNum = 0 ∧ t.cnt.stressDays = (s.cnt.stress :: s.cnt.stressDays).take 64 ∧
    (let day : HistoryCopy := .valid { items := t.cnt.items, stress := t.cnt.stress, stressDays := t.cnt.stressDays
                                       powered := t.cnt.powered, dayNo := t.cnt.dayNo, dayTod := t.cnt.dayTod };
      (t.cnt.hist0, t.cnt.hist1) = if t.cnt.dayNo % 2 = 0 then (day, s.cnt.hist1) else (s.cnt.hist0, day)) ∧
    (∀ j, j < 93 → let x := tget HItem.reset t.cnt.items j
      let kind := (itemName j).1
      (∀ v, itemValue s j = some v → x.samples = ({ value := v, axis := if kind = 1 then s.cnt.stress else s.cnt.dayNo + 1 } ::
        (tget HItem.reset s.cnt.items j).samples).take 64) ∧
      (itemValue s j = none → x.samples = (tget HItem.reset s.cnt.items j).samples) ∧
      x.days = itemDays kind (itemLimit s j) t.cnt.stressDays x.samples ∧
      x.st = itemSt kind (itemLimit s j) x.days x.samples) ∧
    (∀ j, j < 24 ∨ j = 90 → t.cnt.days ≤ (tget HItem.reset t.cnt.items j).days) ∧
    (t.cnt.days = 0xFFFF ∨ ∃ j, (j < 24 ∨ j = 90) ∧ t.cnt.days = (tget HItem.reset t.cnt.items j).days ∧
      (t.cnt.limKind, t.cnt.limIndex) = itemName j) ∧
    (t.cnt.urgent = decide (t.cnt.days < 90)) ∧ (t.cnt.days < 90 → s.cnt.urgent = false → t.hif.irqStatus.getLsbD 10 = true)) ∧
  (∀ (kind days : Nat) (limit : Int) (ds : List Nat) (x : DaySample) (xs : List DaySample),
    let up := kind = 1 ∨ kind = 4 ∨ kind = 5
    let met := (up ∧ limit ≤ x.value) ∨ (¬ up ∧ x.value ≤ limit)
    (met → itemDays kind limit ds (x :: xs) = 0 ∧ itemSt kind limit days (x :: xs) = 4) ∧
    (¬ met → itemSt kind limit days (x :: xs) = if days = 0xFFFF then 0 else if days < 90 then 3 else if days < 365 then 2 else 1) ∧
    (¬ met → xs.length < 29 → itemDays kind limit ds (x :: xs) = 0xFFFF) ∧
    (itemDays kind limit ds (x :: xs) = 0xFFFF ∨ itemDays kind limit ds (x :: xs) ≤ 65534)) ∧
  (∀ (s : State) (mb : Nat) (c : Cmd), let x := s.cnt
    (Taken 0x0A10 mb s c → c.payload = [] → AnswersOk (.hltReportGet mb) s c (le 4 0x484C0001 ++ le 2 x.days ++ le 1 x.limKind ++
      le 1 x.limIndex ++ le64 x.dayTod ++ le 4 (x.powered / 3600) ++ le 4 (x.stress * 10 / 2 ^ 32) ++
      le 2 (if (stressSpan x.stressDays).2 = 0 then 0 else (stressSpan x.stressDays).1 * 100 / 2 ^ 32 / (stressSpan x.stressDays).2) ++
      le 2 93 ++ zb 4 ++ (List.range 93).flatMap (itemBytes s)) s) ∧
    (Taken 0x0A11 mb s c → c.payload = [] → AnswersOk (.hltMonitorGet mb) s c (le64 s.tsu.ns ++ le 4 (x.stress * 10 / 2 ^ 32) ++
      le 2 s.tamper.vbat ++ zb 2 ++ (List.range 24).flatMap (fun i => leInt 4 (tget 0 x.am i)) ++
      (List.range 66).flatMap (fun i => le 2 (tget 0 x.eye i)) ++ zb 4) s))

/-! ### The meter (18_iastan_meter.md) -/

/-- The meter counts apart from the device (R402 to R408, R410): power-up starts a life and blows one fuse; no reset of the device changes it; a
tap adds a frame to one slot, L or L + 20 octets, of the old bank while it has not seen the switch, a MAC Control frame to none; a sweep moves a slot's
partials into its channel and loses none; a statement is latched once a full sweep has visited every slot, before any visit of that cycle; the last sweep of the
old bank ends MTR_BINDING_SET. The model's choices: what the meter keeps and counts where the tables are silent (log entry 94), and the frame at which a tap sees
the switch (log entry 130). -/
def Obligations.MeterCountsApart : Prop :=
  (∀ (s : State) (checks : Bool), let m := s.mtr
    let restarted := fun (t : State) => t.mtr.powered = true ∧ t.mtr.ready = true ∧ t.mtr.chs = [] ∧ t.mtr.binds = [] ∧ t.mtr.gen = 0 ∧
      t.mtr.stmtSeq = 0 ∧ t.mtr.clockLost = false ∧ t.mtr.authority = m.authority ∧ t.mtr.serial = m.serial ∧ t.mtr.certs = m.certs
    (m.powered = true ∨ s.boot.meterFuse = false → Completes (.meterPowerUp checks) s s) ∧
    (m.powered = false → s.boot.meterFuse = true → ∃ t, Completes (.meterPowerUp checks) s t ∧ restarted t ∧
      (checks = false → t.mtr.st = 3 ∧ t.mtr.lifeFuses = m.lifeFuses) ∧
      (checks = true → 2048 ≤ m.lifeFuses → t.mtr.st = 2 ∧ t.mtr.lifeFuses = m.lifeFuses) ∧
      (checks = true → m.lifeFuses < 2048 → t.mtr.st = (if m.authority.isSome then 1 else 0) ∧ t.mtr.lifeFuses = m.lifeFuses + 1 ∧
        t.mtr.life = m.lifeFuses + 1)) ∧
    (∃ t, Completes .meterPowerLoss s t ∧ t.mtr.powered = false ∧ t.mtr.chs = [] ∧ t.mtr.binds = [] ∧ t.mtr.lifeFuses = m.lifeFuses ∧
      t.mtr.authority = m.authority ∧ (∀ c ∈ t.hif.cmds, c.mb ≠ 8))) ∧
  (∀ (s : State) (cause : HifResetCause), (∃ t, Completes .porLAssert s t ∧ t.mtr = s.mtr) ∧ (∃ t, Completes .sysRstLAssert s t ∧ t.mtr = s.mtr) ∧
    (∃ t, Completes .coreReset s t ∧ t.mtr = s.mtr) ∧ (∃ t, Completes (.hifReset cause) s t ∧ t.mtr = s.mtr) ∧
    (∃ t, Completes .porLRelease s t ∧ t.mtr = s.mtr)) ∧
  (∀ (s : State) (port dir : Nat) (d : Bytes), s.mtr.powered = true → s.mtr.st = 1 → port < 64 →
    let t := meterTap port dir d s
    let plus := fun (bank : List Binding) => match tapMatch bank port dir d with
      | none => bank
      | some b => bank.map (fun x => if x.port = b.port ∧ x.dir = b.dir ∧ x.typ = b.typ ∧ x.key = b.key then { b with
        octets := BitVec.ofNat 32 (Nat.min (2 ^ 32 - 1) (b.octets.toNat + d.length + 4 + (if b.per20 then 20 else 0)))
        frames := BitVec.ofNat 32 (Nat.min (2 ^ 32 - 1) (b.frames.toNat + 1)) } else x)
    let banks := (t.mtr.oldBank, t.mtr.binds, t.mtr.lag)
    t.mtr.chs = s.mtr.chs ∧ (hbe d 12 2 = 0x8808 → t = s) ∧ (hbe d 12 2 ≠ 0x8808 →
    (2 * port + dir ∉ s.mtr.lag → banks = (s.mtr.oldBank, plus s.mtr.binds, s.mtr.lag) ∧ (tapMatch s.mtr.binds port dir d = none → t = s)) ∧
    (2 * port + dir ∈ s.mtr.lag → banks = (plus s.mtr.oldBank, s.mtr.binds, s.mtr.lag) ∨
      banks = (s.mtr.oldBank, plus s.mtr.binds, s.mtr.lag.erase (2 * port + dir))))) ∧
  (∀ (s : State) (port dir index : Nat) (x : Binding), s.mtr.powered = true →
    (s.mtr.binds.filter (fun b => b.port == port && b.dir == dir))[index]? = some x →
    let before := tget Chn.reset s.mtr.chs x.channel
    ∃ t, Completes (.meterSweep port dir index) s t ∧ t = { s with mtr := { s.mtr with binds := t.mtr.binds, chs := t.mtr.chs } } ∧
      t.mtr.binds = s.mtr.binds.map (fun b => if sameKey b x then { b with octets := 0, frames := 0, seen := true } else b) ∧
      (∀ c, c ≠ x.channel → tget Chn.reset t.mtr.chs c = tget Chn.reset s.mtr.chs c) ∧
      (before.octets.toNat + x.octets.toNat < 2 ^ 64 - 1 → before.frames.toNat + x.frames.toNat < 2 ^ 64 - 1 →
        tget Chn.reset t.mtr.chs x.channel = { octets := before.octets + x.octets.setWidth 64
                                               frames := before.frames + x.frames.setWidth 64, saturated := before.saturated }) ∧
      (2 ^ 64 - 1 ≤ before.octets.toNat + x.octets.toNat → (tget Chn.reset t.mtr.chs x.channel).octets.toNat = 2 ^ 64 - 1 ∧
        (tget Chn.reset t.mtr.chs x.channel).saturated = true)) ∧
  (∀ (s : State) (c : Cmd), s.mtr.powered = true → s.hif.cmds = [c] → c.wait = .statement →
    let latched := { s with mtr := { s.mtr with stmtSeq := s.mtr.stmtSeq + 1 } }
    ((∃ b ∈ s.mtr.binds, b.seen = false) → Completes .mtrStatementLatch s s) ∧
    ((∀ b ∈ s.mtr.binds, b.seen = true) → AnswersOk .mtrStatementLatch s c (statementBytes latched.mtr c.payload) latched)) ∧
  (∀ (s : State) (c : Cmd), s.mtr.powered = true → s.hif.cmds = [c] → c.wait = .binding →
    AnswersOk .mtrBankFinalSweep s c [] { s with mtr := { s.mtr with oldBank := [], lag := [], chs := (s.mtr.oldBank.foldl (fun m b => chnAdd b m) s.mtr).chs } })

/-- The MTR_* commands answer as Tables 18-3 to 18-5 say (R407 to R412): none but MTR_STATUS_GET in FAULT; a statement is taken only when SEALED and
waits for a full sweep that begins then; bindings change all or nothing, under the next generation, a claim only in UNCLAIMED. The model's choices: the order of
the checks (log entry 65), and what the tables leave open of the meter's commands (log entry 94). -/
def Obligations.MeterCommandsAnswer : Prop :=
  ∀ (s : State) (mb : Nat) (c : Cmd) (first n scheme port dir cert off : Nat) (nonce : Bytes), mb = 8 → first < 65536 → n < 65536 →
    let m := s.mtr
    let uptime := m.clocks / 4 * 5
    let entry := fun i => let x := tget Chn.reset m.chs i
      le 2 i ++ le 1 (mask [x.saturated, m.binds.any (fun b => b.channel == i)]) ++ zb 5 ++ le64 x.octets ++ le64 x.frames
    (MeterTaken 0x0C00 s c → c.payload = [] → ∃ (v : W64) (t : State), t = { s with mtr := { m with nonce := some v }, free := s.free + 1 } ∧
      AnswersOk (.mtrStatusGet mb) s c (le 1 m.st ++ le 1 (b2n m.clockLost) ++ zb 2 ++ le 4 m.life ++ le 4 m.gen.toNat ++
        le 2 ((List.range 4096).filter (fun i => m.binds.any (fun b => b.channel == i))).length ++ le 2 m.binds.length ++ le64 m.serial ++
        le 8 uptime ++ le64 v ++ le 4 60000 ++ zb 4 ++ (match m.authority with | some k => sha384 k | none => zb 48)) t) ∧
    (MeterTaken 0x0C01 s c → c.payload = le 2 first ++ le 2 n →
      (m.st = 3 → Turned (.mtrChannelGet mb) s c stWrongState) ∧
      (m.st ≠ 3 → n = 0 ∨ 160 < n ∨ 4096 < first + n → Turned (.mtrChannelGet mb) s c stInvalid) ∧
      (m.st ≠ 3 → 1 ≤ n → n ≤ 160 → first + n ≤ 4096 → AnswersOk (.mtrChannelGet mb) s c (le 2 n ++ zb 6 ++ le 8 uptime ++
        (List.range n).flatMap (fun i => entry (first + i))) s)) ∧
    (MeterTaken 0x0C02 s c → nonce.length = 32 → scheme < 256 → c.payload = le 2 first ++ le 2 n ++ le 1 scheme ++ zb 3 ++ nonce →
      let most := if scheme = 1 then 160 else if scheme = 2 ∨ scheme = 3 then 24 else 0
      (m.st ≠ 1 → Turned (.mtrStatementGet mb) s c stWrongState) ∧
      (m.st = 1 → n = 0 ∨ most < n ∨ 4096 < first + n → Turned (.mtrStatementGet mb) s c stInvalid) ∧
      (m.st = 1 → 1 ≤ n → n ≤ most → first + n ≤ 4096 → Completes (.mtrStatementGet mb) s (cmdWait c .statement
        { s with mtr := { m with binds := m.binds.map (fun b => { b with seen := false }) } }) ∧
        let q := statementBytes m c.payload
        let sig := if scheme = 1 then 96 else if scheme = 2 then 3309 else 3405
        q.length = 80 + 24 * n + sig ∧ sub q 0 16 = le 4 0x4D530001 ++ le64 m.serial ++ le 4 m.life ∧ sub q 16 16 = le 8 m.stmtSeq ++ le 8 uptime ∧
        sub q 32 8 = le 4 m.gen.toNat ++ le 2 first ++ le 2 n ∧ u8 q 41 = scheme ∧ sub q 48 32 = nonce ∧
        sub q 80 (24 * n) = (List.range n).flatMap (fun i => entry (first + i)) ∧
        q.drop (80 + 24 * n) = mtrSign scheme (ascii "PK3200-METER" ++ q.take (80 + 24 * n)))) ∧
    (MeterTaken 0x0C03 s c → m.st ≠ 3 → cert ≤ 1 → off < 65536 → c.payload = le 1 cert ++ zb 1 ++ le 2 off ++ zb 4 →
      let bytes := tget [] m.certs cert
      (bytes.length < off → Turned (.mtrCertGet mb) s c stInvalid) ∧
      (off ≤ bytes.length → AnswersOk (.mtrCertGet mb) s c (le 2 bytes.length ++ le 2 (Nat.min 4064 (bytes.length - off)) ++ zb 4 ++
        (bytes.drop off).take 4064) s)) ∧
    (MeterTaken 0x0C11 s c → m.st ≠ 3 → port < 64 → dir ≤ 1 → first ≤ 255 → c.payload = le 1 port ++ le 1 dir ++ le 2 first ++ zb 4 →
      let bs := ((m.binds.filter (fun b => b.port == port && b.dir == dir)).drop first).take 254
      AnswersOk (.mtrBindingGet mb) s c (le 2 bs.length ++ le 4 m.gen.toNat ++ zb 2 ++ bs.flatMap bindBytes) s) ∧
    (∀ (gen : Nat) (claim all : Bool) (key : Bytes) (es : List Bytes), MeterTaken 0x0C10 s c → gen < 2 ^ 32 → key.length = (if claim then 97 else 0) →
      (∀ e ∈ es, e.length = 16) → es.length ≤ 240 →
      c.payload = le 4 gen ++ le 2 es.length ++ le 1 (b2n claim + 2 * b2n all) ++ zb 9 ++ key ++ es.flatten →
      let start := if all then [] else m.binds
      (m.st = 3 ∨ m.st = 2 ∨ (claim = true ∧ m.st ≠ 0) ∨ (claim = false ∧ m.st = 0) → Turned (.mtrBindingSet mb) s c stWrongState) ∧
      (m.st < 2 → (claim = true ↔ m.st = 0) →
        (m.gen.toNat = 2 ^ 32 - 1 → Turned (.mtrBindingSet mb) s c stNoRoom) ∧
        (m.gen.toNat < 2 ^ 32 - 1 → gen ≠ m.gen.toNat + 1 → Turned (.mtrBindingSet mb) s c stStale) ∧
        (gen = m.gen.toNat + 1 → ∀ st i, bindAll 0 es start = .error (st, i) → Answers (.mtrBindingSet mb) s c ⟨st, i, []⟩ s) ∧
        (gen = m.gen.toNat + 1 → ∀ bs, bindAll 0 es start = .ok bs → ∃ t, Completes (.mtrBindingSet mb) s (cmdWait c .binding t) ∧
          t.mtr.binds = bs.map bindClear ∧ t.mtr.gen = m.gen + 1 ∧ t.mtr.st = 1 ∧ t.mtr.oldBank = m.binds.map bindClear ∧ t.mtr.lag = List.range 128 ∧
          t.mtr.authority = (if claim then some key else m.authority) ∧
          t.mtr.chs = (m.binds.foldl (fun m b => chnAdd b m) m).chs ∧ (claim = true → t.mtr.changed = true)))) ∧
    (∀ (e : Bytes) (bs : List Binding), let b := bindOf e
      (bindOk e = false → bindApply e bs = .error stInvalid) ∧
      (bindOk e = true → u8 e 3 = 0 → bindApply e bs = (if bs.any (sameKey b) then .ok (bs.filter (fun x => !sameKey b x)) else .error stNotFound)) ∧
      (bindOk e = true → u8 e 3 = 1 → bindApply e bs = (if bs.any (sameKey b) then .error stExists
        else if 256 ≤ (bs.filter (fun x => x.port == b.port && x.dir == b.dir)).length then .error stNoRoom else .ok (bs ++ [b]))))
end

