-- ==== Sys2Proof/Laws/Tab.lean ====
section
/-! SUPPORT. What the operations on sparse tables do: each reads back what was written, touches no other key, and keeps
the canonical form. The reads hold of every list, canonical or not. -/
namespace Sys2Proof.Machine

variable {α : Type}

@[simp] theorem tget_nil (d : α) (i : Nat) : tget d [] i = d := rfl

/-- Below the first key a table reads its default. -/
theorem tget_below (d v : α) (k i : Nat) (t : Tab α) (h : i < k) : tget d ((k, v) :: t) i = d := by simp [tget, h]

/-- Leaving out the first entries up to a key changes no read above it. -/
theorem tget_tbehind (d : α) (i j : Nat) (h : i < j) : ∀ t : Tab α, tget d (tbehind i t) j = tget d t j
  | [] => rfl
  | (k, v) :: t => by
    by_cases hk : k ≤ i
    · have h1 : ¬ j < k := by omega
      have h2 : ¬ j = k := by omega
      have := tget_tbehind d i j h t
      simp only [tbehind] at this
      simp [tbehind, hk, tget, h1, h2, this]
    · simp [tbehind, hk]

/-- Behind a key, a table reads its default up to the key. -/
theorem tget_tbehind_le (d : α) (i j : Nat) (h : j ≤ i) : ∀ t : Tab α, tget d (tbehind i t) j = d
  | [] => rfl
  | (k, v) :: t => by
    by_cases hk : k ≤ i
    · have := tget_tbehind_le d i j h t
      simp only [tbehind] at this
      simp [tbehind, hk, this]
    · have : j < k := by omega
      simp [tbehind, hk, tget, this]

/-- A read after a write. -/
theorem tget_tset [DecidableEq α] (d x : α) (i j : Nat) :
    ∀ t : Tab α, tget d (tset d t i x) j = if j = i then x else tget d t j
  | [] => by
    by_cases hx : x = d
    · simp [tset, hx, tget]
    · by_cases hj : j = i
      · simp [tset, hx, tget, hj]
      · simp [tset, hx, tget, hj]
  | (k, v) :: t => by
    have ih := tget_tset d x i j t
    rcases Nat.lt_trichotomy i k with h | h | h
    · by_cases hx : x = d
      · by_cases hj : j = i
        · subst hj; simp [tset, h, hx, tget]
        · simp [tset, h, hx, hj]
      · rcases Nat.lt_trichotomy j i with hj | hj | hj
        · have h1 : j < k := by omega
          have h2 : ¬ j = i := by omega
          simp [tset, h, hx, tget, hj, h1, h2]
        · subst hj; simp [tset, h, hx, tget]
        · have h1 : ¬ j < i := by omega
          have h2 : ¬ j = i := by omega
          simp [tset, h, hx, tget, h1, h2]
    · subst h
      by_cases hx : x = d
      · rcases Nat.lt_or_ge i j with hj | hj
        · have h1 : ¬ j < i := by omega
          have h2 : ¬ j = i := by omega
          simp [tset, hx, tget_tbehind d i j hj, tget, h1, h2]
        · by_cases he : j = i
          · subst he; simp [tset, hx, tget_tbehind_le]
          · have h1 : j < i := by omega
            simp [tset, hx, tget_tbehind_le d i j hj, tget, he, h1]
      · by_cases he : j = i
        · subst he; simp [tset, hx, tget]
        · simp [tset, hx, tget, he]
    · have h1 : ¬ i < k := by omega
      have h2 : ¬ i = k := by omega
      by_cases hj : j < k
      · have h3 : ¬ j = i := by omega
        simp [tset, h1, h2, tget, hj, h3]
      · by_cases hk : j = k
        · subst hk
          have h3 : ¬ j = i := by omega
          simp [tset, h1, h2, tget, h3]
        · simp [tset, h1, h2, tget, hj, hk, ih]

@[simp] theorem tget_tset_same [DecidableEq α] (d x : α) (i : Nat) (t : Tab α) : tget d (tset d t i x) i = x := by
  simp [tget_tset]

theorem tget_tset_other [DecidableEq α] (d x : α) (i j : Nat) (t : Tab α) (h : j ≠ i) :
    tget d (tset d t i x) j = tget d t j := by simp [tget_tset, h]

/-- A read after a change of one entry. -/
theorem tget_tmod [DecidableEq α] (d : α) (f : α → α) (i j : Nat) (t : Tab α) :
    tget d (tmod d t i f) j = if j = i then f (tget d t i) else tget d t j := tget_tset _ _ _ _ _

@[simp] theorem tget_tmod_same [DecidableEq α] (d : α) (f : α → α) (i : Nat) (t : Tab α) :
    tget d (tmod d t i f) i = f (tget d t i) := by simp [tget_tmod]

/-- A read after a change of every entry, by a function that keeps the default. -/
theorem tget_tmap [DecidableEq α] (d : α) (f : α → α) (hf : f d = d) (j : Nat) :
    ∀ t : Tab α, tget d (tmap d f t) j = f (tget d t j)
  | [] => by simp [tmap, hf]
  | (k, v) :: t => by
    have ih := tget_tmap d f hf j t
    rcases Nat.lt_trichotomy j k with h | h | h
    · by_cases hv : f v = d
      · simp [tmap, hv, tget_tbehind_le d k j (by omega), tget, h, hf]
      · simp [tmap, hv, tget, h, hf]
    · subst h
      by_cases hv : f v = d
      · simp [tmap, hv, tget_tbehind_le, tget]
      · simp [tmap, hv, tget]
    · have h1 : ¬ j < k := by omega
      have h2 : ¬ j = k := by omega
      by_cases hv : f v = d
      · simp [tmap, hv, tget_tbehind d k j h, tget, h1, h2, ih]
      · simp [tmap, hv, tget, h1, h2, ih]

/-! ### The canonical form -/

theorem tabAbove_mono {d : α} : ∀ {b c : Nat} {t : Tab α}, c ≤ b → TabAbove d b t → TabAbove d c t
  | _, _, [], _, _ => trivial
  | _, _, (_, _) :: _, h, h' => ⟨Nat.le_trans h h'.1, h'.2⟩

/-- In a canonical tail nothing is left out. -/
theorem tbehind_above {d : α} {i : Nat} : ∀ {t : Tab α}, TabAbove d (i + 1) t → tbehind i t = t
  | [], _ => rfl
  | (k, v) :: t, h => by
    have : ¬ k ≤ i := by have := h.1; omega
    simp [tbehind, this]

theorem tabAbove_tset [DecidableEq α] {d x : α} {i : Nat} :
    ∀ {t : Tab α} {b : Nat}, b ≤ i → TabAbove d b t → TabAbove d b (tset d t i x)
  | [], b, hb, _ => by
    by_cases hx : x = d
    · simp [tset, hx, TabAbove]
    · simp [tset, hx, TabAbove, hb]
  | (k, v) :: t, b, hb, h => by
    obtain ⟨h1, h2, h3⟩ := h
    rcases Nat.lt_trichotomy i k with hk | hk | hk
    · by_cases hx : x = d
      · simp [tset, hk, hx, TabAbove, h1, h2, h3]
      · have : i + 1 ≤ k := hk
        simp [tset, hk, hx, TabAbove, hb, h2, h3, this]
    · subst hk
      by_cases hx : x = d
      · simp only [tset, Nat.lt_irrefl, if_false, if_true, hx, tbehind_above h3]
        exact tabAbove_mono (by omega) h3
      · simp [tset, hx, TabAbove, hb, h3]
    · have e1 : ¬ i < k := by omega
      have e2 : ¬ i = k := by omega
      simp only [tset, e1, e2, if_false, TabAbove]
      exact ⟨h1, h2, tabAbove_tset (by omega) h3⟩

/-- A write keeps the canonical form. -/
theorem tabWf_tset [DecidableEq α] {d : α} {t : Tab α} (i : Nat) (x : α) (h : TabWf d t) : TabWf d (tset d t i x) :=
  tabAbove_tset (Nat.zero_le _) h

/-- A change of one entry keeps the canonical form. -/
theorem tabWf_tmod [DecidableEq α] {d : α} {t : Tab α} (i : Nat) (f : α → α) (h : TabWf d t) : TabWf d (tmod d t i f) :=
  tabWf_tset i _ h

/-- A change of every entry keeps the canonical form. -/
theorem tabWf_tmap [DecidableEq α] {d : α} {t : Tab α} (f : α → α) (h : TabWf d t) : TabWf d (tmap d f t) := by
  have : ∀ (t : Tab α) (b : Nat), TabAbove d b t → TabAbove d b (tmap d f t) := by
    intro t
    induction t with
    | nil => intro b _; trivial
    | cons e t ih =>
      obtain ⟨k, v⟩ := e
      intro b h
      obtain ⟨h1, h2, h3⟩ := h
      by_cases hv : f v = d
      · simp only [tmap, hv, if_true, tbehind_above (ih _ h3)]
        exact tabAbove_mono (by omega) (ih _ h3)
      · simp only [tmap, hv, if_false]
        exact ⟨h1, hv, ih _ h3⟩
  exact this t 0 h

/-- A write of a byte string keeps the canonical form. -/
theorem tabWf_bufWrite : ∀ {t : Tab Byte} (off : Nat) (bs : Bytes), TabWf 0 t → TabWf 0 (bufWrite t off bs)
  | _, _, [], h => h
  | _, off, b :: bs, h => tabWf_bufWrite (off + 1) bs (tabWf_tset off b h)

/-- A byte of a buffer after a write of a byte string. -/
theorem tget_bufWrite (bs : Bytes) : ∀ (t : Tab Byte) (off i : Nat),
    tget 0 (bufWrite t off bs) i = if off ≤ i ∧ i < off + bs.length then bs.getD (i - off) 0 else tget 0 t i := by
  induction bs with
  | nil =>
    intro t off i
    have h : ¬ (off ≤ i ∧ i < off + ([] : Bytes).length) := by simp only [List.length_nil]; omega
    rw [if_neg h, bufWrite]
  | cons b bs ih =>
    intro t off i
    simp only [bufWrite, ih, tget_tset, List.length_cons]
    by_cases h1 : i = off
    · subst h1
      have h2 : ¬ (i + 1 ≤ i ∧ i < i + 1 + bs.length) := by omega
      have h3 : i ≤ i ∧ i < i + (bs.length + 1) := by omega
      rw [if_neg h2, if_pos rfl, if_pos h3]; simp
    · by_cases h2 : off + 1 ≤ i ∧ i < off + 1 + bs.length
      · have h3 : off ≤ i ∧ i < off + (bs.length + 1) := by omega
        have h4 : i - off = (i - (off + 1)) + 1 := by omega
        rw [if_pos h2, if_pos h3, h4, List.getD_cons_succ]
      · have h3 : ¬ (off ≤ i ∧ i < off + (bs.length + 1)) := by omega
        rw [if_neg h2, if_neg h1, if_neg h3]

/-- A read above the bytes that a write has written. -/
theorem bufRead_bufWrite_above (t : Tab Byte) (off a n : Nat) (bs : Bytes) (h : off + bs.length ≤ a) :
    bufRead (bufWrite t off bs) a n = bufRead t a n := by
  refine List.map_congr_left (fun i _ => ?_)
  rw [tget_bufWrite, if_neg (by omega)]

/-- A buffer that lists nothing reads as zeros. -/
theorem bufRead_nil (a n : Nat) : bufRead [] a n = List.replicate n 0 := by
  show (List.range n).map (fun _ => (0 : Byte)) = _
  simp [List.map_const']

/-- A read behind a write of the same bytes. -/
theorem bufRead_bufWrite (t : Tab Byte) (off : Nat) (bs : Bytes) : bufRead (bufWrite t off bs) off bs.length = bs := by
  apply List.ext_getElem
  · simp [bufRead]
  · intro i h1 h2
    have h : off ≤ off + i ∧ off + i < off + bs.length := by omega
    have := tget_bufWrite bs t off (off + i)
    rw [if_pos h] at this
    simpa [bufRead, h2] using this

end Sys2Proof.Machine
end

