-- ==== Sys2Proof/Laws/State.lean ====
section
/-! SUPPORT. What the updates of the state write: for each update one lemma a field. -/
namespace Sys2Proof.Machine
set_option Elab.async false
variable (s : State)

@[simp] theorem setHif_pending (f : Hif → Hif) : (setHif f s).pending = s.pending := rfl
@[simp] theorem setHif_profile (f : Hif → Hif) : (setHif f s).profile = s.profile := rfl
@[simp] theorem setHif_hif (f : Hif → Hif) : (setHif f s).hif = f s.hif := rfl
@[simp] theorem setHif_evr (f : Hif → Hif) : (setHif f s).evr = s.evr := rfl
@[simp] theorem setHif_ports (f : Hif → Hif) : (setHif f s).ports = s.ports := rfl
@[simp] theorem setHif_cls (f : Hif → Hif) : (setHif f s).cls = s.cls := rfl
@[simp] theorem setHif_chan (f : Hif → Hif) : (setHif f s).chan = s.chan := rfl
@[simp] theorem setHif_slices (f : Hif → Hif) : (setHif f s).slices = s.slices := rfl
@[simp] theorem setHif_km (f : Hif → Hif) : (setHif f s).km = s.km := rfl
@[simp] theorem setHif_tm (f : Hif → Hif) : (setHif f s).tm = s.tm := rfl
@[simp] theorem setHif_pol (f : Hif → Hif) : (setHif f s).pol = s.pol := rfl
@[simp] theorem setHif_gates (f : Hif → Hif) : (setHif f s).gates = s.gates := rfl
@[simp] theorem setHif_tsu (f : Hif → Hif) : (setHif f s).tsu = s.tsu := rfl
@[simp] theorem setHif_pack (f : Hif → Hif) : (setHif f s).pack = s.pack := rfl
@[simp] theorem setHif_flow (f : Hif → Hif) : (setHif f s).flow = s.flow := rfl
@[simp] theorem setHif_prot (f : Hif → Hif) : (setHif f s).prot = s.prot := rfl
@[simp] theorem setHif_boot (f : Hif → Hif) : (setHif f s).boot = s.boot := rfl
@[simp] theorem setHif_tamper (f : Hif → Hif) : (setHif f s).tamper = s.tamper := rfl
@[simp] theorem setHif_cnt (f : Hif → Hif) : (setHif f s).cnt = s.cnt := rfl
@[simp] theorem setHif_mtr (f : Hif → Hif) : (setHif f s).mtr = s.mtr := rfl
@[simp] theorem setHif_drbg (f : Hif → Hif) : (setHif f s).drbg = s.drbg := rfl
@[simp] theorem setHif_free (f : Hif → Hif) : (setHif f s).free = s.free := rfl

@[simp] theorem setEvr_pending (f : Evr → Evr) : (setEvr f s).pending = s.pending := rfl
@[simp] theorem setEvr_profile (f : Evr → Evr) : (setEvr f s).profile = s.profile := rfl
@[simp] theorem setEvr_hif (f : Evr → Evr) : (setEvr f s).hif = s.hif := rfl
@[simp] theorem setEvr_evr (f : Evr → Evr) : (setEvr f s).evr = f s.evr := rfl
@[simp] theorem setEvr_ports (f : Evr → Evr) : (setEvr f s).ports = s.ports := rfl
@[simp] theorem setEvr_cls (f : Evr → Evr) : (setEvr f s).cls = s.cls := rfl
@[simp] theorem setEvr_chan (f : Evr → Evr) : (setEvr f s).chan = s.chan := rfl
@[simp] theorem setEvr_slices (f : Evr → Evr) : (setEvr f s).slices = s.slices := rfl
@[simp] theorem setEvr_km (f : Evr → Evr) : (setEvr f s).km = s.km := rfl
@[simp] theorem setEvr_tm (f : Evr → Evr) : (setEvr f s).tm = s.tm := rfl
@[simp] theorem setEvr_pol (f : Evr → Evr) : (setEvr f s).pol = s.pol := rfl
@[simp] theorem setEvr_gates (f : Evr → Evr) : (setEvr f s).gates = s.gates := rfl
@[simp] theorem setEvr_tsu (f : Evr → Evr) : (setEvr f s).tsu = s.tsu := rfl
@[simp] theorem setEvr_pack (f : Evr → Evr) : (setEvr f s).pack = s.pack := rfl
@[simp] theorem setEvr_flow (f : Evr → Evr) : (setEvr f s).flow = s.flow := rfl
@[simp] theorem setEvr_prot (f : Evr → Evr) : (setEvr f s).prot = s.prot := rfl
@[simp] theorem setEvr_boot (f : Evr → Evr) : (setEvr f s).boot = s.boot := rfl
@[simp] theorem setEvr_tamper (f : Evr → Evr) : (setEvr f s).tamper = s.tamper := rfl
@[simp] theorem setEvr_cnt (f : Evr → Evr) : (setEvr f s).cnt = s.cnt := rfl
@[simp] theorem setEvr_mtr (f : Evr → Evr) : (setEvr f s).mtr = s.mtr := rfl
@[simp] theorem setEvr_drbg (f : Evr → Evr) : (setEvr f s).drbg = s.drbg := rfl
@[simp] theorem setEvr_free (f : Evr → Evr) : (setEvr f s).free = s.free := rfl

@[simp] theorem setPort_pending (p : Nat) (f : Port → Port) : (setPort p f s).pending = s.pending := rfl
@[simp] theorem setPort_profile (p : Nat) (f : Port → Port) : (setPort p f s).profile = s.profile := rfl
@[simp] theorem setPort_hif (p : Nat) (f : Port → Port) : (setPort p f s).hif = s.hif := rfl
@[simp] theorem setPort_evr (p : Nat) (f : Port → Port) : (setPort p f s).evr = s.evr := rfl
@[simp] theorem setPort_ports (p : Nat) (f : Port → Port) : (setPort p f s).ports = tmod .reset s.ports p f := rfl
@[simp] theorem setPort_cls (p : Nat) (f : Port → Port) : (setPort p f s).cls = s.cls := rfl
@[simp] theorem setPort_chan (p : Nat) (f : Port → Port) : (setPort p f s).chan = s.chan := rfl
@[simp] theorem setPort_slices (p : Nat) (f : Port → Port) : (setPort p f s).slices = s.slices := rfl
@[simp] theorem setPort_km (p : Nat) (f : Port → Port) : (setPort p f s).km = s.km := rfl
@[simp] theorem setPort_tm (p : Nat) (f : Port → Port) : (setPort p f s).tm = s.tm := rfl
@[simp] theorem setPort_pol (p : Nat) (f : Port → Port) : (setPort p f s).pol = s.pol := rfl
@[simp] theorem setPort_gates (p : Nat) (f : Port → Port) : (setPort p f s).gates = s.gates := rfl
@[simp] theorem setPort_tsu (p : Nat) (f : Port → Port) : (setPort p f s).tsu = s.tsu := rfl
@[simp] theorem setPort_pack (p : Nat) (f : Port → Port) : (setPort p f s).pack = s.pack := rfl
@[simp] theorem setPort_flow (p : Nat) (f : Port → Port) : (setPort p f s).flow = s.flow := rfl
@[simp] theorem setPort_prot (p : Nat) (f : Port → Port) : (setPort p f s).prot = s.prot := rfl
@[simp] theorem setPort_boot (p : Nat) (f : Port → Port) : (setPort p f s).boot = s.boot := rfl
@[simp] theorem setPort_tamper (p : Nat) (f : Port → Port) : (setPort p f s).tamper = s.tamper := rfl
@[simp] theorem setPort_cnt (p : Nat) (f : Port → Port) : (setPort p f s).cnt = s.cnt := rfl
@[simp] theorem setPort_mtr (p : Nat) (f : Port → Port) : (setPort p f s).mtr = s.mtr := rfl
@[simp] theorem setPort_drbg (p : Nat) (f : Port → Port) : (setPort p f s).drbg = s.drbg := rfl
@[simp] theorem setPort_free (p : Nat) (f : Port → Port) : (setPort p f s).free = s.free := rfl

@[simp] theorem setCls_pending (side : Nat) (f : Cls → Cls) : (setCls side f s).pending = s.pending := rfl
@[simp] theorem setCls_profile (side : Nat) (f : Cls → Cls) : (setCls side f s).profile = s.profile := rfl
@[simp] theorem setCls_hif (side : Nat) (f : Cls → Cls) : (setCls side f s).hif = s.hif := rfl
@[simp] theorem setCls_evr (side : Nat) (f : Cls → Cls) : (setCls side f s).evr = s.evr := rfl
@[simp] theorem setCls_ports (side : Nat) (f : Cls → Cls) : (setCls side f s).ports = s.ports := rfl
@[simp] theorem setCls_cls (side : Nat) (f : Cls → Cls) : (setCls side f s).cls = s.cls.upd side f := rfl
@[simp] theorem setCls_chan (side : Nat) (f : Cls → Cls) : (setCls side f s).chan = s.chan := rfl
@[simp] theorem setCls_slices (side : Nat) (f : Cls → Cls) : (setCls side f s).slices = s.slices := rfl
@[simp] theorem setCls_km (side : Nat) (f : Cls → Cls) : (setCls side f s).km = s.km := rfl
@[simp] theorem setCls_tm (side : Nat) (f : Cls → Cls) : (setCls side f s).tm = s.tm := rfl
@[simp] theorem setCls_pol (side : Nat) (f : Cls → Cls) : (setCls side f s).pol = s.pol := rfl
@[simp] theorem setCls_gates (side : Nat) (f : Cls → Cls) : (setCls side f s).gates = s.gates := rfl
@[simp] theorem setCls_tsu (side : Nat) (f : Cls → Cls) : (setCls side f s).tsu = s.tsu := rfl
@[simp] theorem setCls_pack (side : Nat) (f : Cls → Cls) : (setCls side f s).pack = s.pack := rfl
@[simp] theorem setCls_flow (side : Nat) (f : Cls → Cls) : (setCls side f s).flow = s.flow := rfl
@[simp] theorem setCls_prot (side : Nat) (f : Cls → Cls) : (setCls side f s).prot = s.prot := rfl
@[simp] theorem setCls_boot (side : Nat) (f : Cls → Cls) : (setCls side f s).boot = s.boot := rfl
@[simp] theorem setCls_tamper (side : Nat) (f : Cls → Cls) : (setCls side f s).tamper = s.tamper := rfl
@[simp] theorem setCls_cnt (side : Nat) (f : Cls → Cls) : (setCls side f s).cnt = s.cnt := rfl
@[simp] theorem setCls_mtr (side : Nat) (f : Cls → Cls) : (setCls side f s).mtr = s.mtr := rfl
@[simp] theorem setCls_drbg (side : Nat) (f : Cls → Cls) : (setCls side f s).drbg = s.drbg := rfl
@[simp] theorem setCls_free (side : Nat) (f : Cls → Cls) : (setCls side f s).free = s.free := rfl

@[simp] theorem setUnit_pending (u : Nat) (f : SUnit → SUnit) : (setUnit u f s).pending = s.pending := rfl
@[simp] theorem setUnit_profile (u : Nat) (f : SUnit → SUnit) : (setUnit u f s).profile = s.profile := rfl
@[simp] theorem setUnit_hif (u : Nat) (f : SUnit → SUnit) : (setUnit u f s).hif = s.hif := rfl
@[simp] theorem setUnit_evr (u : Nat) (f : SUnit → SUnit) : (setUnit u f s).evr = s.evr := rfl
@[simp] theorem setUnit_ports (u : Nat) (f : SUnit → SUnit) : (setUnit u f s).ports = s.ports := rfl
@[simp] theorem setUnit_cls (u : Nat) (f : SUnit → SUnit) : (setUnit u f s).cls = s.cls := rfl
@[simp] theorem setUnit_chan (u : Nat) (f : SUnit → SUnit) : (setUnit u f s).chan = s.chan := rfl
@[simp] theorem setUnit_slices (u : Nat) (f : SUnit → SUnit) : (setUnit u f s).slices = { s.slices with units := tmod .reset s.slices.units u f } := rfl
@[simp] theorem setUnit_km (u : Nat) (f : SUnit → SUnit) : (setUnit u f s).km = s.km := rfl
@[simp] theorem setUnit_tm (u : Nat) (f : SUnit → SUnit) : (setUnit u f s).tm = s.tm := rfl
@[simp] theorem setUnit_pol (u : Nat) (f : SUnit → SUnit) : (setUnit u f s).pol = s.pol := rfl
@[simp] theorem setUnit_gates (u : Nat) (f : SUnit → SUnit) : (setUnit u f s).gates = s.gates := rfl
@[simp] theorem setUnit_tsu (u : Nat) (f : SUnit → SUnit) : (setUnit u f s).tsu = s.tsu := rfl
@[simp] theorem setUnit_pack (u : Nat) (f : SUnit → SUnit) : (setUnit u f s).pack = s.pack := rfl
@[simp] theorem setUnit_flow (u : Nat) (f : SUnit → SUnit) : (setUnit u f s).flow = s.flow := rfl
@[simp] theorem setUnit_prot (u : Nat) (f : SUnit → SUnit) : (setUnit u f s).prot = s.prot := rfl
@[simp] theorem setUnit_boot (u : Nat) (f : SUnit → SUnit) : (setUnit u f s).boot = s.boot := rfl
@[simp] theorem setUnit_tamper (u : Nat) (f : SUnit → SUnit) : (setUnit u f s).tamper = s.tamper := rfl
@[simp] theorem setUnit_cnt (u : Nat) (f : SUnit → SUnit) : (setUnit u f s).cnt = s.cnt := rfl
@[simp] theorem setUnit_mtr (u : Nat) (f : SUnit → SUnit) : (setUnit u f s).mtr = s.mtr := rfl
@[simp] theorem setUnit_drbg (u : Nat) (f : SUnit → SUnit) : (setUnit u f s).drbg = s.drbg := rfl
@[simp] theorem setUnit_free (u : Nat) (f : SUnit → SUnit) : (setUnit u f s).free = s.free := rfl

@[simp] theorem setHot_pending (i : Nat) (h : Option Hot) : (setHot i h s).pending = s.pending := rfl
@[simp] theorem setHot_profile (i : Nat) (h : Option Hot) : (setHot i h s).profile = s.profile := rfl
@[simp] theorem setHot_hif (i : Nat) (h : Option Hot) : (setHot i h s).hif = s.hif := rfl
@[simp] theorem setHot_evr (i : Nat) (h : Option Hot) : (setHot i h s).evr = s.evr := rfl
@[simp] theorem setHot_ports (i : Nat) (h : Option Hot) : (setHot i h s).ports = s.ports := rfl
@[simp] theorem setHot_cls (i : Nat) (h : Option Hot) : (setHot i h s).cls = s.cls := rfl
@[simp] theorem setHot_chan (i : Nat) (h : Option Hot) : (setHot i h s).chan = s.chan := rfl
@[simp] theorem setHot_slices (i : Nat) (h : Option Hot) : (setHot i h s).slices = { s.slices with hot := tset none s.slices.hot i h } := rfl
@[simp] theorem setHot_km (i : Nat) (h : Option Hot) : (setHot i h s).km = s.km := rfl
@[simp] theorem setHot_tm (i : Nat) (h : Option Hot) : (setHot i h s).tm = s.tm := rfl
@[simp] theorem setHot_pol (i : Nat) (h : Option Hot) : (setHot i h s).pol = s.pol := rfl
@[simp] theorem setHot_gates (i : Nat) (h : Option Hot) : (setHot i h s).gates = s.gates := rfl
@[simp] theorem setHot_tsu (i : Nat) (h : Option Hot) : (setHot i h s).tsu = s.tsu := rfl
@[simp] theorem setHot_pack (i : Nat) (h : Option Hot) : (setHot i h s).pack = s.pack := rfl
@[simp] theorem setHot_flow (i : Nat) (h : Option Hot) : (setHot i h s).flow = s.flow := rfl
@[simp] theorem setHot_prot (i : Nat) (h : Option Hot) : (setHot i h s).prot = s.prot := rfl
@[simp] theorem setHot_boot (i : Nat) (h : Option Hot) : (setHot i h s).boot = s.boot := rfl
@[simp] theorem setHot_tamper (i : Nat) (h : Option Hot) : (setHot i h s).tamper = s.tamper := rfl
@[simp] theorem setHot_cnt (i : Nat) (h : Option Hot) : (setHot i h s).cnt = s.cnt := rfl
@[simp] theorem setHot_mtr (i : Nat) (h : Option Hot) : (setHot i h s).mtr = s.mtr := rfl
@[simp] theorem setHot_drbg (i : Nat) (h : Option Hot) : (setHot i h s).drbg = s.drbg := rfl
@[simp] theorem setHot_free (i : Nat) (h : Option Hot) : (setHot i h s).free = s.free := rfl

@[simp] theorem setKey_pending (i : Nat) (f : KeyRec → KeyRec) : (setKey i f s).pending = s.pending := rfl
@[simp] theorem setKey_profile (i : Nat) (f : KeyRec → KeyRec) : (setKey i f s).profile = s.profile := rfl
@[simp] theorem setKey_hif (i : Nat) (f : KeyRec → KeyRec) : (setKey i f s).hif = s.hif := rfl
@[simp] theorem setKey_evr (i : Nat) (f : KeyRec → KeyRec) : (setKey i f s).evr = s.evr := rfl
@[simp] theorem setKey_ports (i : Nat) (f : KeyRec → KeyRec) : (setKey i f s).ports = s.ports := rfl
@[simp] theorem setKey_cls (i : Nat) (f : KeyRec → KeyRec) : (setKey i f s).cls = s.cls := rfl
@[simp] theorem setKey_chan (i : Nat) (f : KeyRec → KeyRec) : (setKey i f s).chan = s.chan := rfl
@[simp] theorem setKey_slices (i : Nat) (f : KeyRec → KeyRec) : (setKey i f s).slices = s.slices := rfl
@[simp] theorem setKey_km (i : Nat) (f : KeyRec → KeyRec) : (setKey i f s).km = { s.km with keys := tmod .reset s.km.keys i f } := rfl
@[simp] theorem setKey_tm (i : Nat) (f : KeyRec → KeyRec) : (setKey i f s).tm = s.tm := rfl
@[simp] theorem setKey_pol (i : Nat) (f : KeyRec → KeyRec) : (setKey i f s).pol = s.pol := rfl
@[simp] theorem setKey_gates (i : Nat) (f : KeyRec → KeyRec) : (setKey i f s).gates = s.gates := rfl
@[simp] theorem setKey_tsu (i : Nat) (f : KeyRec → KeyRec) : (setKey i f s).tsu = s.tsu := rfl
@[simp] theorem setKey_pack (i : Nat) (f : KeyRec → KeyRec) : (setKey i f s).pack = s.pack := rfl
@[simp] theorem setKey_flow (i : Nat) (f : KeyRec → KeyRec) : (setKey i f s).flow = s.flow := rfl
@[simp] theorem setKey_prot (i : Nat) (f : KeyRec → KeyRec) : (setKey i f s).prot = s.prot := rfl
@[simp] theorem setKey_boot (i : Nat) (f : KeyRec → KeyRec) : (setKey i f s).boot = s.boot := rfl
@[simp] theorem setKey_tamper (i : Nat) (f : KeyRec → KeyRec) : (setKey i f s).tamper = s.tamper := rfl
@[simp] theorem setKey_cnt (i : Nat) (f : KeyRec → KeyRec) : (setKey i f s).cnt = s.cnt := rfl
@[simp] theorem setKey_mtr (i : Nat) (f : KeyRec → KeyRec) : (setKey i f s).mtr = s.mtr := rfl
@[simp] theorem setKey_drbg (i : Nat) (f : KeyRec → KeyRec) : (setKey i f s).drbg = s.drbg := rfl
@[simp] theorem setKey_free (i : Nat) (f : KeyRec → KeyRec) : (setKey i f s).free = s.free := rfl

@[simp] theorem setSlot_pending (i : Nat) (f : Slot → Slot) : (setSlot i f s).pending = s.pending := rfl
@[simp] theorem setSlot_profile (i : Nat) (f : Slot → Slot) : (setSlot i f s).profile = s.profile := rfl
@[simp] theorem setSlot_hif (i : Nat) (f : Slot → Slot) : (setSlot i f s).hif = s.hif := rfl
@[simp] theorem setSlot_evr (i : Nat) (f : Slot → Slot) : (setSlot i f s).evr = s.evr := rfl
@[simp] theorem setSlot_ports (i : Nat) (f : Slot → Slot) : (setSlot i f s).ports = s.ports := rfl
@[simp] theorem setSlot_cls (i : Nat) (f : Slot → Slot) : (setSlot i f s).cls = s.cls := rfl
@[simp] theorem setSlot_chan (i : Nat) (f : Slot → Slot) : (setSlot i f s).chan = s.chan := rfl
@[simp] theorem setSlot_slices (i : Nat) (f : Slot → Slot) : (setSlot i f s).slices = s.slices := rfl
@[simp] theorem setSlot_km (i : Nat) (f : Slot → Slot) : (setSlot i f s).km = { s.km with slots := tmod .reset s.km.slots i f } := rfl
@[simp] theorem setSlot_tm (i : Nat) (f : Slot → Slot) : (setSlot i f s).tm = s.tm := rfl
@[simp] theorem setSlot_pol (i : Nat) (f : Slot → Slot) : (setSlot i f s).pol = s.pol := rfl
@[simp] theorem setSlot_gates (i : Nat) (f : Slot → Slot) : (setSlot i f s).gates = s.gates := rfl
@[simp] theorem setSlot_tsu (i : Nat) (f : Slot → Slot) : (setSlot i f s).tsu = s.tsu := rfl
@[simp] theorem setSlot_pack (i : Nat) (f : Slot → Slot) : (setSlot i f s).pack = s.pack := rfl
@[simp] theorem setSlot_flow (i : Nat) (f : Slot → Slot) : (setSlot i f s).flow = s.flow := rfl
@[simp] theorem setSlot_prot (i : Nat) (f : Slot → Slot) : (setSlot i f s).prot = s.prot := rfl
@[simp] theorem setSlot_boot (i : Nat) (f : Slot → Slot) : (setSlot i f s).boot = s.boot := rfl
@[simp] theorem setSlot_tamper (i : Nat) (f : Slot → Slot) : (setSlot i f s).tamper = s.tamper := rfl
@[simp] theorem setSlot_cnt (i : Nat) (f : Slot → Slot) : (setSlot i f s).cnt = s.cnt := rfl
@[simp] theorem setSlot_mtr (i : Nat) (f : Slot → Slot) : (setSlot i f s).mtr = s.mtr := rfl
@[simp] theorem setSlot_drbg (i : Nat) (f : Slot → Slot) : (setSlot i f s).drbg = s.drbg := rfl
@[simp] theorem setSlot_free (i : Nat) (f : Slot → Slot) : (setSlot i f s).free = s.free := rfl

@[simp] theorem setStg_pending (f : Staging → Staging) : (setStg f s).pending = s.pending := rfl
@[simp] theorem setStg_profile (f : Staging → Staging) : (setStg f s).profile = s.profile := rfl
@[simp] theorem setStg_hif (f : Staging → Staging) : (setStg f s).hif = s.hif := rfl
@[simp] theorem setStg_evr (f : Staging → Staging) : (setStg f s).evr = s.evr := rfl
@[simp] theorem setStg_ports (f : Staging → Staging) : (setStg f s).ports = s.ports := rfl
@[simp] theorem setStg_cls (f : Staging → Staging) : (setStg f s).cls = s.cls := rfl
@[simp] theorem setStg_chan (f : Staging → Staging) : (setStg f s).chan = s.chan := rfl
@[simp] theorem setStg_slices (f : Staging → Staging) : (setStg f s).slices = s.slices := rfl
@[simp] theorem setStg_km (f : Staging → Staging) : (setStg f s).km = { s.km with stg := f s.km.stg } := rfl
@[simp] theorem setStg_tm (f : Staging → Staging) : (setStg f s).tm = s.tm := rfl
@[simp] theorem setStg_pol (f : Staging → Staging) : (setStg f s).pol = s.pol := rfl
@[simp] theorem setStg_gates (f : Staging → Staging) : (setStg f s).gates = s.gates := rfl
@[simp] theorem setStg_tsu (f : Staging → Staging) : (setStg f s).tsu = s.tsu := rfl
@[simp] theorem setStg_pack (f : Staging → Staging) : (setStg f s).pack = s.pack := rfl
@[simp] theorem setStg_flow (f : Staging → Staging) : (setStg f s).flow = s.flow := rfl
@[simp] theorem setStg_prot (f : Staging → Staging) : (setStg f s).prot = s.prot := rfl
@[simp] theorem setStg_boot (f : Staging → Staging) : (setStg f s).boot = s.boot := rfl
@[simp] theorem setStg_tamper (f : Staging → Staging) : (setStg f s).tamper = s.tamper := rfl
@[simp] theorem setStg_cnt (f : Staging → Staging) : (setStg f s).cnt = s.cnt := rfl
@[simp] theorem setStg_mtr (f : Staging → Staging) : (setStg f s).mtr = s.mtr := rfl
@[simp] theorem setStg_drbg (f : Staging → Staging) : (setStg f s).drbg = s.drbg := rfl
@[simp] theorem setStg_free (f : Staging → Staging) : (setStg f s).free = s.free := rfl

@[simp] theorem setTm_pending (side : Nat) (f : Tm → Tm) : (setTm side f s).pending = s.pending := rfl
@[simp] theorem setTm_profile (side : Nat) (f : Tm → Tm) : (setTm side f s).profile = s.profile := rfl
@[simp] theorem setTm_hif (side : Nat) (f : Tm → Tm) : (setTm side f s).hif = s.hif := rfl
@[simp] theorem setTm_evr (side : Nat) (f : Tm → Tm) : (setTm side f s).evr = s.evr := rfl
@[simp] theorem setTm_ports (side : Nat) (f : Tm → Tm) : (setTm side f s).ports = s.ports := rfl
@[simp] theorem setTm_cls (side : Nat) (f : Tm → Tm) : (setTm side f s).cls = s.cls := rfl
@[simp] theorem setTm_chan (side : Nat) (f : Tm → Tm) : (setTm side f s).chan = s.chan := rfl
@[simp] theorem setTm_slices (side : Nat) (f : Tm → Tm) : (setTm side f s).slices = s.slices := rfl
@[simp] theorem setTm_km (side : Nat) (f : Tm → Tm) : (setTm side f s).km = s.km := rfl
@[simp] theorem setTm_tm (side : Nat) (f : Tm → Tm) : (setTm side f s).tm = s.tm.upd side f := rfl
@[simp] theorem setTm_pol (side : Nat) (f : Tm → Tm) : (setTm side f s).pol = s.pol := rfl
@[simp] theorem setTm_gates (side : Nat) (f : Tm → Tm) : (setTm side f s).gates = s.gates := rfl
@[simp] theorem setTm_tsu (side : Nat) (f : Tm → Tm) : (setTm side f s).tsu = s.tsu := rfl
@[simp] theorem setTm_pack (side : Nat) (f : Tm → Tm) : (setTm side f s).pack = s.pack := rfl
@[simp] theorem setTm_flow (side : Nat) (f : Tm → Tm) : (setTm side f s).flow = s.flow := rfl
@[simp] theorem setTm_prot (side : Nat) (f : Tm → Tm) : (setTm side f s).prot = s.prot := rfl
@[simp] theorem setTm_boot (side : Nat) (f : Tm → Tm) : (setTm side f s).boot = s.boot := rfl
@[simp] theorem setTm_tamper (side : Nat) (f : Tm → Tm) : (setTm side f s).tamper = s.tamper := rfl
@[simp] theorem setTm_cnt (side : Nat) (f : Tm → Tm) : (setTm side f s).cnt = s.cnt := rfl
@[simp] theorem setTm_mtr (side : Nat) (f : Tm → Tm) : (setTm side f s).mtr = s.mtr := rfl
@[simp] theorem setTm_drbg (side : Nat) (f : Tm → Tm) : (setTm side f s).drbg = s.drbg := rfl
@[simp] theorem setTm_free (side : Nat) (f : Tm → Tm) : (setTm side f s).free = s.free := rfl

@[simp] theorem setPol_pending (side i : Nat) (f : Policer → Policer) : (setPol side i f s).pending = s.pending := rfl
@[simp] theorem setPol_profile (side i : Nat) (f : Policer → Policer) : (setPol side i f s).profile = s.profile := rfl
@[simp] theorem setPol_hif (side i : Nat) (f : Policer → Policer) : (setPol side i f s).hif = s.hif := rfl
@[simp] theorem setPol_evr (side i : Nat) (f : Policer → Policer) : (setPol side i f s).evr = s.evr := rfl
@[simp] theorem setPol_ports (side i : Nat) (f : Policer → Policer) : (setPol side i f s).ports = s.ports := rfl
@[simp] theorem setPol_cls (side i : Nat) (f : Policer → Policer) : (setPol side i f s).cls = s.cls := rfl
@[simp] theorem setPol_chan (side i : Nat) (f : Policer → Policer) : (setPol side i f s).chan = s.chan := rfl
@[simp] theorem setPol_slices (side i : Nat) (f : Policer → Policer) : (setPol side i f s).slices = s.slices := rfl
@[simp] theorem setPol_km (side i : Nat) (f : Policer → Policer) : (setPol side i f s).km = s.km := rfl
@[simp] theorem setPol_tm (side i : Nat) (f : Policer → Policer) : (setPol side i f s).tm = s.tm := rfl
@[simp] theorem setPol_pol (side i : Nat) (f : Policer → Policer) : (setPol side i f s).pol = s.pol.upd side (fun t => tmod .reset t i f) := rfl
@[simp] theorem setPol_gates (side i : Nat) (f : Policer → Policer) : (setPol side i f s).gates = s.gates := rfl
@[simp] theorem setPol_tsu (side i : Nat) (f : Policer → Policer) : (setPol side i f s).tsu = s.tsu := rfl
@[simp] theorem setPol_pack (side i : Nat) (f : Policer → Policer) : (setPol side i f s).pack = s.pack := rfl
@[simp] theorem setPol_flow (side i : Nat) (f : Policer → Policer) : (setPol side i f s).flow = s.flow := rfl
@[simp] theorem setPol_prot (side i : Nat) (f : Policer → Policer) : (setPol side i f s).prot = s.prot := rfl
@[simp] theorem setPol_boot (side i : Nat) (f : Policer → Policer) : (setPol side i f s).boot = s.boot := rfl
@[simp] theorem setPol_tamper (side i : Nat) (f : Policer → Policer) : (setPol side i f s).tamper = s.tamper := rfl
@[simp] theorem setPol_cnt (side i : Nat) (f : Policer → Policer) : (setPol side i f s).cnt = s.cnt := rfl
@[simp] theorem setPol_mtr (side i : Nat) (f : Policer → Policer) : (setPol side i f s).mtr = s.mtr := rfl
@[simp] theorem setPol_drbg (side i : Nat) (f : Policer → Policer) : (setPol side i f s).drbg = s.drbg := rfl
@[simp] theorem setPol_free (side i : Nat) (f : Policer → Policer) : (setPol side i f s).free = s.free := rfl

@[simp] theorem setGate_pending (p : Nat) (f : Gate → Gate) : (setGate p f s).pending = s.pending := rfl
@[simp] theorem setGate_profile (p : Nat) (f : Gate → Gate) : (setGate p f s).profile = s.profile := rfl
@[simp] theorem setGate_hif (p : Nat) (f : Gate → Gate) : (setGate p f s).hif = s.hif := rfl
@[simp] theorem setGate_evr (p : Nat) (f : Gate → Gate) : (setGate p f s).evr = s.evr := rfl
@[simp] theorem setGate_ports (p : Nat) (f : Gate → Gate) : (setGate p f s).ports = s.ports := rfl
@[simp] theorem setGate_cls (p : Nat) (f : Gate → Gate) : (setGate p f s).cls = s.cls := rfl
@[simp] theorem setGate_chan (p : Nat) (f : Gate → Gate) : (setGate p f s).chan = s.chan := rfl
@[simp] theorem setGate_slices (p : Nat) (f : Gate → Gate) : (setGate p f s).slices = s.slices := rfl
@[simp] theorem setGate_km (p : Nat) (f : Gate → Gate) : (setGate p f s).km = s.km := rfl
@[simp] theorem setGate_tm (p : Nat) (f : Gate → Gate) : (setGate p f s).tm = s.tm := rfl
@[simp] theorem setGate_pol (p : Nat) (f : Gate → Gate) : (setGate p f s).pol = s.pol := rfl
@[simp] theorem setGate_gates (p : Nat) (f : Gate → Gate) : (setGate p f s).gates = tmod .reset s.gates p f := rfl
@[simp] theorem setGate_tsu (p : Nat) (f : Gate → Gate) : (setGate p f s).tsu = s.tsu := rfl
@[simp] theorem setGate_pack (p : Nat) (f : Gate → Gate) : (setGate p f s).pack = s.pack := rfl
@[simp] theorem setGate_flow (p : Nat) (f : Gate → Gate) : (setGate p f s).flow = s.flow := rfl
@[simp] theorem setGate_prot (p : Nat) (f : Gate → Gate) : (setGate p f s).prot = s.prot := rfl
@[simp] theorem setGate_boot (p : Nat) (f : Gate → Gate) : (setGate p f s).boot = s.boot := rfl
@[simp] theorem setGate_tamper (p : Nat) (f : Gate → Gate) : (setGate p f s).tamper = s.tamper := rfl
@[simp] theorem setGate_cnt (p : Nat) (f : Gate → Gate) : (setGate p f s).cnt = s.cnt := rfl
@[simp] theorem setGate_mtr (p : Nat) (f : Gate → Gate) : (setGate p f s).mtr = s.mtr := rfl
@[simp] theorem setGate_drbg (p : Nat) (f : Gate → Gate) : (setGate p f s).drbg = s.drbg := rfl
@[simp] theorem setGate_free (p : Nat) (f : Gate → Gate) : (setGate p f s).free = s.free := rfl

@[simp] theorem setTsu_pending (f : Tsu → Tsu) : (setTsu f s).pending = s.pending := rfl
@[simp] theorem setTsu_profile (f : Tsu → Tsu) : (setTsu f s).profile = s.profile := rfl
@[simp] theorem setTsu_hif (f : Tsu → Tsu) : (setTsu f s).hif = s.hif := rfl
@[simp] theorem setTsu_evr (f : Tsu → Tsu) : (setTsu f s).evr = s.evr := rfl
@[simp] theorem setTsu_ports (f : Tsu → Tsu) : (setTsu f s).ports = s.ports := rfl
@[simp] theorem setTsu_cls (f : Tsu → Tsu) : (setTsu f s).cls = s.cls := rfl
@[simp] theorem setTsu_chan (f : Tsu → Tsu) : (setTsu f s).chan = s.chan := rfl
@[simp] theorem setTsu_slices (f : Tsu → Tsu) : (setTsu f s).slices = s.slices := rfl
@[simp] theorem setTsu_km (f : Tsu → Tsu) : (setTsu f s).km = s.km := rfl
@[simp] theorem setTsu_tm (f : Tsu → Tsu) : (setTsu f s).tm = s.tm := rfl
@[simp] theorem setTsu_pol (f : Tsu → Tsu) : (setTsu f s).pol = s.pol := rfl
@[simp] theorem setTsu_gates (f : Tsu → Tsu) : (setTsu f s).gates = s.gates := rfl
@[simp] theorem setTsu_tsu (f : Tsu → Tsu) : (setTsu f s).tsu = f s.tsu := rfl
@[simp] theorem setTsu_pack (f : Tsu → Tsu) : (setTsu f s).pack = s.pack := rfl
@[simp] theorem setTsu_flow (f : Tsu → Tsu) : (setTsu f s).flow = s.flow := rfl
@[simp] theorem setTsu_prot (f : Tsu → Tsu) : (setTsu f s).prot = s.prot := rfl
@[simp] theorem setTsu_boot (f : Tsu → Tsu) : (setTsu f s).boot = s.boot := rfl
@[simp] theorem setTsu_tamper (f : Tsu → Tsu) : (setTsu f s).tamper = s.tamper := rfl
@[simp] theorem setTsu_cnt (f : Tsu → Tsu) : (setTsu f s).cnt = s.cnt := rfl
@[simp] theorem setTsu_mtr (f : Tsu → Tsu) : (setTsu f s).mtr = s.mtr := rfl
@[simp] theorem setTsu_drbg (f : Tsu → Tsu) : (setTsu f s).drbg = s.drbg := rfl
@[simp] theorem setTsu_free (f : Tsu → Tsu) : (setTsu f s).free = s.free := rfl

@[simp] theorem setPack_pending (f : Pack → Pack) : (setPack f s).pending = s.pending := rfl
@[simp] theorem setPack_profile (f : Pack → Pack) : (setPack f s).profile = s.profile := rfl
@[simp] theorem setPack_hif (f : Pack → Pack) : (setPack f s).hif = s.hif := rfl
@[simp] theorem setPack_evr (f : Pack → Pack) : (setPack f s).evr = s.evr := rfl
@[simp] theorem setPack_ports (f : Pack → Pack) : (setPack f s).ports = s.ports := rfl
@[simp] theorem setPack_cls (f : Pack → Pack) : (setPack f s).cls = s.cls := rfl
@[simp] theorem setPack_chan (f : Pack → Pack) : (setPack f s).chan = s.chan := rfl
@[simp] theorem setPack_slices (f : Pack → Pack) : (setPack f s).slices = s.slices := rfl
@[simp] theorem setPack_km (f : Pack → Pack) : (setPack f s).km = s.km := rfl
@[simp] theorem setPack_tm (f : Pack → Pack) : (setPack f s).tm = s.tm := rfl
@[simp] theorem setPack_pol (f : Pack → Pack) : (setPack f s).pol = s.pol := rfl
@[simp] theorem setPack_gates (f : Pack → Pack) : (setPack f s).gates = s.gates := rfl
@[simp] theorem setPack_tsu (f : Pack → Pack) : (setPack f s).tsu = s.tsu := rfl
@[simp] theorem setPack_pack (f : Pack → Pack) : (setPack f s).pack = f s.pack := rfl
@[simp] theorem setPack_flow (f : Pack → Pack) : (setPack f s).flow = s.flow := rfl
@[simp] theorem setPack_prot (f : Pack → Pack) : (setPack f s).prot = s.prot := rfl
@[simp] theorem setPack_boot (f : Pack → Pack) : (setPack f s).boot = s.boot := rfl
@[simp] theorem setPack_tamper (f : Pack → Pack) : (setPack f s).tamper = s.tamper := rfl
@[simp] theorem setPack_cnt (f : Pack → Pack) : (setPack f s).cnt = s.cnt := rfl
@[simp] theorem setPack_mtr (f : Pack → Pack) : (setPack f s).mtr = s.mtr := rfl
@[simp] theorem setPack_drbg (f : Pack → Pack) : (setPack f s).drbg = s.drbg := rfl
@[simp] theorem setPack_free (f : Pack → Pack) : (setPack f s).free = s.free := rfl

@[simp] theorem setFrame_pending (i : Nat) (f : Option Frame) : (setFrame i f s).pending = s.pending := rfl
@[simp] theorem setFrame_profile (i : Nat) (f : Option Frame) : (setFrame i f s).profile = s.profile := rfl
@[simp] theorem setFrame_hif (i : Nat) (f : Option Frame) : (setFrame i f s).hif = s.hif := rfl
@[simp] theorem setFrame_evr (i : Nat) (f : Option Frame) : (setFrame i f s).evr = s.evr := rfl
@[simp] theorem setFrame_ports (i : Nat) (f : Option Frame) : (setFrame i f s).ports = s.ports := rfl
@[simp] theorem setFrame_cls (i : Nat) (f : Option Frame) : (setFrame i f s).cls = s.cls := rfl
@[simp] theorem setFrame_chan (i : Nat) (f : Option Frame) : (setFrame i f s).chan = s.chan := rfl
@[simp] theorem setFrame_slices (i : Nat) (f : Option Frame) : (setFrame i f s).slices = s.slices := rfl
@[simp] theorem setFrame_km (i : Nat) (f : Option Frame) : (setFrame i f s).km = s.km := rfl
@[simp] theorem setFrame_tm (i : Nat) (f : Option Frame) : (setFrame i f s).tm = s.tm := rfl
@[simp] theorem setFrame_pol (i : Nat) (f : Option Frame) : (setFrame i f s).pol = s.pol := rfl
@[simp] theorem setFrame_gates (i : Nat) (f : Option Frame) : (setFrame i f s).gates = s.gates := rfl
@[simp] theorem setFrame_tsu (i : Nat) (f : Option Frame) : (setFrame i f s).tsu = s.tsu := rfl
@[simp] theorem setFrame_pack (i : Nat) (f : Option Frame) : (setFrame i f s).pack = s.pack := rfl
@[simp] theorem setFrame_flow (i : Nat) (f : Option Frame) : (setFrame i f s).flow = { s.flow with frames := tset none s.flow.frames i f } := rfl
@[simp] theorem setFrame_prot (i : Nat) (f : Option Frame) : (setFrame i f s).prot = s.prot := rfl
@[simp] theorem setFrame_boot (i : Nat) (f : Option Frame) : (setFrame i f s).boot = s.boot := rfl
@[simp] theorem setFrame_tamper (i : Nat) (f : Option Frame) : (setFrame i f s).tamper = s.tamper := rfl
@[simp] theorem setFrame_cnt (i : Nat) (f : Option Frame) : (setFrame i f s).cnt = s.cnt := rfl
@[simp] theorem setFrame_mtr (i : Nat) (f : Option Frame) : (setFrame i f s).mtr = s.mtr := rfl
@[simp] theorem setFrame_drbg (i : Nat) (f : Option Frame) : (setFrame i f s).drbg = s.drbg := rfl
@[simp] theorem setFrame_free (i : Nat) (f : Option Frame) : (setFrame i f s).free = s.free := rfl

@[simp] theorem setProt_pending (f : Prot → Prot) : (setProt f s).pending = s.pending := rfl
@[simp] theorem setProt_profile (f : Prot → Prot) : (setProt f s).profile = s.profile := rfl
@[simp] theorem setProt_hif (f : Prot → Prot) : (setProt f s).hif = s.hif := rfl
@[simp] theorem setProt_evr (f : Prot → Prot) : (setProt f s).evr = s.evr := rfl
@[simp] theorem setProt_ports (f : Prot → Prot) : (setProt f s).ports = s.ports := rfl
@[simp] theorem setProt_cls (f : Prot → Prot) : (setProt f s).cls = s.cls := rfl
@[simp] theorem setProt_chan (f : Prot → Prot) : (setProt f s).chan = s.chan := rfl
@[simp] theorem setProt_slices (f : Prot → Prot) : (setProt f s).slices = s.slices := rfl
@[simp] theorem setProt_km (f : Prot → Prot) : (setProt f s).km = s.km := rfl
@[simp] theorem setProt_tm (f : Prot → Prot) : (setProt f s).tm = s.tm := rfl
@[simp] theorem setProt_pol (f : Prot → Prot) : (setProt f s).pol = s.pol := rfl
@[simp] theorem setProt_gates (f : Prot → Prot) : (setProt f s).gates = s.gates := rfl
@[simp] theorem setProt_tsu (f : Prot → Prot) : (setProt f s).tsu = s.tsu := rfl
@[simp] theorem setProt_pack (f : Prot → Prot) : (setProt f s).pack = s.pack := rfl
@[simp] theorem setProt_flow (f : Prot → Prot) : (setProt f s).flow = s.flow := rfl
@[simp] theorem setProt_prot (f : Prot → Prot) : (setProt f s).prot = f s.prot := rfl
@[simp] theorem setProt_boot (f : Prot → Prot) : (setProt f s).boot = s.boot := rfl
@[simp] theorem setProt_tamper (f : Prot → Prot) : (setProt f s).tamper = s.tamper := rfl
@[simp] theorem setProt_cnt (f : Prot → Prot) : (setProt f s).cnt = s.cnt := rfl
@[simp] theorem setProt_mtr (f : Prot → Prot) : (setProt f s).mtr = s.mtr := rfl
@[simp] theorem setProt_drbg (f : Prot → Prot) : (setProt f s).drbg = s.drbg := rfl
@[simp] theorem setProt_free (f : Prot → Prot) : (setProt f s).free = s.free := rfl

@[simp] theorem setBoot_pending (f : Boot → Boot) : (setBoot f s).pending = s.pending := rfl
@[simp] theorem setBoot_profile (f : Boot → Boot) : (setBoot f s).profile = s.profile := rfl
@[simp] theorem setBoot_hif (f : Boot → Boot) : (setBoot f s).hif = s.hif := rfl
@[simp] theorem setBoot_evr (f : Boot → Boot) : (setBoot f s).evr = s.evr := rfl
@[simp] theorem setBoot_ports (f : Boot → Boot) : (setBoot f s).ports = s.ports := rfl
@[simp] theorem setBoot_cls (f : Boot → Boot) : (setBoot f s).cls = s.cls := rfl
@[simp] theorem setBoot_chan (f : Boot → Boot) : (setBoot f s).chan = s.chan := rfl
@[simp] theorem setBoot_slices (f : Boot → Boot) : (setBoot f s).slices = s.slices := rfl
@[simp] theorem setBoot_km (f : Boot → Boot) : (setBoot f s).km = s.km := rfl
@[simp] theorem setBoot_tm (f : Boot → Boot) : (setBoot f s).tm = s.tm := rfl
@[simp] theorem setBoot_pol (f : Boot → Boot) : (setBoot f s).pol = s.pol := rfl
@[simp] theorem setBoot_gates (f : Boot → Boot) : (setBoot f s).gates = s.gates := rfl
@[simp] theorem setBoot_tsu (f : Boot → Boot) : (setBoot f s).tsu = s.tsu := rfl
@[simp] theorem setBoot_pack (f : Boot → Boot) : (setBoot f s).pack = s.pack := rfl
@[simp] theorem setBoot_flow (f : Boot → Boot) : (setBoot f s).flow = s.flow := rfl
@[simp] theorem setBoot_prot (f : Boot → Boot) : (setBoot f s).prot = s.prot := rfl
@[simp] theorem setBoot_boot (f : Boot → Boot) : (setBoot f s).boot = f s.boot := rfl
@[simp] theorem setBoot_tamper (f : Boot → Boot) : (setBoot f s).tamper = s.tamper := rfl
@[simp] theorem setBoot_cnt (f : Boot → Boot) : (setBoot f s).cnt = s.cnt := rfl
@[simp] theorem setBoot_mtr (f : Boot → Boot) : (setBoot f s).mtr = s.mtr := rfl
@[simp] theorem setBoot_drbg (f : Boot → Boot) : (setBoot f s).drbg = s.drbg := rfl
@[simp] theorem setBoot_free (f : Boot → Boot) : (setBoot f s).free = s.free := rfl

@[simp] theorem setTamper_pending (f : Tamper → Tamper) : (setTamper f s).pending = s.pending := rfl
@[simp] theorem setTamper_profile (f : Tamper → Tamper) : (setTamper f s).profile = s.profile := rfl
@[simp] theorem setTamper_hif (f : Tamper → Tamper) : (setTamper f s).hif = s.hif := rfl
@[simp] theorem setTamper_evr (f : Tamper → Tamper) : (setTamper f s).evr = s.evr := rfl
@[simp] theorem setTamper_ports (f : Tamper → Tamper) : (setTamper f s).ports = s.ports := rfl
@[simp] theorem setTamper_cls (f : Tamper → Tamper) : (setTamper f s).cls = s.cls := rfl
@[simp] theorem setTamper_chan (f : Tamper → Tamper) : (setTamper f s).chan = s.chan := rfl
@[simp] theorem setTamper_slices (f : Tamper → Tamper) : (setTamper f s).slices = s.slices := rfl
@[simp] theorem setTamper_km (f : Tamper → Tamper) : (setTamper f s).km = s.km := rfl
@[simp] theorem setTamper_tm (f : Tamper → Tamper) : (setTamper f s).tm = s.tm := rfl
@[simp] theorem setTamper_pol (f : Tamper → Tamper) : (setTamper f s).pol = s.pol := rfl
@[simp] theorem setTamper_gates (f : Tamper → Tamper) : (setTamper f s).gates = s.gates := rfl
@[simp] theorem setTamper_tsu (f : Tamper → Tamper) : (setTamper f s).tsu = s.tsu := rfl
@[simp] theorem setTamper_pack (f : Tamper → Tamper) : (setTamper f s).pack = s.pack := rfl
@[simp] theorem setTamper_flow (f : Tamper → Tamper) : (setTamper f s).flow = s.flow := rfl
@[simp] theorem setTamper_prot (f : Tamper → Tamper) : (setTamper f s).prot = s.prot := rfl
@[simp] theorem setTamper_boot (f : Tamper → Tamper) : (setTamper f s).boot = s.boot := rfl
@[simp] theorem setTamper_tamper (f : Tamper → Tamper) : (setTamper f s).tamper = f s.tamper := rfl
@[simp] theorem setTamper_cnt (f : Tamper → Tamper) : (setTamper f s).cnt = s.cnt := rfl
@[simp] theorem setTamper_mtr (f : Tamper → Tamper) : (setTamper f s).mtr = s.mtr := rfl
@[simp] theorem setTamper_drbg (f : Tamper → Tamper) : (setTamper f s).drbg = s.drbg := rfl
@[simp] theorem setTamper_free (f : Tamper → Tamper) : (setTamper f s).free = s.free := rfl

@[simp] theorem setCnt_pending (f : Cnt → Cnt) : (setCnt f s).pending = s.pending := rfl
@[simp] theorem setCnt_profile (f : Cnt → Cnt) : (setCnt f s).profile = s.profile := rfl
@[simp] theorem setCnt_hif (f : Cnt → Cnt) : (setCnt f s).hif = s.hif := rfl
@[simp] theorem setCnt_evr (f : Cnt → Cnt) : (setCnt f s).evr = s.evr := rfl
@[simp] theorem setCnt_ports (f : Cnt → Cnt) : (setCnt f s).ports = s.ports := rfl
@[simp] theorem setCnt_cls (f : Cnt → Cnt) : (setCnt f s).cls = s.cls := rfl
@[simp] theorem setCnt_chan (f : Cnt → Cnt) : (setCnt f s).chan = s.chan := rfl
@[simp] theorem setCnt_slices (f : Cnt → Cnt) : (setCnt f s).slices = s.slices := rfl
@[simp] theorem setCnt_km (f : Cnt → Cnt) : (setCnt f s).km = s.km := rfl
@[simp] theorem setCnt_tm (f : Cnt → Cnt) : (setCnt f s).tm = s.tm := rfl
@[simp] theorem setCnt_pol (f : Cnt → Cnt) : (setCnt f s).pol = s.pol := rfl
@[simp] theorem setCnt_gates (f : Cnt → Cnt) : (setCnt f s).gates = s.gates := rfl
@[simp] theorem setCnt_tsu (f : Cnt → Cnt) : (setCnt f s).tsu = s.tsu := rfl
@[simp] theorem setCnt_pack (f : Cnt → Cnt) : (setCnt f s).pack = s.pack := rfl
@[simp] theorem setCnt_flow (f : Cnt → Cnt) : (setCnt f s).flow = s.flow := rfl
@[simp] theorem setCnt_prot (f : Cnt → Cnt) : (setCnt f s).prot = s.prot := rfl
@[simp] theorem setCnt_boot (f : Cnt → Cnt) : (setCnt f s).boot = s.boot := rfl
@[simp] theorem setCnt_tamper (f : Cnt → Cnt) : (setCnt f s).tamper = s.tamper := rfl
@[simp] theorem setCnt_cnt (f : Cnt → Cnt) : (setCnt f s).cnt = f s.cnt := rfl
@[simp] theorem setCnt_mtr (f : Cnt → Cnt) : (setCnt f s).mtr = s.mtr := rfl
@[simp] theorem setCnt_drbg (f : Cnt → Cnt) : (setCnt f s).drbg = s.drbg := rfl
@[simp] theorem setCnt_free (f : Cnt → Cnt) : (setCnt f s).free = s.free := rfl

@[simp] theorem setMtr_pending (f : Mtr → Mtr) : (setMtr f s).pending = s.pending := rfl
@[simp] theorem setMtr_profile (f : Mtr → Mtr) : (setMtr f s).profile = s.profile := rfl
@[simp] theorem setMtr_hif (f : Mtr → Mtr) : (setMtr f s).hif = s.hif := rfl
@[simp] theorem setMtr_evr (f : Mtr → Mtr) : (setMtr f s).evr = s.evr := rfl
@[simp] theorem setMtr_ports (f : Mtr → Mtr) : (setMtr f s).ports = s.ports := rfl
@[simp] theorem setMtr_cls (f : Mtr → Mtr) : (setMtr f s).cls = s.cls := rfl
@[simp] theorem setMtr_chan (f : Mtr → Mtr) : (setMtr f s).chan = s.chan := rfl
@[simp] theorem setMtr_slices (f : Mtr → Mtr) : (setMtr f s).slices = s.slices := rfl
@[simp] theorem setMtr_km (f : Mtr → Mtr) : (setMtr f s).km = s.km := rfl
@[simp] theorem setMtr_tm (f : Mtr → Mtr) : (setMtr f s).tm = s.tm := rfl
@[simp] theorem setMtr_pol (f : Mtr → Mtr) : (setMtr f s).pol = s.pol := rfl
@[simp] theorem setMtr_gates (f : Mtr → Mtr) : (setMtr f s).gates = s.gates := rfl
@[simp] theorem setMtr_tsu (f : Mtr → Mtr) : (setMtr f s).tsu = s.tsu := rfl
@[simp] theorem setMtr_pack (f : Mtr → Mtr) : (setMtr f s).pack = s.pack := rfl
@[simp] theorem setMtr_flow (f : Mtr → Mtr) : (setMtr f s).flow = s.flow := rfl
@[simp] theorem setMtr_prot (f : Mtr → Mtr) : (setMtr f s).prot = s.prot := rfl
@[simp] theorem setMtr_boot (f : Mtr → Mtr) : (setMtr f s).boot = s.boot := rfl
@[simp] theorem setMtr_tamper (f : Mtr → Mtr) : (setMtr f s).tamper = s.tamper := rfl
@[simp] theorem setMtr_cnt (f : Mtr → Mtr) : (setMtr f s).cnt = s.cnt := rfl
@[simp] theorem setMtr_mtr (f : Mtr → Mtr) : (setMtr f s).mtr = f s.mtr := rfl
@[simp] theorem setMtr_drbg (f : Mtr → Mtr) : (setMtr f s).drbg = s.drbg := rfl
@[simp] theorem setMtr_free (f : Mtr → Mtr) : (setMtr f s).free = s.free := rfl

end Sys2Proof.Machine
end

