-- ==== Sys2Proof/Laws/Ops.lean ====
section
/-! SUPPORT. What the shared operations can do: events, interrupts, notifications, mailboxes, the completion of a command,
each said once. -/
namespace Sys2Proof.Machine

/-! ### What keeps the invariant -/

/-- A change of the host interface, the recorder, MB_MTR and the occurrence counts keeps the invariant where their own bounds hold. -/
theorem Inv.host {s : State} (h : Inv s) {hif : Hif} {evr : Evr} {mb : Mailbox} {occ : Tab W64}
    (ring : (evr.ring.map Rec.size).foldl (· + ·) 0 ≤ 262144) (backlog : hif.backlog.length ≤ 1024)
    (hw : evr.hwFifo.length ≤ 64) (fw : evr.fwQueue.length ≤ 256) (ov : evr.overrides.length ≤ 64)
    (sessions : hif.sessions.length ≤ 16) :
    Inv { s with hif := hif, evr := evr, mtr := { s.mtr with mb := mb }, cnt := { s.cnt with occ := occ } } :=
  have c := h.tables
  ⟨⟨c.mem, c.regions, c.denyCnt, c.ports, c.units, c.gates, c.frames, c.scs, c.sas, c.slots, c.sym, c.asym, c.ctxs, c.lineages,
    c.peers, c.crdList, c.crdResult, c.chs⟩, ring, backlog, h.staging, h.learnQ, h.timestamps, hw, fw, ov, sessions, h.evidence⟩

/-- Where those bounds' queues stay as they are, nothing is left to show. -/
theorem Inv.same {s : State} (h : Inv s) {hif : Hif} {evr : Evr} {mb : Mailbox} {occ : Tab W64} (er : evr.ring = s.evr.ring)
    (eb : hif.backlog = s.hif.backlog) (eh : evr.hwFifo = s.evr.hwFifo) (ef : evr.fwQueue = s.evr.fwQueue)
    (eo : evr.overrides = s.evr.overrides) (es : hif.sessions = s.hif.sessions) :
    Inv { s with hif := hif, evr := evr, mtr := { s.mtr with mb := mb }, cnt := { s.cnt with occ := occ } } :=
  h.host (by rw [er]; exact h.ring) (by rw [eb]; exact h.backlog) (by rw [eh]; exact h.hwFifo) (by rw [ef]; exact h.fwQueue)
    (by rw [eo]; exact h.overrides) (by rw [es]; exact h.sessions)

/-! ### Occurrences of performance events -/

/-- An occurrence changes one count of Cnt.occ, and nothing else. -/
theorem occur_frame (k e p n : Nat) (s : State) :
    occur k e p n s = { s with cnt := { s.cnt with occ := (occur k e p n s).cnt.occ } } := rfl

theorem occur_inv (k e p n : Nat) {s : State} (h : Inv s) : Inv (occur k e p n s) := (h.same rfl rfl rfl rfl rfl rfl)

@[simp] theorem occur_hif (k e p n : Nat) (s : State) : (occur k e p n s).hif = s.hif := rfl
@[simp] theorem occur_evr (k e p n : Nat) (s : State) : (occur k e p n s).evr = s.evr := rfl
@[simp] theorem occur_ports (k e p n : Nat) (s : State) : (occur k e p n s).ports = s.ports := rfl
@[simp] theorem occur_cls (k e p n : Nat) (s : State) : (occur k e p n s).cls = s.cls := rfl
@[simp] theorem occur_chan (k e p n : Nat) (s : State) : (occur k e p n s).chan = s.chan := rfl
@[simp] theorem occur_slices (k e p n : Nat) (s : State) : (occur k e p n s).slices = s.slices := rfl
@[simp] theorem occur_km (k e p n : Nat) (s : State) : (occur k e p n s).km = s.km := rfl
@[simp] theorem occur_tm (k e p n : Nat) (s : State) : (occur k e p n s).tm = s.tm := rfl
@[simp] theorem occur_pol (k e p n : Nat) (s : State) : (occur k e p n s).pol = s.pol := rfl
@[simp] theorem occur_gates (k e p n : Nat) (s : State) : (occur k e p n s).gates = s.gates := rfl
@[simp] theorem occur_tsu (k e p n : Nat) (s : State) : (occur k e p n s).tsu = s.tsu := rfl
@[simp] theorem occur_pack (k e p n : Nat) (s : State) : (occur k e p n s).pack = s.pack := rfl
@[simp] theorem occur_flow (k e p n : Nat) (s : State) : (occur k e p n s).flow = s.flow := rfl
@[simp] theorem occur_prot (k e p n : Nat) (s : State) : (occur k e p n s).prot = s.prot := rfl
@[simp] theorem occur_boot (k e p n : Nat) (s : State) : (occur k e p n s).boot = s.boot := rfl
@[simp] theorem occur_tamper (k e p n : Nat) (s : State) : (occur k e p n s).tamper = s.tamper := rfl
@[simp] theorem occur_mtr (k e p n : Nat) (s : State) : (occur k e p n s).mtr = s.mtr := rfl
@[simp] theorem occur_drbg (k e p n : Nat) (s : State) : (occur k e p n s).drbg = s.drbg := rfl
@[simp] theorem occur_free (k e p n : Nat) (s : State) : (occur k e p n s).free = s.free := rfl
@[simp] theorem occur_pending (k e p n : Nat) (s : State) : (occur k e p n s).pending = s.pending := rfl

/-! ### Events -/

/-- A hardware event enters the crossing FIFO while it has room. -/
theorem evH_room (code : Nat) (ps : Bytes) (s : State) (h : s.evr.hwFifo.length < 64) :
    evH code ps s = { s with evr := { s.evr with hwFifo := s.evr.hwFifo ++ [evAt code ps s] } } := by simp [evH, h]

/-- A hardware event that finds no room is counted, and nothing else happens. -/
theorem evH_full (code : Nat) (ps : Bytes) (s : State) (h : 64 ≤ s.evr.hwFifo.length) :
    evH code ps s = { s with evr := { s.evr with
      inputLostCnt := s.evr.inputLostCnt + 1, lostSince := s.evr.lostSince + 1 } } := by
  simp [evH, evLost, Nat.not_lt.mpr h]

/-- A hardware event changes the recorder alone. -/
theorem evH_frame (code : Nat) (ps : Bytes) (s : State) : evH code ps s = { s with evr := (evH code ps s).evr } := by
  unfold evH evLost; split <;> rfl

/-- A firmware event changes the recorder alone. -/
theorem evF_frame (code : Nat) (ps : Bytes) (s : State) : evF code ps s = { s with evr := (evF code ps s).evr } := by
  unfold evF evLost; split <;> rfl

/-- Of the recorder, an event can change the two queues and the two loss counts. -/
theorem evH_evr (code : Nat) (ps : Bytes) (s : State) : (evH code ps s).evr = { s.evr with
    hwFifo := (evH code ps s).evr.hwFifo, inputLostCnt := (evH code ps s).evr.inputLostCnt,
    lostSince := (evH code ps s).evr.lostSince } := by
  unfold evH evLost; split <;> rfl

theorem evF_evr (code : Nat) (ps : Bytes) (s : State) : (evF code ps s).evr = { s.evr with
    fwQueue := (evF code ps s).evr.fwQueue, inputLostCnt := (evF code ps s).evr.inputLostCnt,
    lostSince := (evF code ps s).evr.lostSince } := by
  unfold evF evLost; split <;> rfl

theorem evH_inv (code : Nat) (ps : Bytes) {s : State} (h : Inv s) : Inv (evH code ps s) := by
  unfold evH evLost
  split
  · exact h.host h.ring h.backlog (by simp; omega) h.fwQueue h.overrides h.sessions
  · exact h.same rfl rfl rfl rfl rfl rfl

theorem evF_inv (code : Nat) (ps : Bytes) {s : State} (h : Inv s) : Inv (evF code ps s) := by
  unfold evF evLost
  split
  · exact h.host h.ring h.backlog h.hwFifo (by simp; omega) h.overrides h.sessions
  · exact (h.same rfl rfl rfl rfl rfl rfl)

/-! ### Interrupts and notifications -/

/-- A message changes the counts of messages sent and the pending bits. -/
theorem msixSend_frame (v : Nat) (h : Hif) : ∃ ms pd, msixSend v h = { h with msix := ms, msixPending := pd } := by
  unfold msixSend
  split
  · exact ⟨_, _, rfl⟩
  · split <;> exact ⟨_, _, rfl⟩

theorem irqSend_frame (v : Nat) (h : Hif) : ∃ ms pd, irqSend v h = { h with msix := ms, msixPending := pd } := by
  unfold irqSend
  split
  · exact ⟨_, _, rfl⟩
  · exact msixSend_frame v h

@[simp] theorem irqSend_status (v : Nat) (h : Hif) : (irqSend v h).irqStatus = h.irqStatus := by
  obtain ⟨_, _, e⟩ := irqSend_frame v h
  rw [e]

/-- What a message does: nothing with MSI-X disabled, a pending bit while masked, else one message. -/
theorem msixSend_sends (v : Nat) (h : Hif) (he : h.msixEnable = true) (hm : msixMasked h v = false) :
    msixSend v h = { h with msix := tmod 0 h.msix v (· + 1) } := by simp [msixSend, he, hm]

/-- An interrupt changes status bits, the counts of messages sent and the pending bits. -/
theorem irq_frame (v : Nat) (s : State) :
    ∃ st ms pd, irq v s = { s with hif := { s.hif with irqStatus := st, msix := ms, msixPending := pd } } := by
  unfold irq
  split
  · exact ⟨_, _, _, rfl⟩
  · obtain ⟨ms, pd, h⟩ := irqSend_frame v { s.hif with irqStatus := s.hif.irqStatus ||| (1#14 <<< v) }
    rw [h]; exact ⟨_, _, _, rfl⟩

/-- The status bit of a vector. -/
theorem statusBit (v i : Nat) (hi : i < 14) : (1#14 <<< v).getLsbD i = decide (i = v) := by
  simp only [BitVec.getLsbD_shiftLeft, BitVec.getLsbD_one]
  by_cases h : i = v
  · subst h; simp [hi]
  · by_cases h' : i < v
    · simp [h', h]
    · have : ¬ i - v = 0 := by omega
      simp [this, h]

/-- The status bits after an interrupt. -/
theorem irq_status (v i : Nat) (s : State) (hi : i < 14) : (irq v s).hif.irqStatus.getLsbD i =
    (s.hif.irqStatus.getLsbD i || (decide (i = v) && (decide (v ≠ 11) || s.boot.meterFuse) && live s)) := by
  have bit := statusBit v i hi
  unfold irq
  cases hl : live s
  · simp
  by_cases hv : v = 11
  · subst hv
    have bit' : (2048#14).getLsbD i = decide (i = 11) := bit
    cases hm : s.boot.meterFuse <;> simp [bit']
  · simp [hv, bit]

/-- Of an entry written, the ring, its tail and phase, the count of unsignalled entries and an interrupt. -/
theorem nqWrite_frame (typ : Nat) (body : Bytes) (s : State) : ∃ st ms pd ring tail ph un,
    nqWrite typ body s = { s with hif := { s.hif with
      irqStatus := st, msix := ms, msixPending := pd, nqRing := ring, nqTail := tail, nqPhase := ph, nqUnsig := un } } := by
  simp only [nqWrite, nqSignal]
  generalize (if s.hif.coalCount == 0 then 1 else s.hif.coalCount.toNat) = n
  split
  · obtain ⟨_, _, _, h⟩ := irq_frame 8 { s with hif := { s.hif with
      nqRing := (s.hif.nqRing.filter (fun x => x.1 != s.hif.nqTail.toNat)) ++
        [(s.hif.nqTail.toNat, ⟨typ, body, s.hif.nqPhase, lo32 s.tsu.ns⟩)]
      nqTail := BitVec.ofNat 16 ((s.hif.nqTail.toNat + 1) % nqLen s.hif)
      nqPhase := if (s.hif.nqTail.toNat + 1) % nqLen s.hif == 0 then !s.hif.nqPhase else s.hif.nqPhase
      nqUnsig := 0 } }
    exact ⟨_, _, _, _, _, _, _, h⟩
  · exact ⟨_, _, _, _, _, _, _, rfl⟩

/-- A notification changes the host interface and, where it is lost, the recorder; of the host interface, the ring and its
counts, the backlog, the loss count, the episode, the status bits and the messages sent. -/
theorem notify_frame (typ : Nat) (body : Bytes) (s : State) : ∃ st ms pd ring tail ph un lost ep bl e,
    notify typ body s = { s with
      hif := { s.hif with
        irqStatus := st, msix := ms, msixPending := pd, nqRing := ring, nqTail := tail, nqPhase := ph, nqUnsig := un, nqLostCnt := lost,
        nqEpisode := ep, backlog := bl }
      evr := e } := by
  unfold notify
  split
  · obtain ⟨_, _, _, _, _, _, _, h⟩ := nqWrite_frame typ body s
    exact ⟨_, _, _, _, _, _, _, _, _, _, _, h⟩
  · simp only [nqWaits, nqLose]
    split
    · exact ⟨_, _, _, _, _, _, _, _, _, _, _, rfl⟩
    · split
      · rw [evF_frame]
        exact ⟨_, _, _, _, _, _, _, _, _, _, _, rfl⟩
      · exact ⟨_, _, _, _, _, _, _, _, _, _, _, rfl⟩

/-- A notification leaves every status bit but 8 and 12. -/
theorem notify_status (typ : Nat) (body : Bytes) (s : State) (i : Nat) (h8 : i ≠ 8) (h12 : i ≠ 12) (hi : i < 14) :
    (notify typ body s).hif.irqStatus.getLsbD i = s.hif.irqStatus.getLsbD i := by
  have e1 : (0x1000#14).getLsbD i = false := by
    have : (0x1000#14).getLsbD i = decide (i = 12) := statusBit 12 i hi
    simp [this, h12]
  unfold notify
  split
  · simp only [nqWrite, nqSignal]
    generalize (if s.hif.coalCount == 0 then 1 else s.hif.coalCount.toNat) = n
    split
    · rw [irq_status _ _ _ hi]; simp [h8]
    · rfl
  · simp only [nqWaits, nqLose]
    split
    · rfl
    · split
      · rw [evF_frame]; simp only [BitVec.getLsbD_or, e1, Bool.or_false]
      · simp only [BitVec.getLsbD_or, e1, Bool.or_false]

theorem irq_inv (v : Nat) {s : State} (h : Inv s) : Inv (irq v s) := by
  obtain ⟨_, _, _, e⟩ := irq_frame v s
  rw [e]; exact (h.same rfl rfl rfl rfl rfl rfl)

theorem notify_inv (typ : Nat) (body : Bytes) {s : State} (h : Inv s) : Inv (notify typ body s) := by
  unfold notify
  split
  · simp only [nqWrite, nqSignal]
    generalize (if s.hif.coalCount == 0 then 1 else s.hif.coalCount.toNat) = n
    split
    · exact irq_inv _ (h.same rfl rfl rfl rfl rfl rfl)
    · exact (h.same rfl rfl rfl rfl rfl rfl)
  · simp only [nqWaits, nqLose]
    split
    · exact h.host h.ring (by simp; omega) h.hwFifo h.fwQueue h.overrides h.sessions
    · split
      · exact evF_inv _ _ (h.same rfl rfl rfl rfl rfl rfl)
      · exact (h.same rfl rfl rfl rfl rfl rfl)

/-! ### Mailboxes -/

@[simp] theorem getMb_setMb_same (mb : Nat) (m : Mailbox) (s : State) : getMb (setMb mb m s) mb = m := by
  by_cases h : mb = 8 <;> simp [getMb, setMb, h]

theorem getMb_setMb_other (mb k : Nat) (m : Mailbox) (s : State) (h : k ≠ mb) : getMb (setMb mb m s) k = getMb s k := by
  by_cases h8 : mb = 8
  · subst h8; simp [getMb, setMb, h]
  · by_cases k8 : k = 8
    · subst k8; simp [getMb, setMb, h8]
    · simp [getMb, setMb, h8, k8, tget_tset_other _ _ _ _ _ h]

/-- A mailbox's update changes the mailboxes alone. -/
theorem setMb_frame (mb : Nat) (m : Mailbox) (s : State) :
    ∃ ms m8, setMb mb m s = { s with hif := { s.hif with mbs := ms }, mtr := { s.mtr with mb := m8 } } := by
  unfold setMb; split <;> exact ⟨_, _, rfl⟩

/-- Of a response, the mailbox. -/
theorem mbResponse_frame (mb : Nat) (bs : Bytes) (s : State) :
    ∃ ms m8, mbResponse mb bs s = { s with hif := { s.hif with mbs := ms }, mtr := { s.mtr with mb := m8 } } :=
  setMb_frame _ _ _

/-- Of DONE, the mailbox, the status bits and the messages sent. -/
theorem mbDone_frame (mb : Nat) (s : State) : ∃ ms m8 st x pd, mbDone mb s = { s with
    hif := { s.hif with mbs := ms, irqStatus := st, msix := x, msixPending := pd }, mtr := { s.mtr with mb := m8 } } := by
  simp only [mbDone]
  obtain ⟨ms, m8, h⟩ := setMb_frame mb
    { getMb s mb with st := .done, completions := (getMb s mb).completions + 1, expired := false } s
  split
  · obtain ⟨st, x, pd, h'⟩ := irq_frame (mbVector mb) (setMb mb
      { getMb s mb with st := .done, completions := (getMb s mb).completions + 1, expired := false } s)
    rw [h', h]
    exact ⟨_, _, _, _, _, rfl⟩
  · rw [h]
    exact ⟨_, _, _, _, _, rfl⟩

@[simp] theorem getMb_irq (v mb : Nat) (s : State) : getMb (irq v s) mb = getMb s mb := by
  obtain ⟨_, _, _, h⟩ := irq_frame v s
  rw [h]; rfl

@[simp] theorem getMb_notify (typ : Nat) (body : Bytes) (mb : Nat) (s : State) : getMb (notify typ body s) mb = getMb s mb := by
  obtain ⟨_, _, _, _, _, _, _, _, _, _, _, h⟩ := notify_frame typ body s
  rw [h]; rfl

/-- The mailboxes after a response. -/
theorem getMb_mbResponse (mb k : Nat) (bs : Bytes) (s : State) : getMb (mbResponse mb bs s) k =
    if k = mb then { getMb s mb with resp := bufWrite (getMb s mb).resp 0 bs } else getMb s k := by
  simp only [mbResponse]
  by_cases h : k = mb
  · subst h; simp
  · simp [h, getMb_setMb_other _ _ _ _ h]

/-- The mailboxes after DONE. -/
theorem getMb_mbDone (mb k : Nat) (s : State) : getMb (mbDone mb s) k = if k = mb then
    { getMb s mb with st := .done, completions := (getMb s mb).completions + 1, expired := false } else getMb s k := by
  simp only [mbDone]
  split <;> by_cases h : k = mb
  · subst h; simp
  · simp [h, getMb_setMb_other _ _ _ _ h]
  · subst h; simp
  · simp [h, getMb_setMb_other _ _ _ _ h]

/-- A command without an answer is only dropped. -/
theorem finish_discard (c : Cmd) (r : Reply) (s : State) (h : c.discard = true) :
    finish c r s = { s with hif := { s.hif with cmds := s.hif.cmds.erase c } } := by simp [finish, cmdDrop, h]

/-- A command that completes changes the host interface, the recorder and MB_MTR. -/
theorem finish_frame (c : Cmd) (r : Reply) (s : State) : OnlyAnswer s (finish c r s) := by
  unfold OnlyAnswer
  simp only [finish, completion, cmdDrop]
  split
  · rfl
  · split
    · obtain ⟨_, _, _, _, _, _, _, _, _, _, _, h⟩ := notify_frame 1
        (completionBody c.opcode r.status c.tag c.mb c.session r.detail) (mbDone c.mb (mbResponse c.mb
          (respHeader c.opcode r.status c.tag r.payload.length r.detail
            { s with hif := { s.hif with cmds := s.hif.cmds.erase c } } ++ r.payload)
          { s with hif := { s.hif with cmds := s.hif.cmds.erase c } }))
      obtain ⟨_, _, _, _, _, h1⟩ := mbDone_frame c.mb (mbResponse c.mb
          (respHeader c.opcode r.status c.tag r.payload.length r.detail
            { s with hif := { s.hif with cmds := s.hif.cmds.erase c } } ++ r.payload)
          { s with hif := { s.hif with cmds := s.hif.cmds.erase c } })
      obtain ⟨_, _, h2⟩ := mbResponse_frame c.mb (respHeader c.opcode r.status c.tag r.payload.length r.detail
            { s with hif := { s.hif with cmds := s.hif.cmds.erase c } } ++ r.payload)
          { s with hif := { s.hif with cmds := s.hif.cmds.erase c } }
      rw [h, h1, h2]
    · obtain ⟨_, _, _, _, _, h1⟩ := mbDone_frame c.mb (mbResponse c.mb
          (respHeader c.opcode r.status c.tag r.payload.length r.detail
            { s with hif := { s.hif with cmds := s.hif.cmds.erase c } } ++ r.payload)
          { s with hif := { s.hif with cmds := s.hif.cmds.erase c } })
      obtain ⟨_, _, h2⟩ := mbResponse_frame c.mb (respHeader c.opcode r.status c.tag r.payload.length r.detail
            { s with hif := { s.hif with cmds := s.hif.cmds.erase c } } ++ r.payload)
          { s with hif := { s.hif with cmds := s.hif.cmds.erase c } }
      rw [h1, h2]

theorem finish_inv (c : Cmd) (r : Reply) {s : State} (h : Inv s) : Inv (finish c r s) := by
  have k : ∀ t : State, Inv t → Inv (mbDone c.mb t) := fun t ht => by
    obtain ⟨_, _, _, _, _, e⟩ := mbDone_frame c.mb t
    rw [e]; exact (ht.same rfl rfl rfl rfl rfl rfl)
  have k' : ∀ (b : Bytes) (t : State), Inv t → Inv (mbResponse c.mb b t) := fun b t ht => by
    obtain ⟨_, _, e⟩ := mbResponse_frame c.mb b t
    rw [e]; exact (ht.same rfl rfl rfl rfl rfl rfl)
  have hd : Inv (cmdDrop c s) := (h.same rfl rfl rfl rfl rfl rfl)
  unfold finish
  simp only []
  split
  · exact hd
  · split
    · exact notify_inv _ _ (k _ (k' _ _ hd))
    · exact k _ (k' _ _ hd)

/-! ### Commands of an agent -/

/-- A taken command of an agent runs its body and settles. -/
theorem fcp_taken {op mb : Nat} {body : Cmd → State → Res} {s : State} {c : Cmd} (h : Taken op mb s c) :
    fcp op mb body s = settle c (body c s) := by simp [fcp, h.1, h.2]

/-- A taken command whose DMA transfers the firewall allows runs its body and settles. -/
theorem fcpDma_taken {op mb : Nat} {dma : DmaRead} {body : DmaRead → Cmd → State → Res} {s : State} {c : Cmd}
    (h : Taken op mb s c) (hd : dmaDenied s dma = none) : fcpDma op mb dma body s = settle c (body dma c s) := by
  simp [fcpDma, dmaRun, hd, fcp_taken h]

/-- Data that come without an access of the CP address map are not the firewall's. -/
@[simp] theorem dmaDenied_data (s : State) (bs : Bytes) : dmaDenied s (.data bs) = none := rfl

/-- Without a taken command nothing happens. -/
theorem fcp_idle {op mb : Nat} {body : Cmd → State → Res} {s : State} (h : serving s = false ∨ cmdOf op mb s = none) :
    fcp op mb body s = s := by
  rcases h with h | h <;> simp [fcp, h]

/-- A taken command of MB_MTR runs its body and settles. -/
theorem fcpMeter_taken {op : Nat} {body : Cmd → State → Res} {s : State} {c : Cmd} (h : MeterTaken op s c) :
    fcpMeter op 8 body s = settle c (body c s) := by simp [fcpMeter, h.1, h.2]

/-- Where a body keeps the invariant, so does its command. -/
theorem fcp_inv (op mb : Nat) (body : Cmd → State → Res) {s : State} (h : Inv s)
    (hb : ∀ c, match body c s with | .done _ t => Inv t | .wait _ t => Inv t) : Inv (fcp op mb body s) := by
  unfold fcp
  split
  · exact h
  · split
    · exact h
    · rename_i c _
      have := hb c
      unfold settle
      split <;> rename_i e <;> rw [e] at this
      · exact finish_inv _ _ this
      · exact (this.same rfl rfl rfl rfl rfl rfl)

/-- A step runs the command at the front of the queue. -/
theorem step_front {s : State} {c : Instr} {rest : List Instr} (h : s.pending = c :: rest) :
    step s = exec c { s with pending := rest } := by simp [step, h]

end Sys2Proof.Machine
end

