-- ==== Sys2Proof/Laws/PerInstr.lean ====
section
/-! SUPPORT. Statements about every command as syntax, one lemma a constructor: a well-formed command that an agent or a
mailbox register runs names one of the nine mailboxes (R288, R409). -/
namespace Sys2Proof.Laws.Mailbox
set_option Elab.async false

/-- The mailbox a command names. -/
def mailboxOf (i : Instr) : Option Nat :=
  match i with
  | .devProfileSet mb | .devProfileGet mb | .portConfigSet mb | .portConfigGet mb | .portAdminSet mb
  | .portStatusGet mb | .portStatsGet mb | .tblDtSet mb | .tblPtSet mb _ | .tblInsert mb _ | .tblModify mb _
  | .tblDelete mb _ | .tblRead mb | .tblLearnSet mb | .tblFlush mb | .tblStatsGet mb | .scCreate mb | .scModify mb
  | .scDelete mb | .scGet mb | .saInstall mb _ _ | .saArm mb | .saSwitch mb | .saModify mb | .saRetire mb _ | .saGet mb
  | .saStatsGet mb _ | .scStatsGet mb | .scPortStatsGet mb | .scPairSet mb | .scPairGet mb | .scPairStatsGet mb
  | .devSliceStatsGet mb | .devSliceRestore mb | .keyLoad mb | .keyGenerate mb | .blobExport mb _ | .blobImport mb _
  | .keyEvict mb _ | .keyPinSet mb _ | .keyLineageCreate mb | .keyLineageInvalidate mb | .keyLineageGet mb
  | .keyKwbSet mb | .keyStatsGet mb | .keyStateSave mb _ | .keyStateRestore mb _ | .blobForwardSeal mb _
  | .blobForwardOpen mb _ | .pkeAgree mb | .pkeSlotErase mb | .tmPortSet mb | .tmPortGet mb | .tmQueueSet mb _
  | .tmQueueGet mb | .tmShaperSet mb _ | .tmShaperGet mb | .tmStatsGet mb | .tmQueueStatsGet mb _ | .polSet mb _
  | .polGet mb | .polStatsGet mb _ | .gclSet mb _ | .gclGet mb _ | .gclStatusGet mb | .todGet mb | .todSet mb
  | .todAdjust mb | .todFreqSet mb | .todPpsSet mb | .ptpPortSet mb | .ptpPortGet mb | .ptpClockSet mb
  | .ptpStatusGet mb | .ptpStatsGet mb | .packCreate mb | .packJoin mb | .packLeave mb | .packExpel mb
  | .packPolicySet mb | .packStatusGet mb | .packDirGet mb _ | .packStatsGet mb | .epochPrepare mb | .epochEnlist mb _
  | .epochAbort mb | .epochStatusGet mb | .mbRing mb | .mbAbort mb | .mbRelease mb | .mbRequestWrite mb _ _
  | .mbWatchdog mb | .devInfoGet mb | .devSessionOpen mb | .devSessionClose mb | .devNonceGet mb | .lcStateGet mb
  | .lcStateSet mb _ | .lcDebugUnlock mb | .idCertGet mb _ | .idCsrGet mb _ | .idCertSet mb _ | .idQuoteGet mb
  | .fwImageStage mb _ | .fwImageActivate mb _ | .fwStageAbort mb | .fwStatusGet mb | .tmpStatusGet mb
  | .tmpConfigGet mb | .tmpConfigSet mb | .tmpConfigLock mb | .tmpAlarmClear mb | .evdStatusGet mb | .evdLogExport mb _
  | .evrConfigSet mb | .evrStatusGet mb | .evrRateSet mb _ | .evrCursorSet mb | .cntConfigSet mb _ | .cntConfigGet mb
  | .cntSweepGet mb _ | .cntThresholdSet mb | .hltReportGet mb | .hltMonitorGet mb | .mtrStatusGet mb
  | .mtrChannelGet mb | .mtrStatementGet mb | .mtrCertGet mb | .mtrBindingSet mb | .mtrBindingGet mb => some mb
  | .linkUp _ | .linkDown _ _ | .linkRemoteFault _ | .rfaultClear _ | .preemptVerification _ _
  | .frameReceive _ _ _ _ _ | .macControlFrame _ _ _ | .frameLastByte _ _ _ | .cpInject _ _ _ _ _ _
  | .flushSweepDone _ | .dtWrite _ _ | .dtRead _ | .xtInsert _ _ | .xtModify _ _ | .xtDelete _ _ | .xtRead _
  | .ptWrite _ _ | .ptRead _ | .xtRemovePort _ | .tcuStage _ _ | .tcuCommit _ | .tcuAbort _ | .tcuOpDone _
  | .stageDrainDone _ | .learnInsert _ | .stashRehome _ | .ageTick _ | .learnFifoDrain _ | .rxSaRetireTime _
  | .slotDrained _ | .drainTimeout _ | .spillSweep | .sliceAssign _ _ | .icvVerification _ | .reorderRelease _
  | .sliceFault _ _ | .unitResetEnd _ | .entropyHealthFail | .serviceResume | .maskReseed _ | .hotsetDecay
  | .prerollRefill | .fetchIssue _ | .fetchComplete _ _ _ | .muzzle | .muzzleDone | .kmStgKeyWrite _ _ | .kmWrap _ _
  | .kmClear | .stagingTimeout | .pkeContextExpiry _ | .tmAdmission _ _ | .tmSelect _ | .tmFrameDeparted _
  | .shaperRefill | .tmRoomCheck | .pauseFrameSend _ | .pauseRepeat _ | .pauseHaltExpiry _ _ | .fLastExpiry _ _
  | .tmXoffStuck _ | .expressHeadCheck _ | .expressSlotStart _ | .policerRefill | .gateEntryAdvance _
  | .gclChangeTime _ | .todStep _ | .todLoad _ | .todSlew | .todSlewAbort | .slewComplete | .todIncApply _
  | .todFracRead | .ppsInEdge _ | .ppsInLost | .todSetPpsTimeout | .ppsOutEdge | .ppsOutFall | .ref10mWindow _
  | .servoSample _ _ _ | .servoSourceLost _ | .holdoverLimit | .packFragment _ _ | .packReassemblyTimeout _ _
  | .hello _ _ _ _ _ _ | .joinReq _ _ | .joinAccept _ _ _ | .joinRefuse _ _ | .packJoinTimeout | .leave _
  | .keyRotate _ _ _ _ | .packKeySwitch | .packOldKeyExpiry | .helloTimer | .memberUnheard _ | .memberDepart _
  | .leadTimeout | .packSyncTimer | .packDelayReqTimer | .sync _ | .followUp _ _ _ _ | .delayReq _ | .delayResp _ _ _ _
  | .dirClaim _ _ | .dirGrant _ _ _ | .dirDeny _ _ | .dirUpdate _ _ _ _ | .dirRelease _ _ | .epochPrep _ _
  | .epochVote _ _ _ | .stateCopy _ _ | .epochDecide _ _ _ _ | .epochAck _ _ | .epochDecideResend _
  | .epochTpReached _ | .epochInDoubt _ | .epochTsReached _ | .epochOverlapEnd _ | .mbTake _ _ _ | .hifReset _
  | .bar0BoundaryFault _ _ _ | .counterLoRead _ _ | .nqEnableWrite _ | .nqHeadWrite _ | .nqBacklogPost
  | .nqCoalesceTimer | .nonceExpiry _ | .authLockoutEnd _ | .smbusRead _ _ _ | .smbusWrite _ _ | .smbusSclTimeout
  | .smbusRefresh _ _ | .dapAccess _ _ _ _ | .dapHalt | .dapStep | .dapResume | .mpuFault _ _ _ _ _ | .fwlClose
  | .mpuLock _ | .debugLevelGranted | .porLAssert | .porLRelease | .sysRstLAssert | .sysRstLRelease | .coreReset
  | .measExtend _ | .measLockLow | .lcTransitionCommit | .fwStageWriteDone _ | .alarmDetected _ _
  | .tamperSample _ _ _ | .shadowMismatch _ _ _ | .powerToBattery | .powerFromBattery | .aonPowerLoss | .secLockSet
  | .secLatchedClear _ | .evrEventArrival _ | .evrSummaryTick | .evrTokenRefill _ | .evrForward
  | .evrCursorAdvance _ _ | .crdStart | .crdSweepComplete | .pmcValueWrite _ _ _ _ | .thresholdWindow _
  | .ageingMeasure _ _ | .eyeMeasure _ _ | .stressTick | .healthDailySample | .meterPowerUp _ | .meterPowerLoss
  | .meterSweep _ _ _ | .mtrStatementLatch | .mtrBankFinalSweep | .registerWrite _ _ _ | .factoryProvisioning _
  | .alarmConditionEnded _ | .aonPowerUp | .controlPathReceive _ | .timestampFifoDrain _ | .wrapCompleted
  | .measExtendComplete | .deputyAcknowledgement _ _ | .voteAcknowledgement _ _ | .pmcWrap _ _ | .clockGatingIdleExpiry _ => none

/-- A well-formed command that names a mailbox names MB0 to MB7 or MB_MTR. -/
def Statement (i : Instr) : Prop := i.wellFormed = true → ∀ mb, mailboxOf i = some mb → mb < 9

/-- Below 8 is below 9. -/
theorem below {n mb : Nat} (h : decide (n < 8) = true) (e : some n = some mb) : mb < 9 := by
  cases e; have := of_decide_eq_true h; omega

theorem devProfileSet (a0 : Nat) : Statement (.devProfileSet a0) := fun h _ e => below h e
theorem devProfileGet (a0 : Nat) : Statement (.devProfileGet a0) := fun h _ e => below h e
theorem portConfigSet (a0 : Nat) : Statement (.portConfigSet a0) := fun h _ e => below h e
theorem portConfigGet (a0 : Nat) : Statement (.portConfigGet a0) := fun h _ e => below h e
theorem portAdminSet (a0 : Nat) : Statement (.portAdminSet a0) := fun h _ e => below h e
theorem portStatusGet (a0 : Nat) : Statement (.portStatusGet a0) := fun h _ e => below h e
theorem portStatsGet (a0 : Nat) : Statement (.portStatsGet a0) := fun h _ e => below h e
theorem linkUp (a0 : Nat) : Statement (.linkUp a0) := fun _ _ e => nomatch e
theorem linkDown (a0 : Nat) (a1 : LinkLoss) : Statement (.linkDown a0 a1) := fun _ _ e => nomatch e
theorem linkRemoteFault (a0 : Nat) : Statement (.linkRemoteFault a0) := fun _ _ e => nomatch e
theorem rfaultClear (a0 : Nat) : Statement (.rfaultClear a0) := fun _ _ e => nomatch e
theorem preemptVerification (a0 : Nat) (a1 : Bool) : Statement (.preemptVerification a0 a1) := fun _ _ e => nomatch e
theorem frameReceive (a0 : Nat) (a1 : Nat) (a2 : Bytes) (a3 : Option Nat) (a4 : FecReport) : Statement (.frameReceive a0 a1 a2 a3 a4) := fun _ _ e => nomatch e
theorem macControlFrame (a0 : Nat) (a1 : Bytes) (a2 : RxCheck) : Statement (.macControlFrame a0 a1 a2) := fun _ _ e => nomatch e
theorem frameLastByte (a0 : Nat) (a1 : Bytes) (a2 : RxCheck) : Statement (.frameLastByte a0 a1 a2) := fun _ _ e => nomatch e
theorem cpInject (a0 : Nat) (a1 : Nat) (a2 : Nat) (a3 : Option Nat) (a4 : Bytes) (a5 : InjectOpts) : Statement (.cpInject a0 a1 a2 a3 a4 a5) := fun _ _ e => nomatch e
theorem tblDtSet (a0 : Nat) : Statement (.tblDtSet a0) := fun h _ e => below h e
theorem tblPtSet (a0 : Nat) (a1 : DmaRead) : Statement (.tblPtSet a0 a1) := fun h _ e => below h e
theorem tblInsert (a0 : Nat) (a1 : DmaRead) : Statement (.tblInsert a0 a1) := fun h _ e => below h e
theorem tblModify (a0 : Nat) (a1 : DmaRead) : Statement (.tblModify a0 a1) := fun h _ e => below h e
theorem tblDelete (a0 : Nat) (a1 : DmaRead) : Statement (.tblDelete a0 a1) := fun h _ e => below h e
theorem tblRead (a0 : Nat) : Statement (.tblRead a0) := fun h _ e => below h e
theorem tblLearnSet (a0 : Nat) : Statement (.tblLearnSet a0) := fun h _ e => below h e
theorem tblFlush (a0 : Nat) : Statement (.tblFlush a0) := fun h _ e => below h e
theorem flushSweepDone (a0 : Nat) : Statement (.flushSweepDone a0) := fun _ _ e => nomatch e
theorem tblStatsGet (a0 : Nat) : Statement (.tblStatsGet a0) := fun h _ e => below h e
theorem dtWrite (a0 : Nat) (a1 : Bool) : Statement (.dtWrite a0 a1) := fun _ _ e => nomatch e
theorem dtRead (a0 : Nat) : Statement (.dtRead a0) := fun _ _ e => nomatch e
theorem xtInsert (a0 : Nat) (a1 : Bool) : Statement (.xtInsert a0 a1) := fun _ _ e => nomatch e
theorem xtModify (a0 : Nat) (a1 : Bool) : Statement (.xtModify a0 a1) := fun _ _ e => nomatch e
theorem xtDelete (a0 : Nat) (a1 : Bool) : Statement (.xtDelete a0 a1) := fun _ _ e => nomatch e
theorem xtRead (a0 : Nat) : Statement (.xtRead a0) := fun _ _ e => nomatch e
theorem ptWrite (a0 : Nat) (a1 : Bool) : Statement (.ptWrite a0 a1) := fun _ _ e => nomatch e
theorem ptRead (a0 : Nat) : Statement (.ptRead a0) := fun _ _ e => nomatch e
theorem xtRemovePort (a0 : Nat) : Statement (.xtRemovePort a0) := fun _ _ e => nomatch e
theorem tcuStage (a0 : Nat) (a1 : Nat) : Statement (.tcuStage a0 a1) := fun _ _ e => nomatch e
theorem tcuCommit (a0 : Nat) : Statement (.tcuCommit a0) := fun _ _ e => nomatch e
theorem tcuAbort (a0 : Nat) : Statement (.tcuAbort a0) := fun _ _ e => nomatch e
theorem tcuOpDone (a0 : Nat) : Statement (.tcuOpDone a0) := fun _ _ e => nomatch e
theorem stageDrainDone (a0 : Nat) : Statement (.stageDrainDone a0) := fun _ _ e => nomatch e
theorem learnInsert (a0 : Nat) : Statement (.learnInsert a0) := fun _ _ e => nomatch e
theorem stashRehome (a0 : Nat) : Statement (.stashRehome a0) := fun _ _ e => nomatch e
theorem ageTick (a0 : Nat) : Statement (.ageTick a0) := fun _ _ e => nomatch e
theorem learnFifoDrain (a0 : Nat) : Statement (.learnFifoDrain a0) := fun _ _ e => nomatch e
theorem scCreate (a0 : Nat) : Statement (.scCreate a0) := fun h _ e => below h e
theorem scModify (a0 : Nat) : Statement (.scModify a0) := fun h _ e => below h e
theorem scDelete (a0 : Nat) : Statement (.scDelete a0) := fun h _ e => below h e
theorem scGet (a0 : Nat) : Statement (.scGet a0) := fun h _ e => below h e
theorem saInstall (a0 : Nat) (a1 : DmaRead) (a2 : List Nat) : Statement (.saInstall a0 a1 a2) := fun h _ e => below h e
theorem saArm (a0 : Nat) : Statement (.saArm a0) := fun h _ e => below h e
theorem saSwitch (a0 : Nat) : Statement (.saSwitch a0) := fun h _ e => below h e
theorem saModify (a0 : Nat) : Statement (.saModify a0) := fun h _ e => below h e
theorem saRetire (a0 : Nat) (a1 : DmaRead) : Statement (.saRetire a0 a1) := fun h _ e => below h e
theorem saGet (a0 : Nat) : Statement (.saGet a0) := fun h _ e => below h e
theorem saStatsGet (a0 : Nat) (a1 : DmaRead) : Statement (.saStatsGet a0 a1) := fun h _ e => below h e
theorem scStatsGet (a0 : Nat) : Statement (.scStatsGet a0) := fun h _ e => below h e
theorem scPortStatsGet (a0 : Nat) : Statement (.scPortStatsGet a0) := fun h _ e => below h e
theorem rxSaRetireTime (a0 : Nat) : Statement (.rxSaRetireTime a0) := fun _ _ e => nomatch e
theorem slotDrained (a0 : Nat) : Statement (.slotDrained a0) := fun _ _ e => nomatch e
theorem drainTimeout (a0 : Nat) : Statement (.drainTimeout a0) := fun _ _ e => nomatch e
theorem spillSweep : Statement (.spillSweep) := fun _ _ e => nomatch e
theorem scPairSet (a0 : Nat) : Statement (.scPairSet a0) := fun h _ e => below h e
theorem scPairGet (a0 : Nat) : Statement (.scPairGet a0) := fun h _ e => below h e
theorem scPairStatsGet (a0 : Nat) : Statement (.scPairStatsGet a0) := fun h _ e => below h e
theorem sliceAssign (a0 : Nat) (a1 : Bool) : Statement (.sliceAssign a0 a1) := fun _ _ e => nomatch e
theorem icvVerification (a0 : Nat) : Statement (.icvVerification a0) := fun _ _ e => nomatch e
theorem reorderRelease (a0 : Nat) : Statement (.reorderRelease a0) := fun _ _ e => nomatch e
theorem sliceFault (a0 : Nat) (a1 : Nat) : Statement (.sliceFault a0 a1) := fun _ _ e => nomatch e
theorem unitResetEnd (a0 : Nat) : Statement (.unitResetEnd a0) := fun _ _ e => nomatch e
theorem devSliceStatsGet (a0 : Nat) : Statement (.devSliceStatsGet a0) := fun h _ e => below h e
theorem devSliceRestore (a0 : Nat) : Statement (.devSliceRestore a0) := fun h _ e => below h e
theorem entropyHealthFail : Statement (.entropyHealthFail) := fun _ _ e => nomatch e
theorem serviceResume : Statement (.serviceResume) := fun _ _ e => nomatch e
theorem maskReseed (a0 : Nat) : Statement (.maskReseed a0) := fun _ _ e => nomatch e
theorem hotsetDecay : Statement (.hotsetDecay) := fun _ _ e => nomatch e
theorem prerollRefill : Statement (.prerollRefill) := fun _ _ e => nomatch e
theorem fetchIssue (a0 : Nat) : Statement (.fetchIssue a0) := fun _ _ e => nomatch e
theorem fetchComplete (a0 : Nat) (a1 : Nat) (a2 : FetchMemory) : Statement (.fetchComplete a0 a1 a2) := fun _ _ e => nomatch e
theorem muzzle : Statement (.muzzle) := fun _ _ e => nomatch e
theorem muzzleDone : Statement (.muzzleDone) := fun _ _ e => nomatch e
theorem kmStgKeyWrite (a0 : Nat) (a1 : W32) : Statement (.kmStgKeyWrite a0 a1) := fun _ _ e => nomatch e
theorem kmWrap (a0 : Bool) (a1 : StgSource) : Statement (.kmWrap a0 a1) := fun _ _ e => nomatch e
theorem kmClear : Statement (.kmClear) := fun _ _ e => nomatch e
theorem stagingTimeout : Statement (.stagingTimeout) := fun _ _ e => nomatch e
theorem keyLoad (a0 : Nat) : Statement (.keyLoad a0) := fun h _ e => below h e
theorem keyGenerate (a0 : Nat) : Statement (.keyGenerate a0) := fun h _ e => below h e
theorem blobExport (a0 : Nat) (a1 : List (Nat × Nat)) : Statement (.blobExport a0 a1) := fun h _ e => below h e
theorem blobImport (a0 : Nat) (a1 : DmaRead) : Statement (.blobImport a0 a1) := fun h _ e => below h e
theorem keyEvict (a0 : Nat) (a1 : DmaRead) : Statement (.keyEvict a0 a1) := fun h _ e => below h e
theorem keyPinSet (a0 : Nat) (a1 : Bool) : Statement (.keyPinSet a0 a1) := fun h _ e => below h e
theorem keyLineageCreate (a0 : Nat) : Statement (.keyLineageCreate a0) := fun h _ e => below h e
theorem keyLineageInvalidate (a0 : Nat) : Statement (.keyLineageInvalidate a0) := fun h _ e => below h e
theorem keyLineageGet (a0 : Nat) : Statement (.keyLineageGet a0) := fun h _ e => below h e
theorem keyKwbSet (a0 : Nat) : Statement (.keyKwbSet a0) := fun h _ e => below h e
theorem keyStatsGet (a0 : Nat) : Statement (.keyStatsGet a0) := fun h _ e => below h e
theorem keyStateSave (a0 : Nat) (a1 : List (Nat × Nat)) : Statement (.keyStateSave a0 a1) := fun h _ e => below h e
theorem keyStateRestore (a0 : Nat) (a1 : DmaRead) : Statement (.keyStateRestore a0 a1) := fun h _ e => below h e
theorem blobForwardSeal (a0 : Nat) (a1 : List (Nat × Nat)) : Statement (.blobForwardSeal a0 a1) := fun h _ e => below h e
theorem blobForwardOpen (a0 : Nat) (a1 : DmaRead) : Statement (.blobForwardOpen a0 a1) := fun h _ e => below h e
theorem pkeAgree (a0 : Nat) : Statement (.pkeAgree a0) := fun h _ e => below h e
theorem pkeSlotErase (a0 : Nat) : Statement (.pkeSlotErase a0) := fun h _ e => below h e
theorem pkeContextExpiry (a0 : Nat) : Statement (.pkeContextExpiry a0) := fun _ _ e => nomatch e
theorem tmAdmission (a0 : Nat) (a1 : Bool) : Statement (.tmAdmission a0 a1) := fun _ _ e => nomatch e
theorem tmSelect (a0 : Nat) : Statement (.tmSelect a0) := fun _ _ e => nomatch e
theorem tmFrameDeparted (a0 : Nat) : Statement (.tmFrameDeparted a0) := fun _ _ e => nomatch e
theorem shaperRefill : Statement (.shaperRefill) := fun _ _ e => nomatch e
theorem tmRoomCheck : Statement (.tmRoomCheck) := fun _ _ e => nomatch e
theorem pauseFrameSend (a0 : Nat) : Statement (.pauseFrameSend a0) := fun _ _ e => nomatch e
theorem pauseRepeat (a0 : Nat) : Statement (.pauseRepeat a0) := fun _ _ e => nomatch e
theorem pauseHaltExpiry (a0 : Nat) (a1 : Nat) : Statement (.pauseHaltExpiry a0 a1) := fun _ _ e => nomatch e
theorem fLastExpiry (a0 : Nat) (a1 : Nat) : Statement (.fLastExpiry a0 a1) := fun _ _ e => nomatch e
theorem tmXoffStuck (a0 : Nat) : Statement (.tmXoffStuck a0) := fun _ _ e => nomatch e
theorem expressHeadCheck (a0 : Nat) : Statement (.expressHeadCheck a0) := fun _ _ e => nomatch e
theorem expressSlotStart (a0 : Nat) : Statement (.expressSlotStart a0) := fun _ _ e => nomatch e
theorem tmPortSet (a0 : Nat) : Statement (.tmPortSet a0) := fun h _ e => below h e
theorem tmPortGet (a0 : Nat) : Statement (.tmPortGet a0) := fun h _ e => below h e
theorem tmQueueSet (a0 : Nat) (a1 : DmaRead) : Statement (.tmQueueSet a0 a1) := fun h _ e => below h e
theorem tmQueueGet (a0 : Nat) : Statement (.tmQueueGet a0) := fun h _ e => below h e
theorem tmShaperSet (a0 : Nat) (a1 : DmaRead) : Statement (.tmShaperSet a0 a1) := fun h _ e => below h e
theorem tmShaperGet (a0 : Nat) : Statement (.tmShaperGet a0) := fun h _ e => below h e
theorem tmStatsGet (a0 : Nat) : Statement (.tmStatsGet a0) := fun h _ e => below h e
theorem tmQueueStatsGet (a0 : Nat) (a1 : DmaRead) : Statement (.tmQueueStatsGet a0 a1) := fun h _ e => below h e
theorem policerRefill : Statement (.policerRefill) := fun _ _ e => nomatch e
theorem polSet (a0 : Nat) (a1 : DmaRead) : Statement (.polSet a0 a1) := fun h _ e => below h e
theorem polGet (a0 : Nat) : Statement (.polGet a0) := fun h _ e => below h e
theorem polStatsGet (a0 : Nat) (a1 : DmaRead) : Statement (.polStatsGet a0 a1) := fun h _ e => below h e
theorem gclSet (a0 : Nat) (a1 : DmaRead) : Statement (.gclSet a0 a1) := fun h _ e => below h e
theorem gclGet (a0 : Nat) (a1 : List (Nat × Nat)) : Statement (.gclGet a0 a1) := fun h _ e => below h e
theorem gclStatusGet (a0 : Nat) : Statement (.gclStatusGet a0) := fun h _ e => below h e
theorem gateEntryAdvance (a0 : Nat) : Statement (.gateEntryAdvance a0) := fun _ _ e => nomatch e
theorem gclChangeTime (a0 : Nat) : Statement (.gclChangeTime a0) := fun _ _ e => nomatch e
theorem todGet (a0 : Nat) : Statement (.todGet a0) := fun h _ e => below h e
theorem todSet (a0 : Nat) : Statement (.todSet a0) := fun h _ e => below h e
theorem todAdjust (a0 : Nat) : Statement (.todAdjust a0) := fun h _ e => below h e
theorem todFreqSet (a0 : Nat) : Statement (.todFreqSet a0) := fun h _ e => below h e
theorem todPpsSet (a0 : Nat) : Statement (.todPpsSet a0) := fun h _ e => below h e
theorem ptpPortSet (a0 : Nat) : Statement (.ptpPortSet a0) := fun h _ e => below h e
theorem ptpPortGet (a0 : Nat) : Statement (.ptpPortGet a0) := fun h _ e => below h e
theorem ptpClockSet (a0 : Nat) : Statement (.ptpClockSet a0) := fun h _ e => below h e
theorem ptpStatusGet (a0 : Nat) : Statement (.ptpStatusGet a0) := fun h _ e => below h e
theorem ptpStatsGet (a0 : Nat) : Statement (.ptpStatsGet a0) := fun h _ e => below h e
theorem todStep (a0 : Bool) : Statement (.todStep a0) := fun _ _ e => nomatch e
theorem todLoad (a0 : Bool) : Statement (.todLoad a0) := fun _ _ e => nomatch e
theorem todSlew : Statement (.todSlew) := fun _ _ e => nomatch e
theorem todSlewAbort : Statement (.todSlewAbort) := fun _ _ e => nomatch e
theorem slewComplete : Statement (.slewComplete) := fun _ _ e => nomatch e
theorem todIncApply (a0 : W32) : Statement (.todIncApply a0) := fun _ _ e => nomatch e
theorem todFracRead : Statement (.todFracRead) := fun _ _ e => nomatch e
theorem ppsInEdge (a0 : Bool) : Statement (.ppsInEdge a0) := fun _ _ e => nomatch e
theorem ppsInLost : Statement (.ppsInLost) := fun _ _ e => nomatch e
theorem todSetPpsTimeout : Statement (.todSetPpsTimeout) := fun _ _ e => nomatch e
theorem ppsOutEdge : Statement (.ppsOutEdge) := fun _ _ e => nomatch e
theorem ppsOutFall : Statement (.ppsOutFall) := fun _ _ e => nomatch e
theorem ref10mWindow (a0 : Nat) : Statement (.ref10mWindow a0) := fun _ _ e => nomatch e
theorem servoSample (a0 : Int) (a1 : Int) (a2 : Bytes) : Statement (.servoSample a0 a1 a2) := fun _ _ e => nomatch e
theorem servoSourceLost (a0 : Nat) : Statement (.servoSourceLost a0) := fun _ _ e => nomatch e
theorem holdoverLimit : Statement (.holdoverLimit) := fun _ _ e => nomatch e
theorem packCreate (a0 : Nat) : Statement (.packCreate a0) := fun h _ e => below h e
theorem packJoin (a0 : Nat) : Statement (.packJoin a0) := fun h _ e => below h e
theorem packLeave (a0 : Nat) : Statement (.packLeave a0) := fun h _ e => below h e
theorem packExpel (a0 : Nat) : Statement (.packExpel a0) := fun h _ e => below h e
theorem packPolicySet (a0 : Nat) : Statement (.packPolicySet a0) := fun h _ e => below h e
theorem packStatusGet (a0 : Nat) : Statement (.packStatusGet a0) := fun h _ e => below h e
theorem packDirGet (a0 : Nat) (a1 : List (Nat × Nat)) : Statement (.packDirGet a0 a1) := fun h _ e => below h e
theorem packStatsGet (a0 : Nat) : Statement (.packStatsGet a0) := fun h _ e => below h e
theorem epochPrepare (a0 : Nat) : Statement (.epochPrepare a0) := fun h _ e => below h e
theorem epochEnlist (a0 : Nat) (a1 : DmaRead) : Statement (.epochEnlist a0 a1) := fun h _ e => below h e
theorem epochAbort (a0 : Nat) : Statement (.epochAbort a0) := fun h _ e => below h e
theorem epochStatusGet (a0 : Nat) : Statement (.epochStatusGet a0) := fun h _ e => below h e
theorem packFragment (a0 : PackHeader) (a1 : Fragment) : Statement (.packFragment a0 a1) := fun _ _ e => nomatch e
theorem packReassemblyTimeout (a0 : Nat) (a1 : Nat) : Statement (.packReassemblyTimeout a0 a1) := fun _ _ e => nomatch e
theorem hello (a0 : PackHeader) (a1 : Bool) (a2 : Bool) (a3 : Nat) (a4 : Nat) (a5 : Nat) : Statement (.hello a0 a1 a2 a3 a4 a5) := fun _ _ e => nomatch e
theorem joinReq (a0 : Nat) (a1 : Nat) : Statement (.joinReq a0 a1) := fun _ _ e => nomatch e
theorem joinAccept (a0 : Nat) (a1 : Nat) (a2 : List DirEntry) : Statement (.joinAccept a0 a1 a2) := fun _ _ e => nomatch e
theorem joinRefuse (a0 : PackHeader) (a1 : Nat) : Statement (.joinRefuse a0 a1) := fun _ _ e => nomatch e
theorem packJoinTimeout : Statement (.packJoinTimeout) := fun _ _ e => nomatch e
theorem leave (a0 : PackHeader) : Statement (.leave a0) := fun _ _ e => nomatch e
theorem keyRotate (a0 : PackHeader) (a1 : Nat) (a2 : Nat) (a3 : Bytes) : Statement (.keyRotate a0 a1 a2 a3) := fun _ _ e => nomatch e
theorem packKeySwitch : Statement (.packKeySwitch) := fun _ _ e => nomatch e
theorem packOldKeyExpiry : Statement (.packOldKeyExpiry) := fun _ _ e => nomatch e
theorem helloTimer : Statement (.helloTimer) := fun _ _ e => nomatch e
theorem memberUnheard (a0 : Nat) : Statement (.memberUnheard a0) := fun _ _ e => nomatch e
theorem memberDepart (a0 : Nat) : Statement (.memberDepart a0) := fun _ _ e => nomatch e
theorem leadTimeout : Statement (.leadTimeout) := fun _ _ e => nomatch e
theorem packSyncTimer : Statement (.packSyncTimer) := fun _ _ e => nomatch e
theorem packDelayReqTimer : Statement (.packDelayReqTimer) := fun _ _ e => nomatch e
theorem sync (a0 : PackHeader) : Statement (.sync a0) := fun _ _ e => nomatch e
theorem followUp (a0 : PackHeader) (a1 : Nat) (a2 : W64) (a3 : W32) : Statement (.followUp a0 a1 a2 a3) := fun _ _ e => nomatch e
theorem delayReq (a0 : PackHeader) : Statement (.delayReq a0) := fun _ _ e => nomatch e
theorem delayResp (a0 : PackHeader) (a1 : Nat) (a2 : W64) (a3 : W32) : Statement (.delayResp a0 a1 a2 a3) := fun _ _ e => nomatch e
theorem dirClaim (a0 : PackHeader) (a1 : DirEntry) : Statement (.dirClaim a0 a1) := fun _ _ e => nomatch e
theorem dirGrant (a0 : PackHeader) (a1 : DirEntry) (a2 : Nat) : Statement (.dirGrant a0 a1 a2) := fun _ _ e => nomatch e
theorem dirDeny (a0 : PackHeader) (a1 : DirEntry) : Statement (.dirDeny a0 a1) := fun _ _ e => nomatch e
theorem dirUpdate (a0 : PackHeader) (a1 : DirEntry) (a2 : Bool) (a3 : Nat) : Statement (.dirUpdate a0 a1 a2 a3) := fun _ _ e => nomatch e
theorem dirRelease (a0 : PackHeader) (a1 : DirEntry) : Statement (.dirRelease a0 a1) := fun _ _ e => nomatch e
theorem epochPrep (a0 : PackHeader) (a1 : EpochParams) : Statement (.epochPrep a0 a1) := fun _ _ e => nomatch e
theorem epochVote (a0 : PackHeader) (a1 : Nat) (a2 : Bool) : Statement (.epochVote a0 a1 a2) := fun _ _ e => nomatch e
theorem stateCopy (a0 : PackHeader) (a1 : CopyItem) : Statement (.stateCopy a0 a1) := fun _ _ e => nomatch e
theorem epochDecide (a0 : PackHeader) (a1 : Nat) (a2 : Bool) (a3 : Nat) : Statement (.epochDecide a0 a1 a2 a3) := fun _ _ e => nomatch e
theorem epochAck (a0 : PackHeader) (a1 : Nat) : Statement (.epochAck a0 a1) := fun _ _ e => nomatch e
theorem epochDecideResend (a0 : Nat) : Statement (.epochDecideResend a0) := fun _ _ e => nomatch e
theorem epochTpReached (a0 : Nat) : Statement (.epochTpReached a0) := fun _ _ e => nomatch e
theorem epochInDoubt (a0 : Nat) : Statement (.epochInDoubt a0) := fun _ _ e => nomatch e
theorem epochTsReached (a0 : Nat) : Statement (.epochTsReached a0) := fun _ _ e => nomatch e
theorem epochOverlapEnd (a0 : Nat) : Statement (.epochOverlapEnd a0) := fun _ _ e => nomatch e
theorem mbRing (a0 : Nat) : Statement (.mbRing a0) := fun h _ e => by cases e; exact of_decide_eq_true h
theorem mbAbort (a0 : Nat) : Statement (.mbAbort a0) := fun h _ e => by cases e; exact of_decide_eq_true h
theorem mbRelease (a0 : Nat) : Statement (.mbRelease a0) := fun h _ e => by cases e; exact of_decide_eq_true h
theorem mbRequestWrite (a0 : Nat) (a1 : Nat) (a2 : Bytes) : Statement (.mbRequestWrite a0 a1 a2) := fun h _ e => by cases e; exact of_decide_eq_true ((Bool.and_eq_true _ _ ▸ h : _ ∧ _).1)
theorem mbTake (a0 : Bool) (a1 : Bool) (a2 : Bytes) : Statement (.mbTake a0 a1 a2) := fun _ _ e => nomatch e
theorem mbWatchdog (a0 : Nat) : Statement (.mbWatchdog a0) := fun h _ e => by cases e; exact of_decide_eq_true h
theorem hifReset (a0 : HifResetCause) : Statement (.hifReset a0) := fun _ _ e => nomatch e
theorem bar0BoundaryFault (a0 : Nat) (a1 : Nat) (a2 : Bool) : Statement (.bar0BoundaryFault a0 a1 a2) := fun _ _ e => nomatch e
theorem counterLoRead (a0 a1 : Nat) : Statement (.counterLoRead a0 a1) := fun _ _ e => nomatch e
theorem nqEnableWrite (a0 : W32) : Statement (.nqEnableWrite a0) := fun _ _ e => nomatch e
theorem nqHeadWrite (a0 : W32) : Statement (.nqHeadWrite a0) := fun _ _ e => nomatch e
theorem nqBacklogPost : Statement (.nqBacklogPost) := fun _ _ e => nomatch e
theorem nqCoalesceTimer : Statement (.nqCoalesceTimer) := fun _ _ e => nomatch e
theorem nonceExpiry (a0 : Nat) : Statement (.nonceExpiry a0) := fun _ _ e => nomatch e
theorem authLockoutEnd (a0 : Bool) : Statement (.authLockoutEnd a0) := fun _ _ e => nomatch e
theorem smbusRead (a0 : Nat) (a1 : Nat) (a2 : Bool) : Statement (.smbusRead a0 a1 a2) := fun _ _ e => nomatch e
theorem smbusWrite (a0 : Nat) (a1 : Nat) : Statement (.smbusWrite a0 a1) := fun _ _ e => nomatch e
theorem smbusSclTimeout : Statement (.smbusSclTimeout) := fun _ _ e => nomatch e
theorem smbusRefresh (a0 : Nat) (a1 : Nat) : Statement (.smbusRefresh a0 a1) := fun _ _ e => nomatch e
theorem devInfoGet (a0 : Nat) : Statement (.devInfoGet a0) := fun h _ e => below h e
theorem devSessionOpen (a0 : Nat) : Statement (.devSessionOpen a0) := fun h _ e => below h e
theorem devSessionClose (a0 : Nat) : Statement (.devSessionClose a0) := fun h _ e => below h e
theorem devNonceGet (a0 : Nat) : Statement (.devNonceGet a0) := fun h _ e => below h e
theorem dapAccess (a0 : Bool) (a1 : Nat) (a2 : Nat) (a3 : Bytes) : Statement (.dapAccess a0 a1 a2 a3) := fun _ _ e => nomatch e
theorem dapHalt : Statement (.dapHalt) := fun _ _ e => nomatch e
theorem dapStep : Statement (.dapStep) := fun _ _ e => nomatch e
theorem dapResume : Statement (.dapResume) := fun _ _ e => nomatch e
theorem mpuFault (a0 : AccessKind) (a1 : Bool) (a2 : Nat) (a3 : Nat) (a4 : Nat) : Statement (.mpuFault a0 a1 a2 a3 a4) := fun _ _ e => nomatch e
theorem fwlClose : Statement (.fwlClose) := fun _ _ e => nomatch e
theorem mpuLock (a0 : W32) : Statement (.mpuLock a0) := fun _ _ e => nomatch e
theorem debugLevelGranted : Statement (.debugLevelGranted) := fun _ _ e => nomatch e
theorem porLAssert : Statement (.porLAssert) := fun _ _ e => nomatch e
theorem porLRelease : Statement (.porLRelease) := fun _ _ e => nomatch e
theorem sysRstLAssert : Statement (.sysRstLAssert) := fun _ _ e => nomatch e
theorem sysRstLRelease : Statement (.sysRstLRelease) := fun _ _ e => nomatch e
theorem coreReset : Statement (.coreReset) := fun _ _ e => nomatch e
theorem measExtend (a0 : Nat) : Statement (.measExtend a0) := fun _ _ e => nomatch e
theorem measLockLow : Statement (.measLockLow) := fun _ _ e => nomatch e
theorem lcStateGet (a0 : Nat) : Statement (.lcStateGet a0) := fun h _ e => below h e
theorem lcStateSet (a0 : Nat) (a1 : DmaRead) : Statement (.lcStateSet a0 a1) := fun h _ e => below h e
theorem lcTransitionCommit : Statement (.lcTransitionCommit) := fun _ _ e => nomatch e
theorem lcDebugUnlock (a0 : Nat) : Statement (.lcDebugUnlock a0) := fun h _ e => below h e
theorem idCertGet (a0 : Nat) (a1 : List (Nat × Nat)) : Statement (.idCertGet a0 a1) := fun h _ e => below h e
theorem idCsrGet (a0 : Nat) (a1 : List (Nat × Nat)) : Statement (.idCsrGet a0 a1) := fun h _ e => below h e
theorem idCertSet (a0 : Nat) (a1 : DmaRead) : Statement (.idCertSet a0 a1) := fun h _ e => below h e
theorem idQuoteGet (a0 : Nat) : Statement (.idQuoteGet a0) := fun h _ e => below h e
theorem fwImageStage (a0 : Nat) (a1 : DmaRead) : Statement (.fwImageStage a0 a1) := fun h _ e => below h e
theorem fwStageWriteDone (a0 : Bool) : Statement (.fwStageWriteDone a0) := fun _ _ e => nomatch e
theorem fwImageActivate (a0 : Nat) (a1 : Option (Nat × BitVec 4)) : Statement (.fwImageActivate a0 a1) := fun h _ e => below h e
theorem fwStageAbort (a0 : Nat) : Statement (.fwStageAbort a0) := fun h _ e => below h e
theorem fwStatusGet (a0 : Nat) : Statement (.fwStatusGet a0) := fun h _ e => below h e
theorem alarmDetected (a0 : Nat) (a1 : W64) : Statement (.alarmDetected a0 a1) := fun _ _ e => nomatch e
theorem tamperSample (a0 : TamperItem) (a1 : Bool) (a2 : Nat) : Statement (.tamperSample a0 a1 a2) := fun _ _ e => nomatch e
theorem shadowMismatch (a0 : Nat) (a1 : Nat) (a2 : Bool) : Statement (.shadowMismatch a0 a1 a2) := fun _ _ e => nomatch e
theorem powerToBattery : Statement (.powerToBattery) := fun _ _ e => nomatch e
theorem powerFromBattery : Statement (.powerFromBattery) := fun _ _ e => nomatch e
theorem aonPowerLoss : Statement (.aonPowerLoss) := fun _ _ e => nomatch e
theorem secLockSet : Statement (.secLockSet) := fun _ _ e => nomatch e
theorem secLatchedClear (a0 : W32) : Statement (.secLatchedClear a0) := fun _ _ e => nomatch e
theorem tmpStatusGet (a0 : Nat) : Statement (.tmpStatusGet a0) := fun h _ e => below h e
theorem tmpConfigGet (a0 : Nat) : Statement (.tmpConfigGet a0) := fun h _ e => below h e
theorem tmpConfigSet (a0 : Nat) : Statement (.tmpConfigSet a0) := fun h _ e => below h e
theorem tmpConfigLock (a0 : Nat) : Statement (.tmpConfigLock a0) := fun h _ e => below h e
theorem tmpAlarmClear (a0 : Nat) : Statement (.tmpAlarmClear a0) := fun h _ e => below h e
theorem evdStatusGet (a0 : Nat) : Statement (.evdStatusGet a0) := fun h _ e => below h e
theorem evdLogExport (a0 : Nat) (a1 : List (Nat × Nat)) : Statement (.evdLogExport a0 a1) := fun h _ e => below h e
theorem evrEventArrival (a0 : Bool) : Statement (.evrEventArrival a0) := fun _ _ e => nomatch e
theorem evrSummaryTick : Statement (.evrSummaryTick) := fun _ _ e => nomatch e
theorem evrTokenRefill (a0 : Nat) : Statement (.evrTokenRefill a0) := fun _ _ e => nomatch e
theorem evrForward : Statement (.evrForward) := fun _ _ e => nomatch e
theorem evrCursorAdvance (a0 : Nat) (a1 : Nat) : Statement (.evrCursorAdvance a0 a1) := fun _ _ e => nomatch e
theorem evrConfigSet (a0 : Nat) : Statement (.evrConfigSet a0) := fun h _ e => below h e
theorem evrStatusGet (a0 : Nat) : Statement (.evrStatusGet a0) := fun h _ e => below h e
theorem evrRateSet (a0 : Nat) (a1 : DmaRead) : Statement (.evrRateSet a0 a1) := fun h _ e => below h e
theorem evrCursorSet (a0 : Nat) : Statement (.evrCursorSet a0) := fun h _ e => below h e
theorem crdStart : Statement (.crdStart) := fun _ _ e => nomatch e
theorem crdSweepComplete : Statement (.crdSweepComplete) := fun _ _ e => nomatch e
theorem pmcValueWrite (a0 : Nat) (a1 : Nat) (a2 : W32) (a3 : Bool) : Statement (.pmcValueWrite a0 a1 a2 a3) := fun _ _ e => nomatch e
theorem thresholdWindow (a0 : Nat) : Statement (.thresholdWindow a0) := fun _ _ e => nomatch e
theorem ageingMeasure (a0 : Nat) (a1 : Int) : Statement (.ageingMeasure a0 a1) := fun _ _ e => nomatch e
theorem eyeMeasure (a0 : Nat) (a1 : Nat) : Statement (.eyeMeasure a0 a1) := fun _ _ e => nomatch e
theorem stressTick : Statement (.stressTick) := fun _ _ e => nomatch e
theorem healthDailySample : Statement (.healthDailySample) := fun _ _ e => nomatch e
theorem cntConfigSet (a0 : Nat) (a1 : DmaRead) : Statement (.cntConfigSet a0 a1) := fun h _ e => below h e
theorem cntConfigGet (a0 : Nat) : Statement (.cntConfigGet a0) := fun h _ e => below h e
theorem cntSweepGet (a0 : Nat) (a1 : DmaRead) : Statement (.cntSweepGet a0 a1) := fun h _ e => below h e
theorem cntThresholdSet (a0 : Nat) : Statement (.cntThresholdSet a0) := fun h _ e => below h e
theorem hltReportGet (a0 : Nat) : Statement (.hltReportGet a0) := fun h _ e => below h e
theorem hltMonitorGet (a0 : Nat) : Statement (.hltMonitorGet a0) := fun h _ e => below h e
theorem meterPowerUp (a0 : Bool) : Statement (.meterPowerUp a0) := fun _ _ e => nomatch e
theorem meterPowerLoss : Statement (.meterPowerLoss) := fun _ _ e => nomatch e
theorem meterSweep (a0 : Nat) (a1 : Nat) (a2 : Nat) : Statement (.meterSweep a0 a1 a2) := fun _ _ e => nomatch e
theorem mtrStatusGet (a0 : Nat) : Statement (.mtrStatusGet a0) := fun h _ e => by cases e; exact of_decide_eq_true h
theorem mtrChannelGet (a0 : Nat) : Statement (.mtrChannelGet a0) := fun h _ e => by cases e; exact of_decide_eq_true h
theorem mtrStatementGet (a0 : Nat) : Statement (.mtrStatementGet a0) := fun h _ e => by cases e; exact of_decide_eq_true h
theorem mtrStatementLatch : Statement (.mtrStatementLatch) := fun _ _ e => nomatch e
theorem mtrCertGet (a0 : Nat) : Statement (.mtrCertGet a0) := fun h _ e => by cases e; exact of_decide_eq_true h
theorem mtrBindingSet (a0 : Nat) : Statement (.mtrBindingSet a0) := fun h _ e => by cases e; exact of_decide_eq_true h
theorem mtrBankFinalSweep : Statement (.mtrBankFinalSweep) := fun _ _ e => nomatch e
theorem mtrBindingGet (a0 : Nat) : Statement (.mtrBindingGet a0) := fun h _ e => by cases e; exact of_decide_eq_true h
theorem registerWrite (a0 : RegSpace) (a1 : Nat) (a2 : W32) : Statement (.registerWrite a0 a1 a2) := fun _ _ e => nomatch e
theorem factoryProvisioning (a0 : Nat) : Statement (.factoryProvisioning a0) := fun _ _ e => nomatch e
theorem alarmConditionEnded (a0 : Nat) : Statement (.alarmConditionEnded a0) := fun _ _ e => nomatch e
theorem aonPowerUp : Statement (.aonPowerUp) := fun _ _ e => nomatch e
theorem controlPathReceive (a0 : Option Int) : Statement (.controlPathReceive a0) := fun _ _ e => nomatch e
theorem timestampFifoDrain (a0 : Nat) : Statement (.timestampFifoDrain a0) := fun _ _ e => nomatch e
theorem wrapCompleted : Statement (.wrapCompleted) := fun _ _ e => nomatch e
theorem measExtendComplete : Statement (.measExtendComplete) := fun _ _ e => nomatch e
theorem deputyAcknowledgement (a0 : PackHeader) (a1 : CopyItem) : Statement (.deputyAcknowledgement a0 a1) := fun _ _ e => nomatch e
theorem voteAcknowledgement (a0 : PackHeader) (a1 : Nat) : Statement (.voteAcknowledgement a0 a1) := fun _ _ e => nomatch e
theorem pmcWrap (a0 : Nat) (a1 : Nat) : Statement (.pmcWrap a0 a1) := fun _ _ e => nomatch e
theorem clockGatingIdleExpiry (a0 : Nat) : Statement (.clockGatingIdleExpiry a0) := fun _ _ e => nomatch e

end Sys2Proof.Laws.Mailbox
end

