-- ==== Sys2Proof/Tests/Slice0.lean ====
section
/-! SUPPORT. Tests: ill-formed commands are refused; for each statement with hypotheses a state and operands that meet
them (the names begin wit_ and go on with the statement's); small tests of single commands on values taken from the
spec's examples and tables. -/
namespace Sys2Proof.Tests
set_option Elab.async false
open Sys2Proof Sys2Proof.Machine

/-- A booted device in the FIELD that the Felham firmware serves. -/
def field : State :=
  { State.reset with boot := { State.reset.boot with por := false, handed := true, agent := 2, lc := 2 } }

/-- A command taken from mailbox 0. -/
def cmd (op : Nat) (payload : Bytes) : Cmd :=
  { mb := 0, opcode := op, flags := 0, tag := 0, session := 0, payload := payload, claim := [], discard := false,
    wait := .none }

/-- The device `s` with the command taken. -/
def taking (s : State) (op : Nat) (payload : Bytes) : State := { s with hif := { s.hif with cmds := [cmd op payload] } }

/-- The command is taken there. -/
theorem taken_field (op : Nat) (payload : Bytes) : Taken op 0 (taking field op payload) (cmd op payload) := by
  refine ⟨?_, ?_⟩
  · show serving field = true
    decide
  · simp [cmdOf, taking, cmd]

/-! ### Ill-formed commands -/

theorem test_illFormed_mailbox : (Instr.portAdminSet 8).wellFormed = false := rfl
theorem test_illFormed_anyMailbox : (Instr.mbRing 9).wellFormed = false := rfl
theorem test_illFormed_requestOffset : (Instr.mbRequestWrite 0 4096 [1]).wellFormed = false := rfl
theorem test_illFormed_port : (Instr.linkUp 65).wellFormed = false := rfl
theorem test_illFormed_linePort : (Instr.tmSelect 64).wellFormed = false := rfl
theorem test_illFormed_inject : (Instr.cpInject 0 3 8 none [] ⟨false, false, false⟩).wellFormed = false := rfl
theorem test_illFormed_side : (Instr.xtRead 2).wellFormed = false := rfl
theorem test_illFormed_stage : (Instr.tcuStage 0 16).wellFormed = false := rfl
theorem test_illFormed_sah : (Instr.rxSaRetireTime 131072).wellFormed = false := rfl
theorem test_illFormed_slot : (Instr.slotDrained 16384).wellFormed = false := rfl
theorem test_illFormed_group : (Instr.sliceAssign 2 false).wellFormed = false := rfl
theorem test_illFormed_unit : (Instr.unitResetEnd 24).wellFormed = false := rfl
theorem test_illFormed_fetch : (Instr.fetchComplete 0 131072 ⟨false, none, none⟩).wellFormed = false := rfl
theorem test_illFormed_staging : (Instr.kmStgKeyWrite 11 0).wellFormed = false := rfl
theorem test_illFormed_context : (Instr.pkeContextExpiry 256).wellFormed = false := rfl
theorem test_illFormed_class : (Instr.pauseHaltExpiry 0 8).wellFormed = false := rfl
theorem test_illFormed_queue : (Instr.fLastExpiry 0 2048).wellFormed = false := rfl
theorem test_illFormed_parent : (Instr.servoSample 0 0 [1]).wellFormed = false := rfl
theorem test_illFormed_source : (Instr.packReassemblyTimeout 512 0).wellFormed = false := rfl
theorem test_illFormed_member : (Instr.memberDepart 512).wellFormed = false := rfl
theorem test_illFormed_smbusCode : (Instr.smbusRead 90 256 false).wellFormed = false := rfl
theorem test_illFormed_smbusTarget : (Instr.smbusWrite 128 0).wellFormed = false := rfl
theorem test_illFormed_measurement : (Instr.measExtend 8).wellFormed = false := rfl
theorem test_illFormed_alarm : (Instr.alarmDetected 24 0).wellFormed = false := rfl
theorem test_illFormed_cursor : (Instr.evrCursorAdvance 3 0).wellFormed = false := rfl
theorem test_illFormed_pmc : (Instr.pmcWrap 16 0).wellFormed = false := rfl
theorem test_illFormed_threshold : (Instr.thresholdWindow 64).wellFormed = false := rfl
theorem test_illFormed_monitor : (Instr.ageingMeasure 24 0).wellFormed = false := rfl
theorem test_illFormed_lane : (Instr.eyeMeasure 66 0).wellFormed = false := rfl
theorem test_illFormed_tap : (Instr.meterSweep 0 2 0).wellFormed = false := rfl
theorem test_illFormed_target : (Instr.factoryProvisioning 8).wellFormed = false := rfl

/-! ### Witnesses -/

/-- `field` with a command waiting. -/
def queued : State := { field with pending := [.todFracRead, .shaperRefill] }

theorem wit_StepRunsFrontCommand : queued.pending = .todFracRead :: [.shaperRefill] ∧
    (field.pending = [] ∧ live field = true ∧ field.tsu.slew = 0) := by decide
theorem wit_StepKeepsInvariant : ∃ t, Inv State.reset ∧ step State.reset = .next t :=
  ⟨tick State.reset, ⟨⟨trivial, trivial, trivial, trivial, trivial, trivial, trivial, trivial, trivial, trivial, trivial, trivial,
    trivial, trivial, trivial, trivial, trivial, trivial⟩, by decide, by decide, fun _ => by simp [clsOf, State.reset, Two.get, Cls.reset],
    fun _ => by simp [clsOf, State.reset, Two.get, Cls.reset], by decide, by decide, by decide, by decide, by decide, by decide⟩, by rfl⟩
/-- A command with flag NOTIFY. -/
def notifying : Cmd := { cmd 0x0102 [] with flags := 2 }
theorem wit_AnswersAreWritten : ({ notifying with discard := true } : Cmd).discard = true ∧
    (notifying.discard = false ∧ nbit notifying.flags 1 = true ∧ nbit (cmd 0x0102 []).flags 1 = false ∧ notifying.mb ≠ 8) ∧
    (nqRoom { field.hif with nqEnable := true } = true ∧ field.hif.backlog = [] ∧ field.hif.nqAfter = [] ∧ field.hif.nqEpisode = none) ∧
    nqRoom field.hif = false := by decide

/-- Bytes from numbers. -/
def bts (l : List Nat) : Bytes := l.map (BitVec.ofNat 8)
/-- `field` with a record at a port. -/
def withPort (p : Nat) (x : Port) : State := { field with ports := [(p, x)] }
/-- A port in a state. -/
def portIn (st : PortSt) : Port := { Port.reset with st := st, cfg := { PortCfg.reset with role := 2, peer := 0, lane := 6, preempt := 1 } }
/-- GP0 configured and down. -/
def gp0Down : State := withPort 64 { Port.reset with st := .adminDown, cfg := { PortCfg.reset with role := 4, lane := 8, fec := 2 } }
/-- PORT_CONFIG_SET for HP4 as the chapter's walk-through gives it. -/
def hp4 : Bytes := bts [4, 1, 0x24, 6, 2, 0, 0, 0, 0x80, 0x25] ++ zb 22

theorem wit_PortAdminSetAnswers :
    (serving gp0Down = true ∧ lcBad gp0Down = false ∧ pairedUp gp0Down 64 = true ∧
      (port gp0Down 64).st ≠ .disabled) ∧
    (serving field = true ∧ lcBad field = false ∧ (port field 64).st = .disabled) := by
  refine ⟨?_, ?_⟩ <;> decide +kernel
theorem wit_PortConfigSet : lcBad field = false ∧ hp4.length = 32 ∧ cfgEncoded hp4 = true ∧
    cfgSuits field 4 (cfgOf hp4) = true ∧ cfgAllowed field 4 (cfgOf hp4) = true := by decide +kernel
theorem wit_PortCommandsComplete : serving field = true ∧ lcBad field = false ∧
    (port (withPort 64 (portIn .up)) 64).cfg.role ≠ 0 ∧ lcBad (withPort 64 (portIn .up)) = false ∧
    serving (withPort 64 (portIn .up)) = true ∧ u8 [BitVec.ofNat 8 64, 0, 0, 0] 0 = 64 := by decide +kernel
theorem wit_LinkEventsFollowTable : live (withPort 64 (portIn .linkWait)) = true ∧ (port (withPort 64 (portIn .linkWait)) 64).st = .linkWait ∧ (port (withPort 64 (portIn .up)) 64).st = .up ∧
    (port (withPort 64 (portIn .rfault)) 64).st = .rfault := by
  decide +kernel
theorem wit_PreemptionAndMacControl : live (withPort 32 (portIn .up)) = true ∧
    (port (withPort 32 (portIn .up)) 32).cfg.preempt = 1 ∧ (port (withPort 32 (portIn .up)) 32).st = .up ∧
    (port (withPort 32 (portIn .up)) 32).preemptOn = false ∧ (port (withPort 32 (portIn .up)) 32).preemptFails < 3 ∧
    beNat (sub (zb 12 ++ bts [0x88, 8] ++ zb 46) 12 2) = 0x8808 := by decide +kernel

/-- A learned entry in the first stash slot: SCI 1 on LP0. -/
def xtOne : XtEntry := { typ := 1, port := 32, key := 1, tagged := false, learned := true, staged := false, version := 0, res := .reset, stamp := 0 }
/-- The key bytes of that entry. -/
def xtKeyBytes : Bytes := bts [1, 32, 0, 0, 0, 0, 0, 0, 0, 0, 0, 1, 0, 0, 0, 0]
/-- `field` with a line-side classifier. -/
def withCls (c : Cls) : State := { field with cls := ⟨.reset, c⟩ }
/-- A policy entry that matches nothing but zero keys. -/
def ptZero : PtEntry := { key := zb 24, mask := zb 24, res := .reset, hits := 0 }
/-- A line-side classifier that holds both. -/
def clsDemo : Cls := { Cls.reset with xt := [(262144, some xtOne)], pt := [(8191, some ptZero)] }

theorem wit_TableCommandsComplete : lcBad (withCls clsDemo) = false ∧ serving (withCls clsDemo) = true ∧
    (resOk (zb 16) = true ∧ 3840 + 256 ≤ 4096) ∧
    (keyOk xtKeyBytes = true ∧ u8 xtKeyBytes 12 = 0 ∧ u8 xtKeyBytes 13 = 0 ∧
      xtHolds (clsOf (tcuSettled (withCls clsDemo)) (portSide (u8 xtKeyBytes 1))) (keyOfBytes xtKeyBytes) = some 262144 ∧
      xtAt (clsOf (tcuSettled (withCls clsDemo)) (portSide (u8 xtKeyBytes 1))) 262144 = some xtOne) ∧
    tget none (clsOf (tcuSettled (withCls clsDemo)) 1).pt 8191 = some ptZero := by
  refine ⟨by decide +kernel, by decide +kernel, by decide +kernel, ⟨by decide +kernel, by decide +kernel, by decide +kernel, ?_, by decide +kernel⟩, by decide +kernel⟩
  decide +kernel
theorem wit_BatchCommandsAnswer : lcBad field = false ∧ [zb 72] ≠ [] ∧ (∀ e ∈ [zb 72], e.length = 72) ∧
    dmaRange 8 [zb 72].flatten.length = true ∧ dmaRange 0 2 = true ∧ nbit 8 3 = true ∧ nbit 8 0 = false := by decide +kernel
theorem wit_TcuFollowsRules : cpRuns field = true ∧ (clsOf field 1).busy = false ∧ (clsOf field 1).committed = false ∧
    (clsOf field 1).staging.length < 256 ∧ (clsOf (withCls { Cls.reset with busy := true }) 1).busy = true := by decide +kernel
theorem wit_TcuFollowsRules_commit : (clsOf (withCls { Cls.reset with committed := true }) 1).committed = true ∧
    live (withCls { Cls.reset with committed := true }) = true ∧
    (clsOf (withCls { Cls.reset with busy := true, opCode := 3, opInsPort := some 32 }) 1).opInsPort = some 32 := by decide +kernel
theorem wit_LearningAndAgeingComplete :
    (live field = true ∧ ageTurn (clsOf field 1) = true ∧ ageTurn { Cls.reset with learnQ := [⟨32, 1⟩] } = false) ∧
    (learnFull { Cls.reset with learn := [(0, ⟨true, false, false, 1⟩)] } 32 = false ∧
      learnFull { clsDemo with learn := [(0, ⟨true, false, false, 1⟩)] } 32 = true) ∧
    (fwRuns (withCls { Cls.reset with learnFifo := [⟨true, 32, 1, 262144, 5⟩], flushes := [⟨32, 1, 0⟩] }) = true ∧
      (clsOf (withCls { Cls.reset with learnFifo := [⟨true, 32, 1, 262144, 5⟩] }) 1).learnFifo = [⟨true, 32, 1, 262144, 5⟩] ∧
      (clsOf (withCls { Cls.reset with flushes := [⟨32, 1, 0⟩] }) 1).flushes = [⟨32, 1, 0⟩] ∧
      (clsOf (withCls { Cls.reset with flushes := [⟨32, 2, 0⟩] }) 1).flushes = [⟨32, 2, 0⟩]) ∧
    (clsOf (withCls { Cls.reset with learnQ := [⟨32, 1⟩] }) 1).learnQ = [⟨32, 1⟩] ∧
    (xtHolds { Cls.reset with learnQ := [] } ⟨1, 32, 1, false⟩ = none ∧
      xtPlace { Cls.reset with learnQ := [] } ⟨1, 32, 1, false⟩ ≠ none) ∧
    reached 1000000000 ((clsOf field 1).tickTod + BitVec.ofNat 64 ((clsOf field 1).ageTick.toNat * 1000000)) = true ∧
    (stashLocs.findSome? (fun l => (xtAt clsDemo l).bind (fun e =>
      ((xtCands clsDemo e.xtKey).find? (fun m => (xtAt clsDemo m).isNone)).map (fun m => (l, m))))).isSome = true := by
  refine ⟨by decide +kernel, by decide +kernel, by decide +kernel, by decide +kernel,
    ⟨by decide +kernel, by decide +kernel⟩, by decide +kernel, by decide +kernel⟩
/-- Two keys of LP0, an entry of the second, and a line-side table in which every place for the first is taken by the second. -/
def xtK1 : XtKey := ⟨1, 32, 7, false⟩
def xtTwo : XtEntry := { xtOne with key := 9 }
def clsFull : Cls := { Cls.reset with
  xt := (xtCands .reset xtK1 ++ xtCands .reset xtTwo.xtKey ++ stashLocs).foldl (fun t l => tset none t l (some xtTwo)) [] }
/-- An entry of TBL_INSERT and of TBL_MODIFY for a key of LP0: the key's bytes, the byte STATIC and the result. -/
def xtReq (key static : Nat) (res : Bytes) : Bytes := bts [1, 32, 0, 0] ++ be 8 key ++ le 1 static ++ zb 3 ++ res
theorem wit_TableCommandsComplete_insert : (xtReq 7 1 (zb 16)).length = 32 ∧ keyOk (xtReq 7 1 (zb 16)) = true ∧ resOk ((xtReq 7 1 (zb 16)).drop 16) = true ∧
    keyOfBytes (xtReq 7 1 (zb 16)) = xtK1 ∧ u8 (xtReq 7 2 (zb 16)) 12 ≠ 1 ∧
    (xtFind false clsDemo (keyOfBytes (xtReq 1 1 (zb 16)))).map (·.2.learned) = some true ∧
    (xtFind false { clsDemo with xt := [(262144, some { xtOne with learned := false })] } (keyOfBytes (xtReq 1 1 (zb 16)))).map (·.2.learned) = some false ∧
    (xtFind false clsDemo xtK1 = none ∧ (xtCands clsDemo xtK1).find? (fun l => (xtAt clsDemo l).isNone) ≠ none) ∧
    (xtFind false clsFull xtK1 = none ∧ (xtCands clsFull xtK1).find? (fun l => (xtAt clsFull l).isNone) = none ∧
      path1 clsFull xtK1 = none ∧ path2 clsFull xtK1 = none ∧ stashLocs.find? (fun l => (xtAt clsFull l).isNone) = none) := by
  refine ⟨by decide, by decide, by decide, by decide, by decide, by decide +kernel, by decide +kernel, by decide +kernel, ?_⟩
  refine ⟨by decide +kernel, by decide +kernel, by decide +kernel, by decide +kernel, by decide +kernel⟩
/-- The learned entry takes an empty result without STATIC, and any with it; with a result and without STATIC it does not. -/
theorem wit_TableCommandsComplete_modify : keyOk (xtReq 1 0 (zb 16)) = true ∧ u8 (xtReq 1 0 (zb 16)) 12 = 0 ∧ u8 (xtReq 1 1 (zb 16)) 12 = 1 ∧
    u8 (xtReq 1 2 (zb 16)) 12 = 2 ∧
    (xtFind false clsDemo (keyOfBytes (xtReq 1 0 (zb 16)))).map (·.2.learned) = some true ∧ (resOf ((xtReq 1 0 (zb 16)).drop 16)).valid = 0 ∧
    (resOk ((xtReq 1 0 (1 :: zb 15)).drop 16) = true ∧ (resOf ((xtReq 1 0 (1 :: zb 15)).drop 16)).valid ≠ 0) ∧
    xtFind false clsDemo (keyOfBytes (xtReq 7 1 (zb 16))) = none := by
  refine ⟨by decide, by decide, by decide, by decide, by decide +kernel, by decide, by decide, by decide +kernel⟩
theorem wit_TableCommandsComplete_delete : keyOk xtKeyBytes = true ∧ u8 xtKeyBytes 12 = 0 ∧ u8 xtKeyBytes 13 = 0 ∧ xtKeyBytes.length = 16 ∧
    (xtFind false clsDemo (keyOfBytes xtKeyBytes)).isSome = true ∧ keyOk (zb 16) = false ∧
    xtFind false clsDemo (keyOfBytes (bts [1, 33, 0, 0, 0, 0, 0, 0, 0, 0, 0, 1, 0, 0, 0, 0])) = none := by
  refine ⟨by decide, by decide, by decide, by decide, by decide +kernel, by decide, by decide +kernel⟩

/-- An RX channel on LP0, its SA RETIRING, and a TX channel on LP8 with an INSTALLED SA; LP0 and LP8 are a TRANSCRYPT pair. -/
def scDemo (rx : Bool) (port : Nat) : Sc :=
  { rx := rx, port := port, suite := 2, option := 0, replay := rx, group := false, sci := 1, window := 0, create := 0,
    nosa := 0, switches := 0 }
/-- An SA of a channel. -/
def saDemo (sch : Nat) (rx : Bool) (st : SaSt) : Sa :=
  { sch := sch, an := 0, st := st, rx := rx, integrityOnly := false, strict := false, offset := 0, mode := 0, ssci := 0,
    next := 5, thr := 1, low := 1, tod := 0, change := 0, thrRaised := false, reachedThr := false, used := false,
    tag := 0, lens := [], waiters := [], c0 := 0, c1 := 0, c2 := 0, c3 := 0, saturated := false }
/-- A TRANSCRYPT port. -/
def xcPort (peer : Nat) : Port := { Port.reset with st := .up, cfg := { PortCfg.reset with role := 3, peer := peer, lane := 6, fec := 2 } }
def chanDemo : State :=
  { field with
    ports := [(32, xcPort 40), (40, xcPort 32)]
    chan := { Chan.reset with scs := [(65533, some (scDemo true 32)), (65534, some (scDemo false 40)), (65535, some (scDemo false 40))]
                              sas := [(131070, some (saDemo 65533 true .retiring)), (131071, some (saDemo 65534 false .installed))] } }

theorem wit_ScCommandsComplete : serving chanDemo = true ∧ lcBad chanDemo = false ∧
    scArgs (bts [0xFF, 0xFF, 1, 0x3F, 4, 0, 1, 0, 0, 0, 0, 0, 0, 0, 0, 1, 0, 0, 0, 0x40, 0, 0, 0, 0]) = true ∧
    (scOf chanDemo 65533).any (fun x => x.rx && !isXpn x.suite) = true ∧
    (scOf chanDemo 65535).any (fun x => !x.group) = true ∧ saFind chanDemo (fun a => a.sch == 65535 && a.st != .free) = none ∧
    chanDemo.chan.pairs = [] ∧ (scOf chanDemo 65534).any (fun t => !t.rx && pairOf chanDemo 32 == some t.port) = true ∧
    (port chanDemo 32).cfg.role = 3 := by decide +kernel
theorem wit_SaCommandsComplete : (saOf chanDemo 131071).any (fun a => a.st == .installed && !a.rx) = true ∧
    saArmed chanDemo 65534 = none ∧ enlisted chanDemo 131071 = false ∧
    reached (BitVec.ofNat 64 (2 ^ 63 - 1)) chanDemo.tsu.ns = true ∧
    modifyArgs (le 4 131071 ++ le 2 8 ++ zb 26) = true ∧ (saOf chanDemo 131070).any (fun a => a.st == .retiring) = true ∧
    reached chanDemo.tsu.ns 0 = true ∧ live chanDemo = true ∧
    reached 100000000 (chanDemo.chan.spillTod + 100000000) = true := by decide +kernel
theorem wit_PnAllocationAdvances : (pnAlloc 65534 none { chanDemo with
      chan := { chanDemo.chan with sas := [(131071, some (saDemo 65534 false .current))] } }).1 = .pn 131071 5 ∧
    (pnAlloc 65534 none chanDemo).1 = .nosa := by decide +kernel
theorem wit_ReplayCheckAndVerification : (replayCheck 65533 0 1 chanDemo).1 = some (131070, 1) ∧
    (saOf chanDemo 131070).any (fun a => decide (a.low ≤ 1)) = true ∧ (scOf chanDemo 65533).any (fun x => x.replay) = true ∧
    (0 < (saDemo 65533 true .active).low) := by decide +kernel
theorem wit_StatisticsCommandsAnswer : (∀ e ∈ [le 4 131071], e.length = 4) ∧ (∀ e ∈ [le 4 131071], decide (u32 e 0 ≤ 131071) = true) ∧
    dmaRange 8 [le 4 131071].flatten.length = true ∧ dmaRange 8 40 = true ∧ u16 (bts [1, 0, 0xFF, 7]) 2 ≤ 2047 ∧
    u16 (bts [1, 0, 0xFF, 0x1F]) 2 ≤ 8191 := by decide +kernel

def hostPort : Port := { Port.reset with st := .up, cfg := { PortCfg.reset with role := 1, peer := 32, lane := 6, fec := 2 } }
def linePort : Port := { Port.reset with st := .up, cfg := { PortCfg.reset with role := 2, peer := 0, lane := 6, fec := 2 } }
/-- A classifier result. -/
def demoRes (valid : BitVec 6) (d sch pol : Nat) : ClsRes :=
  { valid := valid, decision := d, tc := 0, sch := sch, pol := pol, queue := 0, flags := 0 }
/-- An XT entry for an SCI of a line port that names an SC. -/
def demoXt (port sci sch : Nat) : XtEntry := ⟨1, port, sci, false, false, false, 0, demoRes 2 0 sch 0, 0⟩
/-- HP0 paired with LP0, and the TRANSCRYPT pair LP8, LP16, all UP. HP0's direct table holds a verdict of every kind, policer 9 is empty,
and LP0 and LP8 take CONTROLLED frames of SCI 1 under their SC; SCI 2 of LP0 names an SC of the wrong direction. -/
def pathDemo : State :=
  { field with
    ports := [(0, hostPort), (32, linePort), (40, xcPort 48), (48, xcPort 40)]
    cls := ⟨{ Cls.reset with dt := [(0, demoRes 3 1 0 0), (1, demoRes 3 3 0 0), (2, demoRes 3 2 0 0), (3, demoRes 1 0 0 0),
              (4, demoRes 7 0 65534 9), (4095, demoRes 3 0 65534 0)] },
            { Cls.reset with dt := [(0, demoRes 1 0 0 0), (32768, demoRes 1 0 0 0)]
                             xt := [(262144, some (demoXt 32 1 65533)), (262145, some (demoXt 40 1 65532)),
                                    (262146, some (demoXt 32 2 65534))] }⟩
    pol := ⟨[(9, { Policer.reset with mode := 1, c := 0, e := 0 })], []⟩
    chan := { Chan.reset with
      scs := [(65532, some (scDemo true 40)), (65533, some (scDemo true 32)), (65534, some (scDemo false 32))]
      sas := [(131068, some (saDemo 65532 true .active)), (131069, some (saDemo 65533 true .active)),
              (131071, some (saDemo 65534 false .current))] } }
/-- A VLAN-tagged header, and one with a SecTAG: TCI, PN and SCI. -/
def vlanHdr (v : Nat) : Bytes := zb 12 ++ be 2 0x8100 ++ be 2 v ++ be 2 0x0800 ++ zb 40
def secHdr (tci pn sci : Nat) : Bytes := zb 12 ++ be 2 0x88E5 ++ le 1 tci ++ [0] ++ be 4 pn ++ be 8 sci ++ zb 40
/-- The result that a header takes at a port, and whether the XT supplied its SC: the merge the statement computes. -/
def verdictAt (p : Nat) (hdr : Bytes) : ClsRes × Bool :=
  let side := portSide p
  let ps := parse (decide (32 ≤ p)) hdr
  let sec := ps.tag.isSome
  let cut := fun (r : ClsRes) => if sec then { r with valid := r.valid &&& 0x3D } else r
  let xt := xtLookup side (frameKey pathDemo p ps) pathDemo
  let pt := ptLookup side (ptKey p hdr ps) xt.2
  (((xt.1.toList ++ (pt.1.map cut).toList)).foldl resMerge
      (resMerge .reset (cut (dtView (clsOf pathDemo side) p (if sec then 0 else ps.vid)))),
    (xt.1.map (fun r => r.valid.getLsbD 1)).getD false)
/-- Its SecTAG, where it has one, is valid. -/
def tagFine (p : Nat) (hdr : Bytes) : Bool := !((parse (decide (32 ≤ p)) hdr).tag.map badTag).getD false

theorem wit_FramePathCompletes :
    (live pathDemo = true ∧ (∀ p ∈ [0, 32, 40], (port pathDemo p).st = .up ∧ frameOf (fecCount p ⟨0, 0, [], false⟩ pathDemo) 7 = none) ∧
      hbe (vlanHdr 1) 12 2 ≠ 0x8808 ∧ hbe (secHdr 0x2C 9 1) 12 2 ≠ 0x8808) ∧
    tagFine 32 (zb 12 ++ be 2 0x88E5 ++ [0x80, 0, 0, 0, 0, 1] ++ zb 40) = false := by
  decide +kernel
/-- The drops of Table 3-4 and the verdicts of a host port, one header each: no entry, DROP, no SC, UNCONTROLLED, TO_CP, red, CONTROLLED. -/
theorem wit_FramePathCompletes_host :
    (∀ v ∈ [0, 1, 2, 3, 4, 5, 4095], tagFine 0 (vlanHdr v) = true) ∧
    (verdictAt 0 (vlanHdr 5)).1.valid.getLsbD 0 = false ∧
    (∀ v ∈ [0, 1, 2, 3, 4, 4095], (verdictAt 0 (vlanHdr v)).1.valid.getLsbD 0 = true) ∧
    (verdictAt 0 (vlanHdr 2)).1.decision = 2 ∧
    ((verdictAt 0 (vlanHdr 3)).1.decision = 0 ∧ (verdictAt 0 (vlanHdr 3)).1.valid.getLsbD 1 = false) ∧
    ((verdictAt 0 (vlanHdr 0)).1.decision = 1 ∧ (verdictAt 0 (vlanHdr 1)).1.decision = 3) ∧
    ((verdictAt 0 (vlanHdr 4)).1.decision = 0 ∧ (verdictAt 0 (vlanHdr 4)).1.valid.getLsbD 2 = true ∧
      (polOf pathDemo 0 9).mode = 1 ∧ (polOf pathDemo 0 9).c ≤ 0 ∧ (polOf pathDemo 0 9).e ≤ 0) ∧
    ((verdictAt 0 (vlanHdr 4095)).1.decision = 0 ∧ (verdictAt 0 (vlanHdr 4095)).1.valid = 3 ∧ scFits pathDemo 0 65534 = true) := by
  decide +kernel
/-- Those of a line port: untagged, unknown SCI, an SC that does not fit, and CONTROLLED frames with wrong bits, replayed, and taken, the
last for TRANSCRYPT too. -/
theorem wit_FramePathCompletes_line :
    ((verdictAt 32 (vlanHdr 0)).1.decision = 0 ∧ (parse true (vlanHdr 0)).tag = none) ∧
    ((verdictAt 32 (secHdr 0x2C 9 3)).1.decision = 0 ∧ (verdictAt 32 (secHdr 0x2C 9 3)).2 = false) ∧
    ((verdictAt 32 (secHdr 0x2C 9 2)).2 = true ∧ (verdictAt 32 (secHdr 0x2C 9 2)).1.sch = 65534 ∧ scFits pathDemo 32 65534 = false) ∧
    ((verdictAt 32 (secHdr 0x2C 9 1)).2 = true ∧ (verdictAt 32 (secHdr 0x2C 9 1)).1.sch = 65533 ∧ scFits pathDemo 32 65533 = true ∧
      (saAt pathDemo 65533 (0x2C % 4)).isSome = true) ∧
    (tagFine 32 (secHdr 0x20 9 1) = true ∧ nbit 0x20 3 ≠ (!(saDemo 65533 true .active).integrityOnly)) ∧
    ((replayCheck 65533 0 0 pathDemo).1 = none ∧ (replayCheck 65533 0 9 pathDemo).1 = some (131069, 9)) ∧
    ((verdictAt 40 (secHdr 0x2C 9 1)).2 = true ∧ (verdictAt 40 (secHdr 0x2C 9 1)).1.sch = 65532 ∧ scFits pathDemo 40 65532 = true ∧
      (replayCheck 65532 0 9 pathDemo).1 = some (131068, 9)) := by
  decide +kernel
theorem wit_FramePathCompletes_causes : (rxCause ⟨false, false, false, false⟩ 64 1518).isNone = true ∧
    (rxCause ⟨false, false, true, false⟩ 64 1518).isSome = true := by decide
/-- A frame of LP0 whose last byte is still to come. -/
def lineFrame : Frame := Frame.enter .dec .slice (some 32) 0 []
theorem wit_FramePathCompletes_lastByte :
    frameOf { pathDemo with flow := { pathDemo.flow with frames := [(7, some lineFrame)] } } 7 = some lineFrame ∧
    lineFrame.data = none ∧ lineFrame.stage ≠ .gone ∧ lineFrame.aborted = false ∧
    endBadtag 32 lineFrame (zb 60) = true ∧
    endBadtag 32 lineFrame (zb 12 ++ be 2 0x88E5 ++ [0x2C, 0, 0, 0, 0, 1] ++ zb 8 ++ zb 64) = false ∧
    endBadtag 32 lineFrame (zb 12 ++ be 2 0x88E5 ++ [0x2C, 3, 0, 0, 0, 1] ++ zb 8 ++ zb 64) = true := by decide +kernel
theorem wit_FramePathCompletes_cp : cpRuns field = true ∧ frameOf field 0 = none ∧
    (scOf pathDemo 65534).any (fun c => !c.rx && c.port == 32) = true ∧ fwRuns field = true ∧
    { field with tsu := { field.tsu with fifo := [.rx 64 0 0] } }.tsu.fifo = TsRec.rx 64 0 0 :: [] ∧
    ptpPdelay (zb 12 ++ be 2 0x88F7 ++ [2, 2] ++ zb 42) = true := by decide +kernel
theorem wit_ProfileSetAnswers : serving field = true ∧ lcBad field = false ∧
    (lcBad { field with boot := { field.boot with zeroized := true } } = true ∧
      serving { field with boot := { field.boot with zeroized := true } } = true) ∧
    (zeros (bts [0xFF, 0, 16, 0, 0, 0, 0, 0, 2, 0, 0, 0]) 1 1 = true ∧ u16 (bts [0xFF, 0, 16, 0, 0, 0, 0, 0, 2, 0, 0, 0]) 2 = 16 ∧
      zeros (bts [0xFF, 0, 16, 0, 0, 0, 0, 0, 2, 0, 0, 0]) 9 3 = true) := by decide +kernel
/-- `field` with a unit's record. -/
def withUnit (u : Nat) (x : SUnit) : State := { field with slices := { Slices.reset with units := [(u, x)] } }
theorem wit_SliceRestoreAnswers : (unitOf (withUnit 23 { SUnit.reset with st := .quarantined }) 23).st = .quarantined ∧
    zeros (bts [0x17, 0, 0, 0]) 1 3 = true ∧ u8 (bts [0x17, 0, 0, 0]) 0 ≤ 0x17 ∧ 0x17 < u8 (bts [0x18, 0, 0, 0]) 0 ∧
    (unitOf (withUnit 23 { SUnit.reset with st := .reset, restoring := true }) 23).restoring = true := by decide +kernel
theorem wit_ProfileAndSliceReads : serving field = true ∧ lcBad field = false ∧ (1 : Nat) < 2 := by decide +kernel
theorem wit_UnitsFollowTable : live field = true ∧ (unitOf field 23).st = .inService ∧ (unitOf field 23).frame = none ∧
    (unitOf (withUnit 0 { SUnit.reset with st := .reset }) 0).st = .reset ∧
    (live { withUnit 0 { SUnit.reset with st := .stopped } with slices := { Slices.reset with entropyFail := true } } = true) ∧
    field.tamper.latched.getLsbD 13 = false ∧ field.profile.gating ≠ 0 ∧ (unitOf field 7).gated = false ∧
    keepUngated field < ((groupUnits (7 / 8)).filter (fun v => (unitOf field v).st == .inService && !(unitOf field v).gated)).length ∧
    field.profile.preroll = true := by decide +kernel
/-- An encrypted frame waiting in the encrypt group's single FIFO, and a decrypted HEEL frame in D0. -/
def encFrame : Frame := { Frame.enter .enc .dist (some 0) 32 [] with txSch := some 65534, txSah := some 131071 }
def decFrame : Frame := { Frame.enter .dec .slice (some 32) 0 [] with
  data := some (zb 60), rxSch := some 65533, rxSah := some 131070, rxSlot := some (0, 0), unit := some 8, heel := true }
def sliceDemo : State :=
  { chanDemo with
    flow := { chanDemo.flow with frames := [(0, some encFrame), (1, some decFrame), (2, some { encFrame with stage := .order })] }
    slices := { Slices.reset with units := (List.range 24).map (fun u => (u, { SUnit.reset with seeded := true })), enc := { Group.reset 0 with singleQ := [0], order := [(32, [2])] } } }
theorem wit_SlicesAssignVerifyRelease :
    (live sliceDemo = true ∧ sliceDemo.slices.entropyFail = false ∧
      (groupOf (pairReserve 0 (holdSettle sliceDemo)) 0).singleQ.head? = some 0 ∧
      frameOf (pairReserve 0 (holdSettle sliceDemo)) 0 = some encFrame ∧
      frameFor (pairReserve 0 (holdSettle sliceDemo)) 0 encFrame = some 0) ∧
    (frameOf sliceDemo 1 = some decFrame ∧ (saOf sliceDemo 131070).isSome = true ∧
      (decFrame.rxSch.bind (scOf sliceDemo)).isSome = true ∧ kindGroup decFrame.kind = 1) ∧
    (tget [] (groupOf sliceDemo 0).order 32).head? = some 2 := by
  refine ⟨⟨by decide +kernel, by decide +kernel, by decide +kernel, ?_, by decide +kernel⟩, ⟨?_, by decide +kernel, by decide +kernel, by decide +kernel⟩, by decide +kernel⟩ <;> decide +kernel

/-- A lineage with a child at its last generation, a transport slot, and SAH 5 PRESENT. -/
def keyDemo : State :=
  { field with km := { Km.reset with
      lineages := [(10, some ⟨3, none, 1, false, false⟩), (11, some ⟨255, some 10, 2, false, false⟩)]
      sym := [(0x1000, some ⟨2, zb 32⟩), (0x1001, some ⟨1, zb 32⟩)], asym := [(63, some [])]
      keys := [(5, ⟨.present, 0⟩)]
      slots := [(0, { Slot.reset with st := .resident, sah := 131071 }), (16383, { Slot.reset with st := .draining })]
      mkNext := some ⟨zb 32, zb 32⟩
      ctxs := [(0, some ⟨1, 1, [], [], 0⟩), (1, some ⟨1, 1, [], [], 1⟩)]
      stg := { Staging.reset with busy := true, lineage := 10, target := 131070 } } }
/-- The same with no WRAP in progress. -/
def keyIdle : State := { keyDemo with km := { keyDemo.km with stg := .reset } }
/-- KEY_LOAD of SAH 131070 under lineage 10, TX allowed: a key of zeros sealed under a transport key of zeros. -/
def loadReq : Bytes := le 4 131070 ++ le 4 10 ++ bts [1, 2] ++ le 2 0x1000 ++ zb 12 ++ zb 8 ++
  be 48 0xa1e269065380637bb75d5783a8a263c66a04caa2b68c825feaa1d9bca739961096d813ae48640531ddfc068949e8446f ++
  be 16 0x3773c5be0835dfd6cdc93348ec7df251
def genReq : Bytes := le 4 131070 ++ le 4 10 ++ bts [1, 2] ++ zb 14
theorem wit_KeySourcesMakeBlobs :
    (live keyDemo = true ∧ keyDemo.km.stg.busy = true ∧ sourcesRefused keyDemo = false ∧ saSt keyDemo 131070 = .free ∧
      (lineageOf keyDemo 10).all (·.spent) = false ∧ (keyOf keyDemo 131070).st = .absent ∧ (keyOf keyDemo 5).st ≠ .absent) ∧
    (kmBad keyIdle = false ∧ keyArgs loadReq = true ∧ loadReq.length = 96 ∧ zeros loadReq 24 8 = true ∧
      wrapStatus (u32 loadReq 0) (u32 loadReq 4) (nbit (u8 loadReq 9) 0) (wrapCompleted keyIdle) = stOk ∧
      tget none keyIdle.km.sym (u16 loadReq 10) = some ⟨2, zb 32⟩ ∧
      sivOpen (zb 32) (sub loadReq 12 12) (loadReq.take 12) (sub loadReq 32 48) (sub loadReq 80 16) = some (zb 48)) ∧
    (keyArgs genReq = true ∧ genReq.length = 24 ∧ zeros genReq 10 14 = true ∧
      wrapStatus (u32 genReq 0) (u32 genReq 4) (nbit (u8 genReq 9) 0) (wrapCompleted keyIdle) = stOk) := by decide +kernel
theorem wit_LineageCommandsAnswer :
    (kmBad keyDemo = false ∧ sourcesRefused keyDemo = false ∧ lineageOf keyDemo 16777215 = none ∧
      keyDemo.km.lineages.length < 65536 ∧ (lineageOf keyDemo 11).any (fun l => decide (l.depth < 8)) = true) ∧
    TabWf none keyDemo.km.lineages ∧ (lineageOf keyDemo 10).isSome = true := by
  refine ⟨by decide +kernel, ⟨by decide, by decide, by decide, by decide, trivial⟩, by decide +kernel⟩
theorem wit_KeyCommandsComplete :
    kmBad keyDemo = false ∧ serving keyDemo = true ∧
    (131071 + 1 ≤ 131072 ∧ dmaRange 8 (96 * 1) = true) ∧
    (dmaRange 0 (2 * 2036) = true ∧ dmaRange 8 (96 * 2036) = true) ∧
    slotBy keyDemo 131071 = some 0 ∧ (slotOf keyDemo 0).orphan = false ∧ (slotOf keyDemo 0).st = .resident ∧
    (slotOf keyDemo 0).pinned = false ∧ pinnedCount keyDemo < 12288 ∧ dmaRange 8 1048656 = true ∧
    (field.km.lineages = [] ∧ field.km.keys.any (fun e => e.2.st != .absent) = false ∧ kmBad field = false) ∧
    keyDemo.km.mkNext = some ⟨zb 32, zb 32⟩ ∧
    pkeArgs (bts [1, 1, 1, 32, 0, 0, 0, 0, 1, 0, 0, 0, 0, 0, 0, 0] ++ zb 32) = true ∧
    pkeArgs (bts [2, 1, 1, 32, 0, 0, 0, 0x10, 1, 0, 0, 0, 0, 0, 0, 0] ++ zb 32 ++ zb 1665) = true ∧
    pkeArgs (bts [3, 1, 1, 16, 0, 0, 0xFF, 0x2F, 1, 0, 0, 0, 0, 0, 0, 0] ++ zb 32 ++ zb 1665) = true ∧
    tget none keyDemo.km.sym 0x2FFF = none ∧ tfree 0 keyDemo.km.ctxs < 256 ∧
    ((tget none keyDemo.km.ctxs 1).any (fun x => !reached keyDemo.tsu.ns x.expiry && x.purpose == 1 && x.mode == 1)) = true ∧
    tget none keyDemo.km.asym 63 ≠ none ∧ tget none keyDemo.km.sym 0x1000 ≠ none := by
  decide +kernel
/-- A miss waits for a slot on the host side; a fetch of SAH 5 is under way on the line side. -/
def fetchDemo : State :=
  { keyDemo with km := { keyDemo.km with
      misses := ⟨[⟨131071, none⟩], [⟨5, some 7⟩]⟩
      slots := [(7, { Slot.reset with st := .loading, sah := 5 }), (8, { Slot.reset with st := .draining, sah := 9 }),
        (9, { Slot.reset with st := .draining, sah := 10, ref := 1 })]
      clearing := true
      stg := { Staging.reset with loaded := true } } }
theorem wit_KennelAndStagingComplete :
    (live fetchDemo = true ∧ fetchDemo.km.muzzled = false ∧
      ((fetchDemo.km.misses.get 0).filter (·.slot.isSome)).length < 64 ∧
      (fetchDemo.km.misses.get 0).find? (·.slot.isNone) = some ⟨131071, none⟩ ∧ slotBy fetchDemo 131071 = none ∧
      (slotTake fetchDemo).1 = some 0) ∧
    ((fetchDemo.km.misses.get 1).find? (fun m => m.sah == 5) = some ⟨5, some 7⟩ ∧ (slotOf fetchDemo 7).st = .loading) ∧
    ((slotOf fetchDemo 8).st = .draining ∧ (slotOf fetchDemo 8).ref = 0) ∧
    ((slotOf fetchDemo 9).st = .draining ∧ (slotOf fetchDemo 9).ref ≠ 0 ∧
      reached 20000 ((slotOf fetchDemo 9).drain + 20000) = true) ∧
    fetchDemo.km.clearing = true ∧ cpRuns fetchDemo = true ∧
    ({ field with boot := { field.boot with lc := 1, agent := 1 } }.boot.lc ≤ 1 ∧
      cpRuns { field with boot := { field.boot with lc := 1, agent := 1 } } = true) ∧
    (cpRuns keyIdle = true ∧ keyIdle.km.stg.busy = false ∧ tget none keyIdle.km.sym 0x1001 = some ⟨1, zb 32⟩) ∧
    fetchDemo.km.stg.busy = false ∧ fetchDemo.km.stg.loaded = true ∧
    reached 1000000 (fetchDemo.km.stg.written + 1000000) = true ∧
    (tget none fetchDemo.km.ctxs 0).any (fun x => reached fetchDemo.tsu.ns x.expiry) = true := by decide +kernel

/-- An SA_INSTALL entry for SAH 131069: its channel, AN, FLAGS and NEXT_PN. -/
def installReq (sah sch an fl pn : Nat) : Bytes := le 4 sah ++ le 2 sch ++ le 1 an ++ le 1 fl ++ zb 8 ++ le 8 pn ++ zb 24
/-- The material of a key, and its blob for SAH 131069 under a KEK of zeros. -/
def installMat : Mat := { suite := 2, key := zb 32, salt := [], usage := 3, origin := 1, lineage := 10 }
def installBlob : Bytes := blobMake (fun _ _ => zb 32) 131069 0 3 false installMat
/-- `chanDemo` with a key for SAH 131069 under lineage 10, whose KEK of generation 3 is in the cache, its blob in memory, and an SA in a
state at SAH 0. -/
def installWith (blob : Bytes) (st : SaSt) : State :=
  { chanDemo with
    km := { Km.reset with
      lineages := [(10, some ⟨3, none, 1, false, false⟩)], keys := [(131069, ⟨.present, 0⟩)]
      kekCache := [(10, 3, Shares.split (zb 32) (zb 32))] }
    prot := { chanDemo.prot with mem := bufWrite [] (blobAddr 131069) blob }
    chan := { chanDemo.chan with sas := (0, some (saDemo 65535 false st)) :: chanDemo.chan.sas } }
def installDemo (st : SaSt) : State := installWith installBlob st
/-- The device behind the count of the fetch. -/
def installSeen (b : Bytes) : State := cntKm 0 (fun c => { c with fetch := c.fetch + 1 }) (installWith b .free)
theorem installWith_fetch (b : Bytes) (h : b.length = 96) (lost : Bool) (r : Except Nat Mat)
    (hr : blobCheck (kekOf (installSeen b)) 131069 (some (none, false)) false lost (zb 64) b (installSeen b) = r) :
    (cmdFetch 0 131069 (some (none, false)) lost (installWith b .free)).1 = r.mapError checkStatus := by
  have hb : blobAt (installWith b .free) 131069 = b := by
    have := bufRead_bufWrite [] (blobAddr 131069) b
    rwa [h] at this
  have hl : lineAt (installSeen b) (131069 / 32) = zb 64 := by
    have := bufRead_bufWrite_above [] (blobAddr 131069) (lineAddr (131069 / 32)) 64 b (by rw [h, blobAddr, lineAddr]; omega)
    rwa [bufRead_nil] at this
  rw [cmdFetch, hb]
  unfold installSeen at hl hr
  simp only [hl, hr]
  cases r <;> rfl
/-- The blob passes every check of a TX SA's fetch; one that memory loses does not. -/
theorem wit_SaCommandsComplete_fetch : (cmdFetch 0 131069 (some (none, false)) false (installDemo .free)).1 = .ok installMat ∧
    (cmdFetch 0 131069 (some (none, false)) true (installDemo .free)).1 = .error stIntegrity := by
  have h : installBlob.length = 96 := by decide +kernel
  refine ⟨installWith_fetch _ h false (.ok installMat) ?_, installWith_fetch _ h true (.error 1) rfl⟩
  have c : (match blobCheck (kekOf (installSeen installBlob)) 131069 (some (none, false)) false false (zb 64) installBlob
      (installSeen installBlob) with
      | .ok m => m == installMat
      | .error _ => false) = true := by decide +kernel
  split at c
  · rename_i e; rw [e, eq_of_beq c]
  · exact absurd c (by decide)
theorem wit_SaCommandsComplete_install :
    (lcBad (installDemo .free) = false ∧ (installDemo .free).pack.claims = [] ∧ (installDemo .free).pack.st ≠ .active ∧
      (installReq 131069 65534 1 4 1).length = 48 ∧ u64 (installReq 131069 65534 1 4 0) 16 = 0) ∧
    (scOf (installDemo .free) 1 = none ∧ (scOf (installDemo .free) 65534).any (fun c => !c.rx && c.suite == 2 && !c.group) = true ∧
      lastPn 2 < 2 ^ 32 ∧ saSt (installDemo .draining) 0 = .draining ∧ saSt (installDemo .free) 131071 = .installed ∧
      saArmed (installDemo .armed) 65535 ≠ none ∧ reached (5 : W64) (installDemo .free).tsu.ns = true ∧
      reached (BitVec.ofInt 64 (-1)) (installDemo .free).tsu.ns = false ∧ (keyOf (installDemo .free) 5).st = .absent) ∧
    (saSt (installDemo .free) 131069 = .free ∧ saAt (installDemo .free) 65534 1 = none ∧ saArmed (installDemo .free) 65534 = none ∧
      (keyOf (installDemo .free) 131069).st ≠ .absent) ∧
    (preload 0 131069 installMat (installDemo .free) (installDemo .free) (installDemo .free)).isSome = true := by
  refine ⟨by decide +kernel, by decide +kernel, by decide +kernel, by decide +kernel⟩
/-- SA_RETIRE of an SA in each state that its rule tells apart. -/
theorem wit_SaCommandsComplete_retire : (le 4 0 ++ [0] ++ zb 3 ++ le 8 7).length = 16 ∧
    (saSt (installDemo .free) 0 = .free ∧ (∀ st ∈ [SaSt.current, .exhausted, .installed, .draining, .retiring], saSt (installDemo st) 0 = st)) ∧
    (saOf (installDemo .installed) 0).any (fun a => !a.rx) = true ∧ u64 (le 4 0 ++ [0] ++ zb 3 ++ le 8 7) 8 ≠ 0 ∧
    (saOf (installDemo .free) 131070).any (·.rx) = true ∧ enlisted (installDemo .installed) 0 = false ∧
    enlisted { installDemo .installed with pack := { field.pack with epochs := [{
      par := ⟨8, 0, 0, 1000000, 15⟩, st := 1, decision := 0, decisionTod := 0, switchTod := 0, votes := 0, voted := 0, copied := false
      cause := 0, acks := 0, sentTod := 0, held := 0, entries := [(0, 1)], enlisted := true, received := false }] } } 0 = true ∧
    (reached (installDemo .free).tsu.ns 7 = false ∧ reached (installDemo .free).tsu.ns 0 = true) := by
  refine ⟨by decide, by decide +kernel, by decide +kernel, by decide, by decide +kernel, by decide +kernel, by decide +kernel, by decide +kernel⟩
theorem wit_KeyCommandsComplete_reads : dmaDenied keyDemo (dmaReads []) = none ∧ (dmaDenied keyDemo (dmaReads [(0x40060000, 4)])).isSome = true :=
  ⟨by decide +kernel, by decide +kernel⟩

/-- A frame in E0, in masking mode FRAME, with its PN and key slot. -/
def sealFrame : Frame :=
  { encFrame with data := some (zb 60), stage := .slice, unit := some 0, txSlot := some (0, 0), pn := 5, tci := 44, tagSci := some 1 }
def sealDemo : State := { sliceDemo with
  slices := { sliceDemo.slices with units := [(0, { SUnit.reset with maskFull := false })] }
  flow := { sliceDemo.flow with frames := [(0, some sealFrame)] } }
/-- A received frame: SecTAG, 44 bytes of secure data and an ICV. -/
def secData : Bytes := zb 12 ++ be 2 0x88E5 ++ bts [0x2C, 0] ++ be 4 5 ++ be 8 1 ++ zb 60
theorem wit_SlicesAssignVerifyRelease_bytes :
    (frameOf sealDemo 0 = some sealFrame ∧ (scOf sealDemo 65534).any (fun c => decide (c.option ≤ 3)) = true ∧
      (saOf sealDemo 131071).isSome = true ∧ (sealFrame.txSch.bind (scOf sealDemo)).isSome = true) ∧
    (headOf sealFrame = [] ∧ 12 ≤ (txPlain sealFrame).length ∧ sealFrame.stage ≠ .cut) ∧
    (rxOver secData = 32 ∧ secData.length = 88) := by
  refine ⟨by decide +kernel, ⟨rfl, by decide, by decide⟩, by decide +kernel⟩
/-- The mask words that its unit takes repeat none. -/
theorem wit_SlicesAssignVerifyRelease_masks : unitsRepeat sealFrame (unitsRun 0 sealFrame (slotOf sealDemo 0)
    (frameIv 2 1 0 5 (slotOf sealDemo 0).salt) 48 (sliceOctets sealFrame 48 sealDemo)).2 = false ∧
    secureLen sealFrame - clearPart (saDemo 65534 false .installed) (secureLen sealFrame) = 48 := by decide +kernel
theorem wit_UnitsFollowTable_reseed : (unitOf field 16).frame.isSome = false ∧ engineMid field 0 = false ∧
    (unitOf (withUnit 3 { SUnit.reset with frame := some 0 }) 3).frame.isSome = true := by decide +kernel

/-- A one-entry list, and port 8 with it running and pending. -/
def listOne : GateList := { base := 0, cycle := 1000, ext := 0, guardNs := 1000, entries := [(500, 1)] }
/-- HP0 UP with a queued clear frame and LP0 UP with an express frame at the head of its queue, both ready to send. -/
def clearFrame : Frame := { Frame.enter .clear .queued none 0 [] with data := some (zb 60), queue := some 0, tmCells := 1 }
def expFrame : Frame := { Frame.enter .clear .queued none 32 [] with data := some (zb 60), queue := some 0, tmCells := 1, slot := some 0 }
def tmDemo : State :=
  { pathDemo with
    ports := [(0, { hostPort with cfg := { hostPort.cfg with flow := 1 } }), (32, linePort)]
    flow := { pathDemo.flow with frames := [(0, some clearFrame), (1, some expFrame),
      (2, some { clearFrame with stage := .arrive, queue := none }),
      (3, some { clearFrame with stage := .arrive, queue := none, egress := 64 - 1 })] }
    tm := ⟨{ Tm.reset with queues := [(0, { Queue.reset with frames := [0], cells := 1 })]
                                   , ports := [(0, { TmPort.reset 0 with pauseDue := true })] },
           { Tm.reset with queues := [(0, { Queue.reset with frames := [1], cells := 1 })]
                                   , ports := [(0, { TmPort.reset 1 with xoff := true, halted := 1 })] }⟩
    gates := [(8, { Gate.reset with st := 3, oper := some listOne, pend := some listOne })] }
/-- The same, HP0 with no pause frame due; and sending frame 0. -/
def tmReady : State := { tmDemo with tm := ⟨{ tmDemo.tm.host with ports := [] }, { tmDemo.tm.line with ports := [] }⟩ }
def tmSending : State :=
  { tmReady with tm := ⟨{ tmReady.tm.host with ports := [(0, { TmPort.reset 0 with sending := some 0 })] }, tmReady.tm.line⟩ }

theorem wit_TmAndGateCommandsComplete : lcBad field = false ∧ serving field = true ∧
    tmPortValid field (bts [63, 0, 0xC0, 7, 64, 0, 16, 0, 16, 0, 32, 0, 100, 0, 64, 0, 1, 2, 4, 8, 16, 32, 64, 128] ++ zb 8) = true ∧
    (u16 (bts [63, 0, 0xC0, 7, 64, 0]) 2, u16 (bts [63, 0, 0xC0, 7, 64, 0]) 4) = rangeOf (tmOf field 1) 1 31 ∧
    (tmPort field 63).halted = 0 ∧ 31 < shaperCount 2 ∧ 2047 < shaperCount 0 ∧
    (gateTc 0 (BitVec.ofNat 64 1000) 1000 1000).2 = 0 ∧ 0 < (gateTc 0 (BitVec.ofNat 64 999) 1000 1000).2 ∧
    (gateOf tmDemo 8).oper = some listOne ∧ (gateOf tmDemo 8).pend = some listOne ∧ listOne.entries.length ≤ 506 := by
  decide +kernel
theorem wit_ShapersRefillAndCommit : live field = true ∧ lcBad field = false ∧ serving field = true ∧
    255 < shaperCount 1 := by decide
theorem wit_PolicersRefill : live field = true ∧ (polOf { field with pol := ⟨[], [(8191, { Policer.reset with mode := 1 })]⟩ } 1 8191).mode = 1 := by
  decide +kernel
theorem wit_TmFramesFlow :
    (frameOf tmReady 3 ≠ none ∧ canSend tmReady 63 = false) ∧
    (canSend tmReady 0 = true ∧ admits tmReady 0 0 0 1 = true ∧ boundQueue tmReady { clearFrame with stage := .arrive, queue := none } false = none ∧
      (admits { tmReady with tm := ⟨{ Tm.reset with queues := [(0, { Queue.reset with limit := 1, cells := 1 })] }, tmReady.tm.line⟩ } 0 0 0 1 = false)) ∧
    ((tmPort tmReady 0).sending = none ∧ (tmPort tmReady 0).pauseDue = false ∧
      (pick ((rangeQueues (tmOf (gateDrops 0 tmReady) 0) (rangeOf (tmOf (gateDrops 0 tmReady) 0) 0 0)).filter (fun e => ahead (gateDrops 0 tmReady) 0 e.1 e.2))).isNone = true ∧
      (pick ((rangeQueues (tmOf (gateDrops 0 tmReady) 0) (rangeOf (tmOf (gateDrops 0 tmReady) 0) 0 0)).filter (fun e => eligible (gateDrops 0 tmReady) 0 e.1 e.2))).isSome = true) ∧
    ((tmPort tmSending 0).sending = some 0 ∧ (frameOf (ptpDecide 0 tmSending) 0).isSome = true ∧ (outBytes clearFrame).isSome = true) ∧
    (queueOf tmReady 1 2047).frames = [] := by
  refine ⟨by decide +kernel, ⟨by decide +kernel, by decide +kernel, by decide +kernel, by decide +kernel⟩, ?_, by decide +kernel, by decide +kernel⟩
  refine ⟨by decide +kernel, by decide +kernel, by decide +kernel, by decide +kernel⟩
theorem wit_PauseExpressAndGates :
    live tmDemo = true ∧
    ((tmPort tmDemo 32).xoff = true ∧ (tmPort tmDemo 32).stuck = false ∧ reached 10000000 ((tmPort tmDemo 32).xoffSince + 10000000) = true) ∧
    ((tmPort tmDemo 0).pauseDue = true ∧ (tmPort tmDemo 0).sending = none ∧ canSend tmDemo 0 = true ∧ (port tmDemo 0).cfg.flow ≠ 0) ∧
    pauseWant tmDemo 0 ≠ 0 ∧
    (nbit (tmPort tmDemo 32).halted 0 = true ∧ reached tmDemo.tsu.ns (tget 0 (tmPort tmDemo 32).haltEnd 0) = true) ∧
    (frameOf tmDemo 1 = some expFrame ∧ expFrame.slot = some 0 ∧ expFrame.left = false ∧ (0 : Int) ≤ todNow tmDemo + 40 * 4294967296) ∧
    (frameOf tmReady 1 = some expFrame ∧ isHead tmReady 1 expFrame = true ∧ haltMask tmReady (tmPort tmReady 32) = 0 ∧ canSend tmReady 32 = true ∧
      haltMask tmDemo (tmPort tmDemo 32) ≠ 0 ∧ (0 : Int) ≤ todNow tmReady ∧ (port tmReady 32).preemptOn = false ∧
      (tmPort tmReady 32).sending = none ∧
      ¬ (tmPort tmReady 32).expMax < (wholeLen expFrame).getD (expFrame.hdr.length + macsecLen expFrame + 4)) ∧
    ((gateOf tmDemo 8).st = 3 ∧ (gateOf tmDemo 8).pend = some listOne ∧ reached tmDemo.tsu.ns (gateOf tmDemo 8).tc = true) ∧
    (reached 1000 ((gateOf tmDemo 8).cycleTod + BitVec.ofNat 64 (listOne.parts.getD 1 (1000, 0, 0)).1) = true) := by
  refine ⟨by decide +kernel, by decide +kernel, by decide +kernel, by decide +kernel, by decide +kernel, ⟨?_, by decide +kernel⟩, ⟨?_, by decide +kernel⟩, by decide +kernel, by decide +kernel⟩ <;> decide +kernel
/-- TM_QUEUE_SET of queue 0 of the host side: TC, weight and limit; and of the queue that holds a frame. -/
def queueReq (tc w limit : Nat) : Bytes := le 1 0 ++ le 1 tc ++ zb 2 ++ le 1 w ++ zb 3 ++ le 4 limit ++ zb 4
theorem wit_ShapersRefillAndCommit_queue : (queueReq 1 255 98304).length = 16 ∧ u8 (queueReq 8 1 1) 1 = 8 ∧ u8 (queueReq 0 0 1) 4 = 0 ∧
    (u32 (queueReq 0 1 98304) 8 = 98304 ∧ 98304 < u32 (queueReq 0 1 98305) 8 ∧ u32 (queueReq 0 1 0) 8 < 1) ∧
    (queueTc 0 (queueOf tmDemo 0 0) = 0 ∧ (queueOf tmDemo 0 0).frames ≠ [] ∧ (queueOf field 0 0).frames = []) := by decide +kernel
/-- POL_SET of policer 8,191 of the host side: mode, ADJUST, rates and sizes. -/
def polReq (mode adjust cir pir cbs : Nat) : Bytes :=
  zb 2 ++ le 2 8191 ++ le 1 mode ++ [0] ++ le 1 adjust ++ [0] ++ le 4 cir ++ le 4 pir ++ le 4 cbs ++ le 4 16777215 ++ zb 8
theorem wit_PolicersRefill_set : (polReq 1 127 9 0 16777215).length = 32 ∧ u8 (polReq 1 192 9 0 0) 6 = 192 ∧ (192 : Int) - 256 = -64 ∧
    (u32 (polReq 1 0 9 0 16777215) 16 = 16777215 ∧ 16777215 < u32 (polReq 1 0 9 0 16777216) 16) ∧ u32 (polReq 2 0 9 9 0) 12 = u32 (polReq 2 0 9 9 0) 8 ∧
    u32 (polReq 2 0 9 8 0) 12 < u32 (polReq 2 0 9 8 0) 8 ∧ u32 (polReq 1 0 9 1 0) 12 ≠ 0 := by decide +kernel

/-- The device with its time-sync unit changed. -/
def withTsu (f : Tsu → Tsu) : State := { field with tsu := f field.tsu }
/-- A TOD_SET that waits for the PPS_IN edge. -/
def armedSet : Armed := ⟨true, 5000000000, 0, true, 0⟩
/-- The command of mailbox 0 that waits for it. -/
def ppsCmd : Cmd := { cmd 0x0601 [] with wait := .pps }

theorem wit_TimeCommandsComplete : lcBad field = false ∧ servoHolds field = false ∧ field.tsu.external = false ∧
    (withTsu (fun t => { t with servo := 4 })).tsu.servo ≠ 0 ∧
    (-32768000000 : Int) ≤ -32768000000 ∧ (500000000 : Int).natAbs ≤ 500000000 ∧ (-100000 : Int).natAbs ≤ 100000 ∧
    (24 ≤ 43 ∧ 43 ≤ 43 ∧ 43 ≤ 127) ∧ field.tsu.stepLimit < (1001 : Int).natAbs ∧ (1000 : Int).natAbs ≤ field.tsu.stepLimit := by
  decide +kernel
theorem wit_TodChangesByRule : cpRuns field = true ∧ field.tsu.armed = none ∧ live field = true ∧ 1024 ≤ field.tsu.inc ∧
    field.tsu.slew = 0 ∧ (withTsu (fun t => { t with slew := -4294967296 })).tsu.slew ≠ 0 := by decide +kernel
theorem wit_ServoAndPpsFollow : fwRuns (withTsu (fun t => { t with source := 1, servo := 1 })) = true ∧
    (withTsu (fun t => { t with source := 1, servo := 1 })).tsu.external = false ∧
    (masterSilent 11 Config.announceReceiptTimeout (withTsu (fun t => { t with source := 1, servo := 1 })) = true ∧
      masterSilent 0 3 (withTsu (fun t => { t with source := 1, servo := 1 })) = true ∧
      (withTsu (fun t => { t with source := 2, servo := 1 })).tsu.ppsOk = false ∧
      (withTsu (fun t => { t with source := 1, servo := 1 })).tsu.masterTod ≠ some field.tsu.ns) ∧
    (reached 46875000 ((withTsu (fun t => { t with ns := 46875000, source := 3, servo := 2 })).pack.syncAccepted + 46875000) = true) ∧
    reached (withTsu (fun t => { t with ns := 14400000000000, servo := 3 })).tsu.ns (0 + BitVec.ofNat 64 (14400 * 1000000000)) = true ∧
    (live field = true ∧ field.tsu.armed = none ∧ field.tsu.fifo.length < 4096 ∧ field.hif.cmds = [] ∧
      (withTsu (fun t => { t with armed := some armedSet })).tsu.armed = some armedSet) ∧
    (reached (withTsu (fun t => { t with ns := 1500000007, ppsOk := true, ppsInLast := some 7 })).tsu.ns (7 + 1500000000) = true) ∧
    (armedSet.command = true ∧ reached field.tsu.ns armedSet.deadline = true ∧ ppsCmd.wait = .pps ∧
      ({ field with hif := { field.hif with cmds := [ppsCmd] } } : State).hif.cmds = [ppsCmd]) ∧
    (field.pending = [] ∧ field.tsu.slew = 0 ∧ field.tsu.ppsDue = none ∧
      (withTsu (fun t => { t with ppsDue := some 500000000, ppsOut := true })).tsu.ppsDue = some 500000000 ∧
      (tick (withTsu (fun t => { t with ns := 1499999999, ppsOut := true, ppsOffset := 500000000 }))).tsu.ppsDue = some 1500000000) ∧
    reached (500 : W64) (400 + BitVec.ofNat 64 100) = true ∧ field.tsu.refGood = 0 ∧ field.tsu.ref10m = false := by
  decide +kernel

/-- GP0 UP, and a member of a pack of members 0 to 3, all heard; the lead is given. -/
def packPeer : Peer := { Peer.reset with configured := true, heard := true, eligible := true }
def packDemo (me lead : Nat) : State :=
  { field with
    ports := [(64, { Port.reset with st := .up, cfg := { PortCfg.reset with role := 4, lane := 8, fec := 2 } })]
    pack := { field.pack with
      st := .active, packId := 5, me := me, lead := some lead, eligible := true, key := some (zb 32), keyNumber := 1, sendNow := 1
      peers := ([0, 1, 2, 3].filter (· != me)).map (fun m => (m, packPeer)) } }
/-- A header with the ICV of a body of a type under a key. -/
def withIcv (key : Bytes) (typ : Nat) (body : Bytes) (h : PackHeader) : PackHeader :=
  { h with icv := (gcmSeal key (packIv h.source h.sequence)
      (packHead h.version typ body.length h.packId h.source h.dest h.sequence h.keyNumber) body).2 }
/-- A message whose ICV is that verifies. -/
theorem icv_opens (key : Bytes) (typ : Nat) (body : Bytes) (h : PackHeader) (e : h.icv = (gcmSeal key (packIv h.source h.sequence)
    (packHead h.version typ body.length h.packId h.source h.dest h.sequence h.keyNumber) body).2) : gwlOpens key typ body h = true := by
  rw [gwlOpens]
  exact beq_iff_eq.2 e
theorem withIcv_opens (key : Bytes) (typ : Nat) (body : Bytes) (h : PackHeader) :
    gwlOpens key typ body (withIcv key typ body h) = true := icv_opens _ _ _ _ rfl
/-- The header of a message to this member, its ICV that of a body of a type under the pack key. -/
def packMsg (source typ : Nat) (body : Bytes) : PackHeader :=
  withIcv (zb 32) typ body
    { etherType := 0x88B5, version := 1, packId := 5, source := source, dest := 0xFFFF, sequence := 1, keyNumber := 1, icv := [] }
/-- A state that takes messages from a member: it hears, is in the pack and holds the key of zeros under number 1. -/
def Hears (source : Nat) (s : State) : Prop :=
  gwlHears (packMsg source 0 []) s = true ∧ gwlForeign false (packMsg source 0 []) s = false ∧ s.pack.keyNumber = 1 ∧
    s.pack.key = some (zb 32) ∧ tget 0 s.pack.rxSeq (512 + source) < 1 ∧ fwRuns s = true
/-- Every protected message of that member is accepted there. -/
theorem takes (i : Instr) (source typ : Nat) (body : Bytes) (s : State) (h : Hears source s)
    (hi : protectedMessage i = some (packMsg source typ body, typ, body)) : PackTaken i (packMsg source typ body) s := by
  obtain ⟨h1, h2, h3, h4, h5, h6⟩ := h
  refine ⟨typ, body, hi, ?_, ?_, ?_, by simpa [packMsg, withIcv] using h5, h6⟩
  · simpa [gwlHears, gwlMine, packMsg, withIcv] using h1
  · simpa [gwlForeign, packMsg, withIcv] using h2
  have hk : gwlKey false (packMsg source typ body) s = some (zb 32) := by simp [gwlKey, packMsg, withIcv, h3, h4]
  rw [gwlAuthentic, hk]
  exact withIcv_opens _ _ _ _
/-- An epoch with participants 0 to 3, in a state. -/
def epochDemo (st : Nat) : Epoch :=
  { par := ⟨8, 3600000000000, 3590000000000, 2000000000, 15⟩, st := st, decision := 0, decisionTod := 0, switchTod := 0, votes := 0, voted := 0,
    copied := false, cause := 0, acks := 0, sentTod := 0, held := 0, entries := [], enlisted := false, received := false }
/-- A member of a pack with such an epoch. -/
def epochAt (me lead st : Nat) : State :=
  { packDemo me lead with pack := { (packDemo me lead).pack with epochs := [epochDemo st] } }
/-- The device `s` at a TOD. -/
def atTod (n : W64) (s : State) : State := { s with tsu := { s.tsu with ns := n } }
/-- A policy that accepts one image digest; a fragment; a claim's entry. -/
def fragDemo (k : Nat) : Fragment := { request := true, exchange := 1, index := 0, count := k, total := 4, data := zb 4 }
def sciClaim (owner : Nat) : DirEntry := ⟨1, owner, 0, 99, 4, 0⟩
/-- The command of mailbox 0 in a wait. -/
def waiting (op : Nat) (w : Wait) : Cmd := { cmd op [] with wait := w }

theorem wit_PackCommandsComplete : lcBad field = false ∧ serving (packDemo 1 0) = true ∧
    (gp0Up (packDemo 0 0) = true ∧ field.pack.st = .none ∧ certOf field 0 = none ∧ field.boot.ownerKey.length ≤ 4096) ∧
    (inPack (packDemo 1 0) = true ∧ (packDemo 1 0).chan.scs.any (fun e => e.2.any (fun x => x.group)) = false ∧
      (packDemo 1 0).pack.epochs.any (fun e => e.st == 1 || e.st == 4) = false) ∧
    (leads (packDemo 0 0) = true ∧ (peerOf (packDemo 0 0) 2).configured = true) ∧
    dmaRange 0 (24 * 699050) = true ∧
    (reached (BitVec.ofNat 64 10000005) (BitVec.ofNat 64 5 + 10000000) = true ∧ reached (packDemo 0 0).tsu.ns (BitVec.ofNat 64 5) = false ∧
      epochsOpen (packDemo 0 0) = [] ∧ (packDemo 0 0).pack.lastEpoch < 1 ∧ (packDemo 0 0).pack.txSeq + 1024 < 2 ^ 64 ∧
      (∀ m, m < 512 → nbit 15 m = true →
        m = (packDemo 0 0).pack.me ∨ (peerOf (packDemo 0 0) m).configured = true ∧ (peerOf (packDemo 0 0) m).heard = true)) ∧
    ((epochAt 1 0 0).pack.st = .active ∧ (epochAt 1 0 0).pack.lead = some 0 ∧ epochOf (epochAt 1 0 0) 8 = some (epochDemo 0) ∧
      reached (epochAt 1 0 0).tsu.ns (epochDemo 0).par.tp = false) ∧
    (deputy (epochAt 0 0 1) = some 1 ∧
      deputy { epochAt 0 0 1 with pack := { (epochAt 0 0 1).pack with peers := [] } } = none) := by
  refine ⟨by decide, by decide, ?_, ?_, ?_, by decide +kernel, ?_, ?_, ?_⟩ <;> decide +kernel
theorem wit_packHears : Hears 0 (packDemo 1 0) ∧ Hears 2 (packDemo 0 0) ∧ Hears 0 (epochAt 1 0 1) ∧ Hears 2 (epochAt 0 0 1) := by
  refine ⟨⟨?_, ?_, ?_, ?_, ?_, ?_⟩, ⟨?_, ?_, ?_, ?_, ?_, ?_⟩, ⟨?_, ?_, ?_, ?_, ?_, ?_⟩, ?_, ?_, ?_, ?_, ?_, ?_⟩ <;> decide +kernel
theorem wit_PackMessagesChecked : protectedMessage (.leave (packMsg 0 5 [])) = some (packMsg 0 5 [], 5, []) ∧
    gwlLive field = false ∧ gwlLive (packDemo 1 0) = true ∧ gwlMine (packMsg 0 5 []) (packDemo 1 0) = true ∧
    gwlMine { packMsg 0 5 [] with dest := 2 } (packDemo 1 0) = false ∧
    inPack { packDemo 1 0 with pack := { (packDemo 1 0).pack with st := .joining } } = false ∧
    gwlForeign false (packMsg 0 5 []) (packDemo 1 0) = false ∧
    gwlAuthentic true 5 [] { packMsg 0 5 [] with keyNumber := 2 } (packDemo 1 0) = false ∧
    gwlAuthentic false 5 [] (packMsg 0 5 []) (packDemo 1 0) = true ∧
    (packMsg 0 5 []).sequence ≤ tget 0 { packDemo 1 0 with pack := { (packDemo 1 0).pack with rxSeq := [(512, 7)] } }.pack.rxSeq 512 := by
  refine ⟨rfl, by decide +kernel, by decide +kernel, by decide +kernel, by decide +kernel, by decide +kernel, by decide +kernel,
    by decide +kernel, ?_, by decide +kernel⟩
  obtain ⟨_, _, e, _, _, h, _⟩ := takes (.leave (packMsg 0 5 [])) 0 5 [] (packDemo 1 0) wit_packHears.1 rfl
  cases e
  exact h
/-- A member 2 that was LOST when the pack key changed, at the lead: it still uses the key of ones under number 7. -/
def lackDemo : State :=
  { packDemo 0 0 with pack := { (packDemo 0 0).pack with peers := [(1, packPeer), (2, { packPeer with heard := false, lacks := some (7, zb 31) })] } }
/-- Its HELLO. -/
def lackHello : PackHeader :=
  withIcv (zb 31) 1 (helloBody false true 0 0 0) { packMsg 2 1 [] with keyNumber := 7 }
theorem wit_PackMembership_lacks : gwlHears lackHello lackDemo = true ∧ gwlForeign false lackHello lackDemo = false ∧
    gwlAuthentic true 0x01 (helloBody false true 0 0 0) lackHello lackDemo = true ∧
    tget 0 lackDemo.pack.rxSeq (512 * lackHello.keyNumber + lackHello.source) < lackHello.sequence ∧ fwRuns lackDemo = true ∧
    leads lackDemo = true ∧ confCount lackDemo < 2 * heardCount lackDemo ∧ lackHello.source ≠ lackDemo.pack.me ∧
    lackHello.keyNumber ≠ lackDemo.pack.keyNumber ∧ (peerOf lackDemo 2).configured = true ∧
    (peerOf lackDemo 2).lacks = some (7, zb 31) ∧ canSend lackDemo 64 = true ∧ lackDemo.pack.copies = [] ∧
    tget 1 lackDemo.pack.oldSeq 7 < 2 ^ 64 - 1 ∧ lackDemo.pack.txSeq + 1100 * lackDemo.pack.epochs.length + 1 < 2 ^ 64 := by
  have hk : gwlKey true lackHello lackDemo = some (zb 31) := by decide +kernel
  refine ⟨by decide +kernel, by decide +kernel, ?_, by decide +kernel, by decide +kernel, by decide +kernel, by decide +kernel, by decide +kernel,
    by decide +kernel, by decide +kernel, by decide +kernel, by decide +kernel, rfl, by decide +kernel, by decide +kernel⟩
  rw [gwlAuthentic, hk]
  exact withIcv_opens _ _ _ _
theorem wit_PackMembership_messages :
    (PackTaken (.hello (packMsg 0 1 (helloBody true true 0 0 15)) true true 0 0 15) (packMsg 0 1 (helloBody true true 0 0 15)) (packDemo 1 0) ∧
      (packDemo 1 0).pack.view = 0 ∧ (packDemo 1 0).pack.claims = [] ∧ (packDemo 1 0).pack.copies = [] ∧
      (packDemo 1 0).pack.gone = [] ∧ (packDemo 1 0).pack.oldSeq = [] ∧ (peerOf (packDemo 1 0) 0).configured = true) ∧
    PackTaken (.leave (packMsg 2 5 [])) (packMsg 2 5 []) (packDemo 0 0) ∧
    (PackTaken (.keyRotate (packMsg 0 6 (rotateBody 2 1 [])) 2 1 []) (packMsg 0 6 (rotateBody 2 1 [])) (packDemo 1 0) ∧
      PackTaken (.keyRotate (packMsg 0 6 (rotateBody 2 0 (zb 48))) 2 0 (zb 48)) (packMsg 0 6 (rotateBody 2 0 (zb 48))) (packDemo 1 0) ∧
      (packDemo 1 0).pack.lead = some 0) :=
  ⟨⟨takes _ 0 1 _ _ wit_packHears.1 rfl, rfl, rfl, rfl, rfl, rfl, rfl⟩, takes _ 2 5 _ _ wit_packHears.2.1 rfl,
    takes _ 0 6 _ _ wit_packHears.1 rfl, takes _ 0 6 _ _ wit_packHears.1 rfl, rfl⟩
/-- A message that is complete and waits for the firmware. -/
def readyAt (s : State) : State := { s with pack := { s.pack with ready := [(9, 1, zb 40)] } }
theorem wit_PackMembership : (packDemo 1 0).pack.epochs = [] ∧
    fwRuns (packDemo 1 0) = true ∧ inPack (packDemo 1 0) = true ∧ canSend (packDemo 1 0) 64 = true ∧
    reached (atTod 1000000 (packDemo 1 0)).tsu.ns ((packDemo 1 0).pack.helloTod + 1000000) = true ∧
    ((peerOf (packDemo 1 0) 0).configured = true ∧ (peerOf (packDemo 1 0) 0).heard = true ∧ (packDemo 1 0).pack.owed = [] ∧ (packDemo 1 0).pack.gone = [] ∧
      silent 0 (atTod 10000000 (packDemo 1 0)) = true) ∧
    reached (60000000000 : W64) (0 + BitVec.ofNat 64 ((packDemo 1 0).pack.dirHold * 1000000000)) = true ∧
    (gwlHears (packMsg 2 2 []) (packDemo 0 0) = true ∧ gwlForeign true (packMsg 2 2 []) (packDemo 0 0) = false ∧
      leads (packDemo 0 0) = true ∧ (packDemo 0 0).pack.reasm = [] ∧
      (fragDemo 64).index < (fragDemo 64).count ∧ (fragDemo 64).count ≤ 64 ∧ (fragDemo 1).total = (fragDemo 1).data.length) ∧
    ((readyAt (packDemo 0 0)).pack.ready.find? (fun r => r.1 == 9 && r.2.1 == 1) = some (9, 1, zb 40) ∧
      ((packDemo 0 0).pack.key.getD []).length = 32) ∧
    (gwlForeign true (packMsg 2 2 []) { packDemo 0 0 with pack := { (packDemo 0 0).pack with st := .joining } } = false ∧
      reached (1000000000 : W64) ((packDemo 0 0).pack.joinTod + 1000000000) = true) := by
  refine ⟨rfl, by decide +kernel, by decide +kernel, by decide +kernel, by decide +kernel, ?_, by decide +kernel, ?_, ?_, ?_⟩ <;> decide +kernel
theorem wit_PackTimeAndDirectory : leads (packDemo 0 0) = true ∧ canSend (packDemo 0 0) 64 = true ∧
    reached (15625000 : W64) ((packDemo 0 0).pack.syncTod + 15625000) = true ∧
    followsPack { packDemo 1 0 with tsu := { (packDemo 1 0).tsu with source := 3 } } = true ∧
    (dirOwned (packDemo 0 0) (sciClaim 2) = false ∧ dirTaken (packDemo 0 0) (sciClaim 2) = false ∧
      dirFull (packDemo 0 0) (sciClaim 2).typ = false ∧ deputy (packDemo 0 0) = some 1) ∧
    (dirOwned { packDemo 0 0 with pack := { (packDemo 0 0).pack with dir := [sciClaim 2] } } (sciClaim 2) = true ∧
      dirTaken { packDemo 0 0 with pack := { (packDemo 0 0).pack with dir := [sciClaim 3] } } (sciClaim 2) = true) ∧
    ((sciClaim 1).owner = (packDemo 1 0).pack.me ∧ (waiting 0x0300 (.claim [] [] [])).opcode = 0x0300 ∧
      ∃ es l bad, (waiting 0x0300 (.claim [] [] [])).wait = .claim es l bad) := by
  refine ⟨by decide +kernel, by decide +kernel, by decide +kernel, by decide +kernel, ?_, ?_, by decide +kernel, rfl, [], [], [], rfl⟩ <;> decide +kernel
/-- A follower that has had a SYNC of sequence 3 and sent a DELAY_REQ of sequence 4; its path delay is known, or is not. -/
def timeDemo (path : Option Int) : State :=
  { packDemo 1 0 with
    pack := { (packDemo 1 0).pack with syncRx := some ((5, 0), 3), delayTx := some ((6, 0), 4), syncDelta := some 7, packDelay := path }
    tsu := { (packDemo 1 0).tsu with source := 3 } }
theorem wit_timeHears (path : Option Int) : Hears 0 (timeDemo path) := by
  refine ⟨rfl, rfl, rfl, rfl, ?_, rfl⟩
  exact Nat.zero_lt_one
theorem wit_PackTimeAndDirectory_messages :
    PackTaken (.sync (packMsg 0 0x10 [])) (packMsg 0 0x10 []) (packDemo 1 0) ∧
    (∀ path n, PackTaken (.followUp (packMsg 0 0x11 (be 8 n ++ timeWire (0, 0))) n 0 0) (packMsg 0 0x11 (be 8 n ++ timeWire (0, 0))) (timeDemo path) ∧
      PackTaken (.delayResp (packMsg 0 0x13 (be 8 n ++ timeWire (0, 0))) n 0 0) (packMsg 0 0x13 (be 8 n ++ timeWire (0, 0))) (timeDemo path)) ∧
    (followsPack (timeDemo (some 1)) = true ∧ (timeDemo none).pack.packDelay = none ∧ (timeDemo none).pack.syncDelta = some 7) ∧
    PackTaken (.delayReq (packMsg 2 0x12 [])) (packMsg 2 0x12 []) (packDemo 0 0) ∧
    PackTaken (.dirClaim (packMsg 2 0x20 (dirWire (sciClaim 2))) (sciClaim 2)) (packMsg 2 0x20 (dirWire (sciClaim 2))) (packDemo 0 0) ∧
    PackTaken (.dirRelease (packMsg 2 0x24 (dirWire (sciClaim 2))) (sciClaim 2)) (packMsg 2 0x24 (dirWire (sciClaim 2)))
      { packDemo 0 0 with pack := { (packDemo 0 0).pack with dir := [sciClaim 2] } } ∧
    PackTaken (.dirUpdate (packMsg 0 0x23 (dirWire (sciClaim 2) ++ bit8 true ++ be 4 1)) (sciClaim 2) true 1)
      (packMsg 0 0x23 (dirWire (sciClaim 2) ++ bit8 true ++ be 4 1)) (packDemo 1 0) ∧
    PackTaken (.dirDeny (packMsg 0 0x22 (dirWire (sciClaim 1))) (sciClaim 1)) (packMsg 0 0x22 (dirWire (sciClaim 1))) (packDemo 1 0) ∧
    PackTaken (.dirGrant (packMsg 0 0x21 (dirWire (sciClaim 1) ++ be 4 1)) (sciClaim 1) 1) (packMsg 0 0x21 (dirWire (sciClaim 1) ++ be 4 1))
      (packDemo 1 0) :=
  ⟨takes _ 0 _ _ _ wit_packHears.1 rfl, fun path _ => ⟨takes _ 0 _ _ _ (wit_timeHears path) rfl, takes _ 0 _ _ _ (wit_timeHears path) rfl⟩,
    by decide +kernel, takes _ 2 _ _ _ wit_packHears.2.1 rfl, takes _ 2 _ _ _ wit_packHears.2.1 rfl,
    takes _ 2 _ _ _ wit_packHears.2.1 rfl, takes _ 0 _ _ _ wit_packHears.1 rfl, takes _ 0 _ _ _ wit_packHears.1 rfl,
    takes _ 0 _ _ _ wit_packHears.1 rfl⟩
theorem wit_EpochsFollowTable : epochOf (packDemo 1 0) 8 = none ∧ epochOf (epochAt 0 0 1) 8 = some (epochDemo 1) ∧
    (nbit (epochDemo 1).par.members 2 = true ∧ nbit (epochDemo 1).voted 2 = false ∧ nbit (epochDemo 1).votes 2 = false ∧
      (epochDemo 1).received = false ∧ (epochDemo 1).entries = []) ∧
    (epochMembers { (epochDemo 1) with par := { (epochDemo 1).par with members := 4 } } = [2]) ∧
    (reached (atTod 3599999000000 (epochAt 1 0 1)).tsu.ns (epochDoubt (epochDemo 1)) = true ∧
      reached (atTod 3599999000000 (epochAt 1 0 1)).tsu.ns (epochEnd (epochDemo 1)) = false ∧
      reached (atTod 3590000000000 (epochAt 1 0 1)).tsu.ns (epochDemo 1).par.tp = true ∧
      reached (atTod 3600000000000 (epochAt 1 0 1)).tsu.ns (epochDemo 1).par.ts = true ∧
      reached (atTod 3602000000000 (epochAt 1 0 1)).tsu.ns (epochEnd (epochDemo 1)) = true) ∧
    (waiting 0x0711 (.vote 8)).wait = .vote 8 ∧ leads (epochAt 0 0 1) = true ∧ fwRuns (epochAt 0 0 1) = true := by
  refine ⟨by decide +kernel, by decide +kernel, by decide +kernel, by decide +kernel, ?_, by decide +kernel, by decide +kernel, by decide +kernel⟩ <;> decide +kernel
theorem wit_EpochsFollowTable_messages :
    PackTaken (.epochPrep (packMsg 0 0x30 (prepBody (epochDemo 0).par)) (epochDemo 0).par) (packMsg 0 0x30 (prepBody (epochDemo 0).par)) (packDemo 1 0) ∧
    PackTaken (.epochVote (packMsg 2 0x31 (be 4 8 ++ bit8 true)) 8 true) (packMsg 2 0x31 (be 4 8 ++ bit8 true)) (epochAt 0 0 1) ∧
    PackTaken (.epochAck (packMsg 2 0x33 (be 4 8)) 8) (packMsg 2 0x33 (be 4 8)) (epochAt 0 0 1) ∧
    PackTaken (.deputyAcknowledgement (packMsg 2 0x34 (copyBytes (.decision 8 true))) (.decision 8 true))
      (packMsg 2 0x34 (copyBytes (.decision 8 true))) (epochAt 0 0 1) ∧
    (∀ x, PackTaken (.stateCopy (packMsg 0 0x34 (copyBytes x)) x) (packMsg 0 0x34 (copyBytes x)) (epochAt 1 0 1)) ∧
    (∀ b, PackTaken (.epochDecide (packMsg 0 0x32 (be 4 8 ++ le 1 (if b then 1 else 2) ++ le 1 0)) 8 b 0)
      (packMsg 0 0x32 (be 4 8 ++ le 1 (if b then 1 else 2) ++ le 1 0)) (epochAt 1 0 1)) ∧
    PackTaken (.voteAcknowledgement (packMsg 0 0x31 (be 4 8)) 8) (packMsg 0 0x31 (be 4 8)) (epochAt 1 0 1) :=
  ⟨takes _ 0 _ _ _ wit_packHears.1 rfl, takes _ 2 _ _ _ wit_packHears.2.2.2 rfl, takes _ 2 _ _ _ wit_packHears.2.2.2 rfl,
    takes _ 2 _ _ _ wit_packHears.2.2.2 rfl, fun _ => takes _ 0 _ _ _ wit_packHears.2.2.1 rfl,
    fun _ => takes _ 0 _ _ _ wit_packHears.2.2.1 rfl, takes _ 0 _ _ _ wit_packHears.2.2.1 rfl⟩
/-- A request for a GROUP channel of LP8, as the directory answers it: granted by a lead alone in its pack, denied where another member has the
SCI, asked of the lead elsewhere. -/
def groupReq : Bytes := bts [5, 0, 0, 40, 2, 0, 2, 0] ++ be 8 99 ++ zb 8
def answerOf (s : State) : Option Bool := (packClaim (sciEntry 5 99 s) 0 s).1
theorem wit_ScCommandsComplete_group : nbit (u8 groupReq 6) 1 = true ∧ scArgs groupReq = true ∧ field.pack.st ≠ .active ∧
    answerOf { packDemo 0 0 with pack := { (packDemo 0 0).pack with peers := [] } } = some true ∧
    answerOf { packDemo 0 0 with pack := { (packDemo 0 0).pack with peers := [], dir := [⟨1, 3, 0, 99, 4, 0⟩] } } = some false ∧
    answerOf (packDemo 1 0) = none := by
  refine ⟨by decide +kernel, by decide +kernel, by decide, by decide +kernel, by decide +kernel, by decide +kernel⟩

/-- `field` with MB2 in a state, its header's opcode and flags given, first in RING order; session 3 is open. -/
def mbIn (st : MbState) : Mailbox := { Mailbox.reset with st := st }
def hdrMb (op fl len : Nat) : Mailbox :=
  { mbIn .posted with req := bufWrite [] 0 (le 2 op ++ le 2 fl ++ le 2 1 ++ le 2 len ++ le 4 3 ++ zb 4) }
def mbDemo (m : Mailbox) : State :=
  { field with hif := { field.hif with mbs := [(2, m)], ringOrder := [2], sessions := [⟨3, some 7⟩] } }
/-- The header as the agent reads it. -/
def hdrOf (s : State) : Bytes := bufRead (getMb s 2).req 0 16
/-- The meter powered, with a request waiting for it. -/
def mtrDemo : State :=
  { field with
    boot := { field.boot with meterFuse := true }
    mtr := { field.mtr with powered := true, mb := { mbIn .posted with req := bufWrite [] 0 (le 2 0x0C00) } } }
/-- A notification. -/
def noteDemo : Notice := { typ := 1, body := zb 4, phase := false, tod := 0 }
/-- The queue enabled with a backlog and an episode of losses. -/
def nqDemo : State :=
  { field with hif := { field.hif with nqEnable := true, backlog := [noteDemo], nqEpisode := some (2, 5), coalUs := 3, nqUnsig := 1 } }

theorem wit_MailboxesFollowTable : mbThere 2 (mbDemo (mbIn .idle)) = true ∧
    ((getMb (mbDemo (mbIn .idle)) 2).st = .idle ∧ (getMb (mbDemo (mbIn .posted)) 2).st = .posted ∧
      (getMb (mbDemo (mbIn .executing)) 2).st = .executing ∧ (getMb (mbDemo (mbIn .done)) 2).st = .done ∧
      (getMb (mbDemo (mbIn .done)) 2).timeoutMs ≠ 0) ∧
    (4095 + (zb 1).length ≤ 4096 ∧ 4096 < 4095 + (zb 2).length) ∧ mbThere 8 mtrDemo = true ∧
    ({ mbDemo (mbIn .executing) with boot := { field.boot with agent := 3 } } : State).boot.agent = 3 ∧
    (0xFFF / 4096 ≠ (0xFFF + 2 - 1) / 4096) ∧ live field = true ∧
    (barFault 0x1E4 4 = false ∧ 0x1E4 = 0x104 + 0x20 * 7 ∧ barFault 0x10FFC 4 = false ∧ 0x10FFC = 0x2000 + 0x2000 * 7 + 4092 ∧
      barFault 0x40004 4 = false ∧ barFault 0x83FFC 4 = false ∧ { field.boot with meterFuse := false }.meterFuse = false) ∧
    (windowCp 0x30000 = some 0x400E0000 ∧ fwlJudge field 2 0x400E0000 4 0 ≠ 0) := by
  refine ⟨by decide +kernel, ?_, by decide, by decide +kernel, rfl, by decide, by decide, by decide +kernel, by decide +kernel⟩
  decide +kernel
theorem wit_RequestsChecked : serving (mbDemo (hdrMb 0 0 0)) = true ∧
    (mbDemo (hdrMb 0 0 0)).hif.cmds.any (fun c => c.mb != 8 && c.wait == Wait.none) = false ∧
    (mbDemo (hdrMb 0 0 0)).hif.ringOrder = 2 :: [] ∧
    (4080 < u16 (hdrOf (mbDemo (hdrMb 0 0 4081))) 6 ∧ 15 < u16 (hdrOf (mbDemo (hdrMb 0 16 0))) 2 ∧
      u16 (hdrOf (mbDemo (hdrMb 0x0C00 0 4080))) 6 ≤ 4080 ∧ u16 (hdrOf (mbDemo (hdrMb 0x0C00 15 0))) 0 / 256 = 12 ∧
      zeros (hdrOf (mbDemo (hdrMb 0x0C00 15 0))) 12 4 = true) ∧
    (opRole 0x0004 = none ∧ opRole 0x0600 = some 0 ∧ opRole 0x0801 = some 1) ∧
    ((mbDemo (hdrMb 0x0600 0 0)).hif.sessions.any (fun x => x.id == u32 (hdrOf (mbDemo (hdrMb 0x0600 0 0))) 8) = true ∧
      (mbDemo (hdrMb 0x0600 0 0)).hif.lockout = false ∧ (mbDemo (hdrMb 0x0600 0 0)).hif.authRun ≤ 6) ∧
    (mbThere 8 mtrDemo = true ∧ mtrDemo.mtr.mb.st = .posted ∧ u16 (bufRead mtrDemo.mtr.mb.req 0 16) 6 ≤ 4080 ∧
      opRole (u16 (bufRead mtrDemo.mtr.mb.req 0 16) 0) = some 0 ∧ u16 (bufRead mtrDemo.mtr.mb.req 0 16) 0 / 256 = 12) := by
  refine ⟨by decide +kernel, by decide +kernel, by decide +kernel, ?_, ?_, ?_, ?_⟩ <;> decide +kernel
theorem wit_NotificationsAndDevice : live field = true ∧ field.hif.nqHeld = [] ∧ field.hif.nqEnable = false ∧
    bitOf (1 : W32) 0 = true ∧ nqDemo.hif.nqEnable = true ∧
    (0 + [noteDemo].length ≤ 1024 ∧ [noteDemo] ≠ []) ∧
    (serving nqDemo = true ∧ nqRoom nqDemo.hif = true ∧ nqDemo.hif.backlog = [noteDemo] ∧ nqDemo.hif.nqEpisode = some (2, 5) ∧
      nqDemo.hif.nqAfter.length ≤ 1) ∧
    (nqRoom { nqDemo.hif with nqEpisode := none } = true ∧ nqDemo.hif.nqAfter = []) ∧
    (nqDemo.hif.coalUs ≠ 0 ∧ nqDemo.hif.nqUnsig ≠ 0 ∧ nqDemo.hif.irqMask.getLsbD 8 = false ∧ nqDemo.hif.msixEnable = false) ∧
    (msixMasked { nqDemo.hif with msixEnable := true, msixTable := [(35, 0)] } 8 = false ∧
      msixMasked { nqDemo.hif with msixEnable := true } 8 = true) ∧
    (90 : Nat) ≠ 91 ∧ field.hif.smbAddr.toNat = 90 ∧ 8 < 255 ∧ fwRuns field = true ∧
    field.hif.sessions.length ≤ 15 := by
  refine ⟨by decide, by decide, by decide, by decide, by decide, by decide, ?_, ?_, ?_, ?_, by decide, by decide, by decide, by decide, by decide⟩ <;>
    decide +kernel

/-- The debug port at a level, with firewall region 1 over 4 KiB of the SRAM that it may read, and write where `w`. -/
def dapDemo (level : Nat) (w : Bool) : State :=
  { field with prot := { field.prot with
      level := level
      regions := [(1, { base := 0x10000000, enable := true, lock := false, size := 12, perm := if w then 0x180 else 0x080 })] } }
/-- A page that the debug port does not see. -/
def hiddenPage (a : Nat) : Prop :=
  (blockBase 6 ≤ a ∧ a < blockBase 6 + 0x1000) ∨ (blockBase 12 + 0x8000 ≤ a ∧ a < blockBase 12 + 0x9000)
/-- The MPU on, its region 2 the first 64 bytes of the SRAM, read by both modes. -/
def mpuDemo (on : Bool) : State :=
  { dapDemo 2 true with prot := { (dapDemo 2 true).prot with
      mpuEnable := on
      regions := [(1, { base := 0x10000000, enable := true, lock := false, size := 12, perm := 7 })]
      mpuRegions := [(2, { start := 0x10000000, fin := 0x10000020, enable := true, perm := 0x09 })] } }

theorem wit_DapAccessJudged :
    (fixedOf 0x10000000 = none ∧ deciding (dapDemo 2 true) 0x10000FFF = 1 ∧ deciding (dapDemo 2 true) 0x10001000 = 36) ∧
    (live (dapDemo 0 true) = true ∧ 0x3FFFFFFFFF + 1 ≤ 2 ^ 40) ∧
    (hiddenPage (blockBase 6 + 0xFFF) ∧ ¬ hiddenPage (blockBase 6 + 0x1000) ∧ hiddenPage (blockBase 12 + 0x8000)) ∧
    ((dapDemo 0 true).prot.level = 0 ∧ (dapDemo 1 true).prot.level = 1) ∧
    deciding (dapDemo 2 true) 0x10001000 ≠ deciding (dapDemo 2 true) 0x10000FFF ∧
    (mapped 0x10200000 = false ∧ mapped 0x10000FFF = true) ∧
    fwlGrants (dapDemo 2 false) 1 3 1 = false ∧ fwlGrants (dapDemo 1 false) 1 3 0 = true ∧
    fwlGrants (dapDemo 2 true) 1 3 1 = true ∧ (∀ i, i < 3 + 8 → inSram (0x101FFFF3 - 0x101FFFF3 % 4 + i) = true) ∧
    inSram 0x10000FFF = true := by
  refine ⟨by decide +kernel, ⟨by decide, by decide⟩, by simp [hiddenPage, blockBase], ⟨rfl, rfl⟩, by decide +kernel, by decide +kernel,
    by decide +kernel, by decide +kernel, by decide +kernel, by decide +kernel, by decide +kernel⟩
theorem wit_MpuChecksCp : cpRuns (mpuDemo true) = true ∧ (mpuDemo true).hif.cmds = [] ∧ (mpuDeciding (mpuDemo true) 0x1000003F = 2 ∧ mpuDeciding (mpuDemo true) 0x10000040 = 16) ∧
    ((mpuRegion (mpuDemo true) 2).perm.getLsbD (0 + accessCode .read) = true ∧
      (mpuRegion (mpuDemo true) 2).perm.getLsbD (3 + accessCode .write) = false) ∧
    (inMpuPage 0xE0000FFF = true ∧ inMpuPage 0xE0001000 = false ∧ mpuDeciding (mpuDemo true) 0xE0000FFF = 16) ∧
    (mpuDemo false).prot.mpuEnable = false ∧ fwlJudge (mpuDemo true) 0 0x10000000 4 0 = 0 ∧
    fwlJudge (mpuDemo false) 0 0x10200000 1 0 ≠ 0 := by
  refine ⟨by decide, rfl, by decide +kernel, by decide +kernel, by decide +kernel, rfl, by decide +kernel, by decide +kernel⟩
theorem wit_FwlCloseNeedsMpuLock : cpRuns field = true ∧ field.prot.window = true ∧ field.prot.mpuLock = false ∧
    ({ field with prot := { field.prot with mpuLock := true } } : State).prot.mpuLock = true ∧ field.evr.hwFifo.length < 64 := by decide
theorem wit_DebugAndRegisterWrites : live field = true ∧ field.prot.level = 2 ∧ (dapDemo 1 true).prot.level ≠ 2 ∧
    ({ field with prot := { field.prot with granting := true } } : State).prot.granting = true ∧ field.km.clearing = false ∧
    field.tamper.safe = [] ∧ (∀ c ∈ field.hif.cmds, ∀ l, c.wait ≠ .debug l) ∧ cpRuns field = true ∧ field.prot.mpuLock = false ∧
    field.hif.smbLock = false ∧ field.prot.window = true ∧ (fwlRegion field 31).lock = false ∧
    (∀ b, mpuJudge field 1 true (0x40000000 + 0x108 + 0x10 * 31) 4 b = 0) ∧
    ({ field with prot := { field.prot with window := false } } : State).prot.window = false ∧
    (fwlRegion { field with prot := { field.prot with regions := [(31, { base := 0, enable := true, lock := true, size := 12, perm := 0 })] } } 31).lock = true := by
  refine ⟨by decide, by decide, by decide, rfl, rfl, rfl, by simp [field, State.reset, Hif.reset], by decide, rfl, rfl, rfl, by decide,
    fun b => by cases b <;> decide +kernel, rfl, by decide +kernel⟩

/-- `field` with fields of boot changed. -/
def withBoot (f : Boot → Boot) : State := { field with boot := f field.boot }
/-- An image whose manifest holds the format, the device, these revision, key generation and code length, and the digest of its code. -/
def imageOf (rev gen len : Nat) : ImageSlot :=
  { manifest := le 4 0x4D460001 ++ zb 8 ++ le 2 0x3200 ++ le 1 rev ++ le 1 gen ++ zb 4 ++ le 4 len ++ sha384 (zb len), code := zb len }
/-- Held in reset by POR_L, with this BBRAM. -/
def heldDemo (lc : Nat) (x : Bbram) : State :=
  { State.reset with boot := { State.reset.boot with lc := lc, bbram := x } }
/-- A command that waits for the commit of a transition to FIELD. -/
def claimDemo : State :=
  { withBoot (fun b => { b with lc := 1, transition := some 2 }) with
    hif := { field.hif with cmds := [{ cmd 0x0801 (le 1 2 ++ le 1 1 ++ zb 22) with wait := .muzzle 2 }] } }

theorem wit_IdentityCommandsAnswer : Taken 0x0813 0 (taking field 0x0813 (zb 32 ++ le 1 3 ++ bit8 true ++ zb 6))
      (cmd 0x0813 (zb 32 ++ le 1 3 ++ bit8 true ++ zb 6)) ∧ field.boot.lc ≠ 4 ∧
    (certOf field 3 = none ∧ certOf (withBoot (fun b => { b with certs := [(0, some (zb 5))] })) 0 = some (zb 5)) ∧
    (dmaRange 8 5 = true ∧ dmaRange 0xFFFFFFFFFFFFFFF8 8 = true ∧ dmaRange 0 8192 = true) ∧ field.boot.ownerScheme = 0 ∧
    ((withBoot (fun b => { b with ownerScheme := 1, ids := [(2, some (zb 48, zb 97))] })).boot.ownerScheme ≠ 0 ∧
      idKey (withBoot (fun b => { b with ownerScheme := 1, ids := [(2, some (zb 48, zb 97))] })) 2 = some (zb 48, zb 97)) ∧
    field.km.muzzled = false ∧ noLdev field true 3 = true ∧ noLdev field false 1 = false := by
  refine ⟨taken_field _ _, by decide, by decide, by decide, by decide, by decide, by decide, by decide, by decide⟩
theorem wit_LifeCycleFollowsTable : Taken 0x0801 0 (taking field 0x0801 (le 1 3 ++ zb 23)) (cmd 0x0801 (le 1 3 ++ zb 23)) ∧
    (field.boot.lc = 2 ∧ field.boot.zeroized = false ∧ field.boot.transition = none ∧ field.boot.transitions < 64) ∧
    64 ≤ (withBoot (fun b => { b with transitions := 64 })).boot.transitions ∧ dmaRange 0 2049 = true ∧
    (cpRuns claimDemo = true ∧ claimDemo.km.clearing = false ∧ claimDemo.boot.transition = some 2 ∧ claimDemo.boot.lc = 1 ∧
      (claimDemo.hif.cmds.filter (fun c => waitsCommit c.wait)).length ≤ 1 ∧ claimDemo.tamper.safe = []) ∧
    field.km.clearing = false ∧ field.prot.level = 2 ∧ (dapDemo 1 true).prot.level < 2 ∧
    live field = true ∧ (withBoot (fun b => { b with lc := 0 })).boot.lc = 0 := by
  refine ⟨taken_field _ _, by decide, by decide, by decide, by decide +kernel, by decide, by decide, by decide, by decide, by decide⟩
theorem wit_FirmwareUpdateFollowsTable : (u32 (imageOf 1 3 1).manifest 0 = 0x4D460001 ∧ u16 (imageOf 1 3 1).manifest 12 = 0x3200 ∧
      u8 (imageOf 1 3 1).manifest 14 ≤ 1 ∧ 1 < u8 (imageOf 2 3 1).manifest 14 ∧ nbit (8 : BitVec 4).toNat (u8 (imageOf 1 3 1).manifest 15) = true) ∧
    Taken 0x0820 0 (taking field 0x0820 (le 8 0 ++ le 4 4097 ++ zb 4)) (cmd 0x0820 (le 8 0 ++ le 4 4097 ++ zb 4)) ∧ field.boot.lc ≠ 4 ∧
    dmaRange 0 4097 = true ∧ field.boot.staging.st = 0 ∧ field.boot.running.trial = false ∧
    u32 (imageOf 0 0 1).manifest 20 = 1 ∧ cpRuns field = true ∧
    ((withBoot (fun b => { b with staging := { Stage14.none with st := 1, image := imageOf 0 0 1 } })).boot.staging.st = 1 ∧
      sha384 (imageOf 0 0 1).code = sub (imageOf 0 0 1).manifest 24 48) ∧
    (dirNow field.boot).seq + 1 < 2 ^ 32 ∧ (withBoot (fun b => { b with running := { b.running with trial := true } })).boot.running.trial = true ∧
    (withBoot (fun b => { b with staging := { b.staging with st := 2 } })).boot.staging.st = 2 := by
  refine ⟨by decide +kernel, taken_field _ _, by decide, by decide, by decide, by decide, by decide +kernel, by decide, by decide +kernel, by decide, by decide, by decide⟩
theorem wit_ResetsAndBoot : field.boot.por = false ∧ field.boot.sysRst = false ∧ State.reset.boot.por = true ∧
    State.reset.boot.sysRst = false ∧ State.reset.tamper.onBattery = false ∧ State.reset.tamper.aonDown = false ∧
    (withBoot (fun b => { b with sysRst := true })).boot.sysRst = true ∧ reached field.tsu.ns field.tsu.ns = true ∧
    reached field.tsu.ns 1 = false ∧ live field = true ∧ cpRuns field = true ∧ field.boot.lockLow = false ∧ field.boot.measBusy = none ∧
    (withBoot (fun b => { b with measBusy := some (7, zb 48) })).boot.measBusy = some (7, zb 48) ∧
    (let h := heldDemo 2 { share := none, recorded := some (0, 2), counter := 0, aonReset := false }
     h.boot.bbram.recorded = some (h.boot.transitions, h.boot.lc) ∧ h.boot.bbram.share = none ∧ h.boot.bbram.aonReset = false) ∧
    (let h := heldDemo 3 { share := some (zb 32), recorded := some (0, 2), counter := 5, aonReset := false }
     h.boot.bbram.recorded ≠ some (h.boot.transitions, h.boot.lc)) := by decide

/-- `field` with fields of the security monitors changed. -/
def withTmp (f : Tamper → Tamper) : State := { field with tamper := f field.tamper }
/-- On battery, held in reset, with a share in BBRAM. -/
def batteryDemo : State :=
  { State.reset with
    tamper := { State.reset.tamper with onBattery := true }
    boot := { State.reset.boot with bbram := { State.reset.boot.bbram with share := some (zb 32) } } }

theorem wit_AlarmsActByClass : field.tamper.aonDown = false ∧ field.tamper.onBattery = false ∧ live field = true ∧ monitored field 0 = true ∧
    (monitored (withTmp (fun t => { t with cfg := { t.cfg with loops := 8 } })) 17 = true ∧ monitored field 17 = false) ∧
    (alarmClass field 23 = 2 ∧ alarmClass field 0 = 2 ∧ alarmClass field 10 = 3 ∧ alarmClass field 8 = 4) ∧
    alarmClass (withTmp (fun t => { t with cfg := { t.cfg with alarms := [(2, false), (5, false)] } })) 1 = 5 ∧
    ((withTmp (fun t => { t with cfg := { t.cfg with alarms := [(2, false), (4, true)] } })).tamper.cfg.alarms.getD 1 (0, false)).2 = true ∧
    (field.tamper.evd.stopped = false ∧ field.tamper.evd.recs.length < 126) ∧
    (batteryDemo.tamper.onBattery = true ∧ aonAlarm 8 = false ∧ aonAlarm 12 = true ∧ alarmClass batteryDemo 12 = 4) ∧
    field.tamper.safe = [] ∧ field.tamper.active.getLsbD 13 = false ∧ (12 : Nat) ∉ field.tamper.failing ∧
    12 ∈ (withTmp (fun t => { t with failing := [12] })).tamper.failing ∧ cpRuns field = true ∧
    (withTmp (fun t => { t with aonDown := true })).tamper.aonDown = true := by decide +kernel
theorem wit_TamperCommandsAnswer : Taken 0x0904 0 (taking field 0x0904 (le 4 0xFFFFFF ++ zb 4)) (cmd 0x0904 (le 4 0xFFFFFF ++ zb 4)) ∧
    field.boot.lc < 3 ∧ field.tamper.safe = [] ∧ field.km.muzzled = false ∧ noLdev field false 3 = false ∧ field.tamper.lock = false ∧
    (TmpCfg.reset.alarms.length = 24 ∧ (∀ i, i < 24 → (TmpCfg.reset.alarms.getD i (0, false)).1 < 256) ∧
      (∀ i, i < 24 → alarmLow i ≤ (TmpCfg.reset.alarms.getD i (0, false)).1 ∧ (TmpCfg.reset.alarms.getD i (0, false)).1 ≤ alarmTop i)) ∧
    ¬ (∀ i, i < 24 → alarmLow i ≤ (((List.replicate 24 (3, false)).getD i (0, false)).1) ∧ (((List.replicate 24 (3, false)).getD i (0, false)).1) ≤ alarmTop i) ∧
    (withTmp (fun t => { t with lock := true })).tamper.lock = true ∧
    field.tamper.evd.stopped = false ∧ field.tamper.evd.recs.length < 126 ∧ field.tamper.onBattery = false ∧ dmaRange 0 (64 + 32 * 126 + 3405) = true ∧
    ({ field with km := { field.km with muzzled := true } } : State).km.muzzled = true := by
  refine ⟨taken_field _ _, ?_⟩
  decide +kernel

/-- `field` with fields of the recorder changed. -/
def withEvr (f : Evr → Evr) : State := { field with evr := f field.evr }
/-- A LINK_UP event of port 3, and the record it made. -/
def linkUp : Ev := { code := 0x1001, params := le 1 3, tod := 5, notSet := true }
def linkRec : Rec :=
  { code := 0x1001, params := le 1 3, opn := true, notSet := true, fw := false, rep := 0, seq := 1, first := 4, last := 4 }
/-- The event waits; the ring holds these records and the cursors stand at 1. -/
def evrDemo (rs : List Rec) (lost : Nat) : State :=
  withEvr (fun e => { e with hwFifo := [linkUp], ring := rs, next := 2, lostSince := lost })

theorem wit_RecorderTakesEvents : live (evrDemo [linkRec] 0) = true ∧ field.evr.hwFifo = [] ∧ (evrDemo [linkRec] 0).evr.hwFifo = linkUp :: [] ∧
    (evrDemo [linkRec] 0).evr.lostSince = 0 ∧ (evrDemo [] 3).evr.lostSince ≠ 0 ∧ (evrDemo [linkRec] 3).evr.lostSince ≠ 0 ∧ evrOldest (evrDemo [linkRec] 3).evr ≤ (evrDemo [linkRec] 3).evr.cur0.seq ∧
    ((evrDemo [linkRec] 0).evr.ring.getLast? = some linkRec ∧ linkRec.opn = true ∧ linkRec.code = linkUp.code ∧
      linkRec.params = linkUp.params ∧ linkRec.rep < 65535) ∧
    ((evrDemo [] 0).evr.ring.getLast? = none ∧ evExempt 0x8001 = true ∧ evExempt linkUp.code = false) ∧
    (0 < evTokens (evrDemo [] 0).evr linkUp.code ∧ evTokens (withEvr (fun e => { e with missing := [(0x1001, 64)] })).evr linkUp.code = 0) ∧
    (([linkRec].map Rec.size).sum + 40 + (32 + (linkUp.params.length + 7) / 8 * 8) ≤ 262144) ∧ fwRuns (evrDemo [linkRec] 0) = true ∧
    ((evrDemo [linkRec] 0).evr.ring.find? (fun r => r.seq == (evrDemo [linkRec] 0).evr.cur0.seq) = some linkRec ∧
      evForwards (evrDemo [linkRec] 0) linkRec = false ∧ evForwards field { linkRec with code := 0xB003 } = true ∧ field.hif.nqEpisode = none) ∧
    fwlJudge field 2 0x400D0108 4 1 ≠ 0 ∧
    fwlJudge { field with prot := { field.prot with regions := [(9, { base := 0x400D0000, enable := true, lock := true, size := 16, perm := 0x60 })] } } 2
      0x400D0128 4 1 = 0 := by decide +kernel
theorem wit_RecorderCommandsAnswer : Taken 0x0B03 0 (taking field 0x0B03 (le 1 2 ++ le 1 1 ++ zb 6 ++ le 8 0))
      (cmd 0x0B03 (le 1 2 ++ le 1 1 ++ zb 6 ++ le 8 0)) ∧
    ((List.replicate 16 ((64 : Nat), (100 : Nat))).length = 16 ∧ ∀ x ∈ List.replicate 16 ((64 : Nat), (100 : Nat)), x.1 ≤ 1024 ∧ 1 ≤ x.2 ∧ x.2 ≤ 1000) ∧
    ¬ (∀ x ∈ [((1025 : Nat), (100 : Nat))], x.1 ≤ 1024 ∧ 1 ≤ x.2 ∧ x.2 ≤ 1000) ∧ (evExempt 0x1001 = false ∧ evDefined 0x1001 = true ∧ evExempt 3 = true ∧ evDefined 0xC000 = false) ∧
    (field.evr.overrides.filter (fun x => x.1 != 0x1001)).length < 64 ∧ evrOldest field.evr ≤ field.evr.next ∧
    (0 : Nat) < evrOldest field.evr := by
  refine ⟨taken_field _ _, by decide, by decide, by decide +kernel, by decide, by decide, by decide⟩
/-- What other clauses of the statements assume: a write in the cycle of the closing, a claim, a denied certificate, both reset
inputs low, a battery below 2.5 V, records that cursor 0 skipped while the CP stood still. -/
theorem wit_DebugAndRegisterWrites_closing :
    ({ field with prot := { field.prot with window := false, closedAt := some field.tsu.count } } : State).prot.closedAt = some field.tsu.count ∧
    ({ field with prot := { field.prot with window := false } } : State).prot.closedAt ≠ some field.tsu.count := by decide
theorem wit_LifeCycleFollowsTable_claim :
    let c := { cmd 0x0801 (le 1 2 ++ le 1 1 ++ zb 2 ++ le 4 97 ++ le 8 8 ++ zb 8) with claim := [1] }
    Taken 0x0801 0 { field with hif := { field.hif with cmds := [c] } } c ∧ c.claim ≠ [] ∧ dmaRange 8 97 = true ∧ field.boot.lc ≠ 1 := by
  refine ⟨⟨by decide, by decide⟩, by decide, by decide, by decide⟩
theorem wit_IdentityCommandsAnswer_reads : fwlJudge field 1 0x40060000 4 0 ≠ 0 := by decide +kernel
theorem wit_ResetsAndBoot_both : ({ State.reset with boot := { State.reset.boot with sysRst := true } } : State).boot.por = true ∧
    State.reset.tamper.onBattery = false ∧ State.reset.tamper.aonDown = false := by decide
theorem wit_AlarmsActByClass_samples : (2499 % 65536 < 2500 ∧ ¬ 2500 % 65536 < 2500) ∧
    (signed 2 (65536 - 201) < -200 ∧ ¬ signed 2 (65536 - 200) < -200) ∧ monitored (withTmp (fun t => { t with cfg := { t.cfg with loops := 1 } })) 14 = true ∧
    (1, 24) ∈ (withTmp (fun t => { t with safe := [(1, 24)] })).tamper.safe := by decide
theorem wit_RecorderTakesEvents_skipped : (withEvr (fun e => { e with skipped := 3 })).evr.skipped ≠ 0 ∧
    (withEvr (fun e => { e with skipped := 3 })).evr.ring.find? (fun r => r.seq == field.evr.cur0.seq) = none ∧ field.evr.skipped = 0 := by decide

/-- `field` with fields of the counters changed. -/
def withCnt (f : Cnt → Cnt) : State := { field with cnt := f field.cnt }
/-- Counters 6 and 7 of block 15: the even one enabled, the odd one chained to it. -/
def pairDemo : State :=
  withCnt (fun c => { c with pmc := [(126, { Pmc.reset with enable := true }), (127, { Pmc.reset with enable := true, chain := true })] })
/-- Counter 0 of the PNA counts PN allocations, counter 1 its carries; the count is about to pass 2^32. -/
def pnDemo : State :=
  withCnt (fun c => { c with
    pmc := [(32, { Pmc.reset with enable := true, event := 1, value := 0xFFFFFFFF }), (33, { Pmc.reset with enable := true, chain := true })]
    occ := [(occKey 4 1 0, 2)] })
/-- Counter 0 of a block counts an event, in EDGE or not. -/
def eventDemo (k event : Nat) (edge : Bool) : State :=
  withCnt (fun c => { c with pmc := [(8 * k, { Pmc.reset with enable := true, event := event, edge := edge })], occ := [(occKey 4 1 0, 2)] })
/-- The host port of the counter reader opened to HIF. -/
def readerOpen : State :=
  { field with prot := { field.prot with regions := [(9, { base := 0x400E0000, enable := true, lock := true, size := 16, perm := 0x60 })] } }
/-- The STAT identifier of FWL_DENY_CNT of a master. -/
def denyId (master : Nat) : Nat := 2 ^ 31 + master
/-- Threshold slot 3 over a STAT counter, its window at its end. -/
def thrDemo : Thr :=
  { id := BitVec.ofNat 32 (denyId 3), window := 100, thr := 1, forward := true, base := 0, episode := false, discard := false,
    start := 0 }
def windowDemo : State := { withCnt (fun c => { c with thr := [(3, some thrDemo)] }) with tsu := { field.tsu with ns := 100000000 } }

theorem wit_CountersFollowRules : live pairDemo = true ∧ (pmcOf pairDemo 15 6).enable = true ∧ (pmcOf field 15 6).enable = false ∧
    ((pmcOf pairDemo 15 7).chain = true ∧ (pmcOf pairDemo 15 7).enable = true ∧ (pmcOf pairDemo 15 5).chain = false) ∧ cpRuns pairDemo = true ∧
    ((pmcOf pnDemo 4 0).chain = false ∧ pmcTotal pnDemo 4 (pmcOf pnDemo 4 0) = some 2 ∧ (pmcOf (pmcSettle 4 0 pnDemo) 4 0).ovf = true ∧
      (pmcOf (pmcSettle 4 0 pnDemo) 4 1).value = 1) ∧
    (pmcTotal (eventDemo 4 1 true) 4 (pmcOf (eventDemo 4 1 true) 4 0) = some 2 ∧
      (∀ edge, pmcTotal (eventDemo 9 0 edge) 9 (pmcOf (eventDemo 9 0 edge) 9 0) = none ∧
        pmcLevel (eventDemo 9 0 edge) 9 (pmcOf (eventDemo 9 0 edge) 9 0) = some 1) ∧
      pmcLevel (eventDemo 1 6 false) 1 (pmcOf (eventDemo 1 6 false) 1 0) = some 0) ∧
    fwlJudge field 2 0x400E0000 4 1 ≠ 0 ∧ fwlJudge readerOpen 2 0x400E0000 4 1 = 0 ∧
    (readerOpen.cnt.crdBusy = false ∧ (withCnt (fun c => { c with crdBusy := true })).cnt.crdBusy = true) ∧
    (field.cnt.crdSweep = none ∧ (withCnt (fun c => { c with crdSweep := some (2, 1) })).cnt.crdSweep = some (2, 1)) ∧
    (denyId 3 / 2 ^ 30 = 2 ∧ statValue field 0 3 = some 0 ∧ statValue field 0 4 = none) ∧
    (fwRuns windowDemo = true ∧ tget none windowDemo.cnt.thr 3 = some thrDemo ∧ thrDemo.id.toNat / 2 ^ 30 = 2 ∧
      reached windowDemo.tsu.ns (thrDemo.start + BitVec.ofNat 64 (thrDemo.window * 1000000)) = true ∧
      reached 99999999 (thrDemo.start + BitVec.ofNat 64 (thrDemo.window * 1000000)) = false) := by
  refine ⟨by decide, by decide, by decide, by decide, by decide, by decide +kernel, by decide +kernel, by decide +kernel, by decide +kernel, by decide,
    by decide, by decide +kernel, by decide +kernel⟩
theorem wit_CounterCommandsAnswer : Taken 0x0A03 0 (taking field 0x0A03 (le 1 63 ++ le 1 1 ++ zb 2 ++ le 4 (denyId 3) ++ le 4 3600000 ++ zb 4 ++ le 8 1))
      (cmd 0x0A03 (le 1 63 ++ le 1 1 ++ zb 2 ++ le 4 (denyId 3) ++ le 4 3600000 ++ zb 4 ++ le 8 1)) ∧
    (pmcEvents 15 = 5 ∧ pmcPerPort 10 7 = true ∧ pmcPerPort 2 6 = false) ∧ (pmcOf field 15 7).enable = false ∧ (pmcOf pairDemo 15 7).enable = true ∧ nbit (cmd 0x0A02 []).flags 3 = false ∧
    (statValue field (denyId 3 / 2 ^ 24 % 64) (denyId 3 % 2 ^ 24)).isSome = true ∧ statValue field (denyId 4 / 2 ^ 24 % 64) (denyId 4 % 2 ^ 24) = none ∧
    nbit 1 0 = true ∧ nbit 2 0 = false := by
  refine ⟨taken_field _ _, by decide, by decide, by decide, by decide, by decide, by decide, by decide, by decide⟩
theorem wit_HealthFollowsRules : fwRuns field = true ∧ (lanePort (withPort 32 (portIn .up)) 32 = some 32 ∧ (port (withPort 32 (portIn .up)) 32).st = .up ∧
      lanePort (withPort 32 (portIn .linkWait)) 32 = some 32 ∧ (port (withPort 32 (portIn .linkWait)) 32).st ≠ .up) ∧
    (itemValue field 23 = some 0 ∧ itemValue field 24 = none ∧ itemValue field 92 = some 0) ∧ field.cnt.urgent = false ∧
    Taken 0x0A10 0 (taking field 0x0A10 []) (cmd 0x0A10 []) := by
  refine ⟨by decide, by decide +kernel, by decide, by decide, taken_field _ _⟩

/-- A powered meter in a state, with two bindings of line port 8 and a request taken from MB_MTR. -/
def mtrAt (st op : Nat) (payload : Bytes) (w : Wait) : State :=
  { field with
    mtr := { field.mtr with
      powered := true, st := st
      binds := [⟨40, 1, 2, 310, false, 0x021B440007300001, 7, 1, false⟩, ⟨40, 1, 0, 5, true, 0, 0, 0, true⟩] }
    hif := { field.hif with cmds := [{ cmd op payload with mb := 8, wait := w }] } }
/-- The meter whose tap of port 40 has not seen a bank switch yet, and one whose tap has. -/
def lagDemo (tap : Nat) : State :=
  let s := mtrAt 1 0 [] .none
  { s with mtr := { s.mtr with oldBank := [⟨40, 1, 0, 4, false, 0, 0, 0, false⟩], lag := [tap] } }
/-- The meter when its sweep has visited every slot. -/
def sealedNow (payload : Bytes) (w : Wait) : State :=
  let s := mtrAt 1 0x0C02 payload w
  { s with mtr := { s.mtr with binds := s.mtr.binds.map (fun b => { b with seen := true }) } }
/-- The command it has taken. -/
def mtrCmd (op : Nat) (payload : Bytes) (w : Wait) : Cmd := { cmd op payload with mb := 8, wait := w }
/-- An untagged frame, and one under the SCI of the chapter's example. -/
def plainFrame : Bytes := zb 12 ++ bts [8, 0] ++ zb 50
def sciFrame : Bytes := zb 12 ++ bts [0x88, 0xE5, 0x20, 0] ++ zb 4 ++ bts [2, 0x1B, 0x44, 0, 7, 0x30, 0, 1] ++ zb 50

theorem wit_MeterCountsApart : (mtrAt 1 0 [] .none).mtr.powered = true ∧ field.mtr.powered = false ∧ field.boot.meterFuse = true ∧
    (field.mtr.lifeFuses < 2048 ∧ 2048 ≤ ({ field.mtr with lifeFuses := 2048 } : Mtr).lifeFuses) ∧ (mtrAt 1 0 [] .none).mtr.st = 1 ∧
    ((tapMatch (mtrAt 1 0 [] .none).mtr.binds 40 1 sciFrame).map (·.channel) = some 310 ∧
      (tapMatch (mtrAt 1 0 [] .none).mtr.binds 40 1 plainFrame).map (·.channel) = some 5 ∧
      tapMatch (mtrAt 1 0 [] .none).mtr.binds 40 0 plainFrame = none) ∧
    (2 * 40 + 1 ∈ (lagDemo 81).mtr.lag ∧ 2 * 40 + 1 ∉ (lagDemo 80).mtr.lag ∧ (lagDemo 81).mtr.st = 1 ∧
      (tapMatch (lagDemo 81).mtr.oldBank 40 1 plainFrame).map (·.channel) = some 4) ∧
    (((mtrAt 1 0 [] .none).mtr.binds.filter (fun b => b.port == 40 && b.dir == 1))[1]?.map (·.channel) = some 5) ∧
    ((mtrAt 1 0x0C02 [] .statement).hif.cmds = [mtrCmd 0x0C02 [] .statement] ∧ (mtrCmd 0x0C02 [] .statement).wait = .statement) ∧
    ((mtrAt 1 0x0C02 [] .statement).mtr.binds.any (fun b => !b.seen) = true ∧ (sealedNow [] .statement).mtr.binds.all (·.seen) = true) ∧
    (hbe (zb 12 ++ bts [0x88, 8] ++ zb 46) 12 2 = 0x8808 ∧ hbe plainFrame 12 2 ≠ 0x8808) ∧
    (mtrAt 1 0x0C10 [] .binding).hif.cmds = [mtrCmd 0x0C10 [] .binding] := by
  refine ⟨rfl, rfl, rfl, by decide, rfl, by decide +kernel, by decide +kernel, by decide +kernel, by decide, by decide,
    by decide, by decide⟩
theorem wit_MeterCommandsAnswer : MeterTaken 0x0C01 (mtrAt 1 0x0C01 (le 2 3936 ++ le 2 160) .none) (mtrCmd 0x0C01 (le 2 3936 ++ le 2 160) .none) ∧
    MeterTaken 0x0C10 (mtrAt 0 0x0C10 [] .none) (mtrCmd 0x0C10 [] .none) ∧ (mtrAt 1 0 [] .none).mtr.st = 1 ∧ (mtrAt 3 0 [] .none).mtr.st = 3 ∧
    (mtrAt 0 0 [] .none).mtr.gen.toNat < 2 ^ 32 - 1 ∧
    (bindAll 0 [] [] = .ok [] ∧ bindAll 0 [zb 3 ++ [0] ++ zb 12] [] = .error (stNotFound, 0)) ∧
    (bindOk (zb 16) = true ∧ bindOk (bts [64] ++ zb 15) = false ∧ u8 (bts [0, 0, 0, 1] ++ zb 12) 3 = 1 ∧ bindOk (bts [0, 0, 0, 1] ++ zb 12) = true) ∧
    (tget [] field.mtr.certs 1).length < 1 := by
  refine ⟨⟨rfl, by decide⟩, ⟨rfl, by decide⟩, rfl, rfl, by decide, ⟨rfl, rfl⟩, by decide, by decide⟩

/-! ### The spec's examples -/

/-- Table 8-3: a refill at 2,500,000 kbit/s adds 12.5 bytes to a debt of 6,802 bytes. -/
theorem test_shaperRefill_debt :
    (shaperRefillOne { Shaper.reset with rate := 2500000, burst := 32768, credit := -6802 * 16777216 }).credit * 2 =
      -13579 * 16777216 := by decide
/-- 09, the example of policer 1,200: at T0 + 40 ns a refill leaves P = 92 and C = -1,413. -/
theorem test_policerRefill_debt :
    let p := polRefill { Policer.reset with mode := 2, cir := 1000000, pir := 2000000, cbs := 4096, ebs := 8192
                                            c := -1418 * 16777216, e := 82 * 16777216 }
    (p.c, p.e) = (-1413 * 16777216, 92 * 16777216) := by decide
/-- The same example: frame h2, with P held and C not, is yellow and debits P alone. -/
theorem test_policer_yellow :
    polDecide { Policer.reset with mode := 2, aware := true, c := -1413 * 16777216, e := 92 * 16777216 } false =
      (1, false, true) := by decide
/-- 03, the example of HP4: the SCH comes from the XT, which overwrites the DT's; TC and flags come from the PT. -/
theorem test_merge_hp4 :
    let r (v : BitVec 6) : ClsRes := { ClsRes.reset with valid := v }
    let m := resMerge (resMerge (r 0x07) { r 0x02 with sch := 0x123 }) { r 0x28 with tc := 7, flags := 1 }
    (m.valid, m.sch, m.tc, m.flags) = (0x2F, 0x123, 7, 1) := by decide
/-- The debug port of Table 13-7, with regions 9 and 10 as the example sets them. -/
def dapTable : State :=
  { field with prot := { field.prot with
      level := 2
      window := false
      regions := [(9, { base := 0x1001000000, enable := true, lock := true, size := 24, perm := 0x09B }),
                  (10, { base := 0x1000800000, enable := true, lock := true, size := 23, perm := 0x093 })] } }
/-- Table 13-7, row 4: a staging register is absent for the debug port; the denial is counted and captured. -/
theorem test_dap_absent :
    let t := dapAccess false 0x40060000 4 [] dapTable
    (tget 0 t.prot.denyCnt 3, t.prot.fwlValid, t.prot.fwlMaster, t.prot.fwlCause, t.prot.fwlSize) = (1, true, 3, 4, 4) := by
  decide +kernel
/-- Table 13-7, row 5: FWL_CTRL reads OPEN 0. -/
theorem test_dap_reads_fwlCtrl :
    (dapAccess false 0x40000000 4 [] dapTable).prot.dapData = some [0, 0, 0, 0] := by decide +kernel
/-- Table 13-7, row 3: a read across the two regions is denied, although both grant it. -/
theorem test_dap_straddle :
    (tget 0 (dapAccess false 0x1000FFFFFC 8 [] dapTable).prot.denyCnt 3,
      (dapAccess false 0x1000FFFFFC 8 [] dapTable).prot.fwlCause) = (1, 2) := by decide +kernel
/-- 17, the example of AM3's stress rate: 37.08 equivalent hours a day follow from AF = 1.545 at 92 degrees. -/
theorem test_stressAf : (stressAf (92 * 8) * 1000 + 2 ^ 31) / 2 ^ 32 = 1545 ∧ (stressAf (105 * 8) * 1000 + 2 ^ 31) / 2 ^ 32 = 3319 := by
  decide +kernel
/-- Table 10-4: the residence of 328.652 ns added to a correctionField of 0. -/
theorem test_correction : toCorrection (328652 * 2 ^ 32 / 1000) = 0x148A6E9 := by decide
/-- 15, the example of the sealed part: the second failing sample of the lid latches bit 18. -/
theorem test_lid_second_sample :
    let s := { field with tamper := { field.tamper with cfg := { field.tamper.cfg with lid := true }, failing := [18] } }
    (tamperSample 18 0 true 0 s).tamper.latched.getLsbD 18 = true ∧
      (tamperSample 18 0 true 0 { s with tamper := { s.tamper with failing := [] } }).tamper.latched = 0 := by
  decide +kernel

end Sys2Proof.Tests
end

section
/-! PROOF. The request checks of Table 12-6 (O42), and the states that refute what is stated of the mailboxes and BAR0 (O41) and
of the debug port (O47). -/
namespace Sys2Proof.Machine

/-! ### The resume of a halted CP counts what cursor 0 skipped (R323, R378; refutes O47) -/

/-- Notifications lost are added to NQ_LOST_CNT (R303). -/
theorem nqLose_lostCnt (n : Nat) (s : State) : (nqLose n s).hif.nqLostCnt = s.hif.nqLostCnt + BitVec.ofNat 64 n := by
  simp only [nqLose]
  split
  · rw [evF_frame]
  · rfl

/-- Where the agent runs again, DAP_RESUME also counts the records that cursor 0 skipped while the CP stood halted. -/
theorem dapResume_counts_skipped {s : State} (hlive : live s = true) (hlevel : s.prot.level = 2)
    (hhanded : s.boot.handed = true) (hagent : s.boot.agent ≠ 3) (hskipped : s.evr.skipped ≠ 0) :
    ∃ t, Completes .dapResume s t ∧ t.hif.nqLostCnt = s.hif.nqLostCnt + BitVec.ofNat 64 s.evr.skipped := by
  refine ⟨_, rfl, ?_⟩
  have hgo : dapControl (fun p => { p with dapHalted := false }) s = { s with prot := { s.prot with dapHalted := false } } := by
    simp [dapControl, hlive, hlevel, setProt]
  have hruns : cpRuns { s with prot := { s.prot with dapHalted := false } } = true := by
    have : live { s with prot := { s.prot with dapHalted := false } } = true := hlive
    simp [cpRuns, this, hhanded, hagent]
  rw [hgo, forwardLost]
  simp [hskipped, hruns, nqLose_lostCnt]

/-- The firmware's CP, halted by the debug port at level INVASIVE, while cursor 0 has skipped a record. -/
def haltedWithSkipped : State :=
  { State.reset with
    boot := { Boot.reset with por := false, handed := true, agent := 2 }
    evr := { Evr.reset with skipped := 1 }
    prot := { Prot.reset with dapHalted := true } }

/-- Refutes O47: after `haltedWithSkipped`, DAP_RESUME does more than to clear the halt. The CP runs from then on, so that the record
that cursor 0 skipped meanwhile is counted as a notification lost (R378), where the statement wants NQ_LOST_CNT unchanged. -/
theorem not_debugAndRegisterWrites : ¬ Obligations.DebugAndRegisterWrites := by
  unfold Obligations.DebugAndRegisterWrites
  rintro ⟨hdap, -⟩
  obtain ⟨hinvasive, -⟩ := hdap haltedWithSkipped rfl
  obtain ⟨-, hresume, -⟩ := hinvasive rfl
  obtain ⟨t, ht, hlost⟩ := dapResume_counts_skipped (s := haltedWithSkipped) rfl rfl rfl (by decide) (by decide)
  have hsame : t = { haltedWithSkipped with prot := { haltedWithSkipped.prot with dapHalted := false } } :=
    Host.Outcome.next.inj (ht.symm.trans hresume)
  rw [hsame] at hlost
  exact absurd hlost (by decide)

/-! ### The summary's SUM_STATE (Table 12-11; refutes O41) -/

/-- A device out of reset whose life-cycle view holds 16, a value that the three bits of SUM_STATE.LC do not. -/
def wideLcView : State := { State.reset with boot := { Boot.reset with por := false, lcView := 16 } }

/-- SUM_STATE there: the view's bit 4 stands where MUZZLED stands. -/
theorem wideLcView_sumState : (counterLoRead 0x40000 4 wideLcView).hif.readData = some [0x30, 0, 0, 0] := by
  decide +kernel

/-- Refutes O41: the statement lets the life-cycle view, a number in the model and three bits in the register, hold any value. In
`wideLcView` it holds 16, and SUM_STATE.MUZZLED (bit 4) reads 1 though the key manager is not muzzled. -/
theorem not_mailboxesFollowTable : ¬ Obligations.MailboxesFollowTable := by
  unfold Obligations.MailboxesFollowTable
  rintro ⟨-, -, -, -, -, -, hreads, -⟩
  obtain ⟨-, -, -, hsum, -⟩ := hreads wideLcView 0x40000 4 rfl (by decide) (by decide) (by decide)
  obtain ⟨v, hread, -, hmuzzled, -⟩ := hsum rfl rfl
  have hbytes : some [0x30#8, 0, 0, 0] = some (le 4 v.toNat) :=
    wideLcView_sumState.symm.trans (congrArg (fun t : State => t.hif.readData) (Host.Outcome.next.inj hread))
  obtain ⟨hbyte, -⟩ : 0x30#8 = v.setWidth 8 ∧ _ := by simpa [le] using hbytes
  have hbit : v.getLsbD 4 = (v.setWidth 8).getLsbD 4 := by simp
  rw [hbit, ← hbyte] at hmuzzled
  exact absurd hmuzzled (by decide)

/-! ### The request checks of MB_TAKE (Table 12-6, R292, R295, R298; O42) -/

@[simp] theorem setMb_boot (mb : Nat) (m : Mailbox) (s : State) : (setMb mb m s).boot = s.boot := by
  unfold setMb; split <;> rfl

@[simp] theorem setMb_gates (mb : Nat) (m : Mailbox) (s : State) : (setMb mb m s).gates = s.gates := by
  unfold setMb; split <;> rfl

/-- Of the host interface, a mailbox's update changes the mailboxes alone. -/
theorem setMb_hif (mb : Nat) (m : Mailbox) (s : State) : ∃ ms, (setMb mb m s).hif = { s.hif with mbs := ms } := by
  unfold setMb; split <;> exact ⟨_, rfl⟩

/-- The request that a mailbox's request area holds. -/
def requestOf (m : Mailbox) : Request :=
  ⟨bufRead m.req 0 16, bufRead m.req 16 (min (u16 (bufRead m.req 0 16) 6) 4080)⟩

/-- The command of the request in a mailbox; a claim's key block comes with it in PROVISION alone. -/
def commandOf (mb : Nat) (claimKey : Bytes) (s : State) : Cmd :=
  cmdFrom mb (requestOf (getMb s mb)) (if s.boot.lc = 1 then claimKey else [])

/-- The state in which a mailbox's request is checked: the mailbox is EXECUTING and no longer among those POSTED. -/
def frozen (mb : Nat) (s : State) : State :=
  setMb mb { getMb s mb with st := .executing } (setHif (fun h => { h with ringOrder := h.ringOrder.erase mb, dmaOut := [] }) s)

section
variable {mb : Nat} {bm : Bool} {ck : Bytes} {s w : State} {st : Nat}

/-- The checks' status decides: the command is executing, or completed with the status. -/
theorem takeMb_of_checks (h : requestChecks mb bm ck (requestOf (getMb s mb)) (frozen mb s) = (st, w)) :
    takeMb mb bm ck s = if st = stOk then setHif (fun x => { x with cmds := x.cmds ++ [commandOf mb ck s] }) w
      else finish (commandOf mb ck s) ⟨st, 0, []⟩ w := by
  have hlc : (frozen mb s).boot.lc = s.boot.lc := by simp [frozen]
  have e : takeMb mb bm ck s = (let r := requestChecks mb bm ck (requestOf (getMb s mb)) (frozen mb s)
      let c := cmdFrom mb (requestOf (getMb s mb)) (if (frozen mb s).boot.lc == 1 then ck else [])
      if r.1 == stOk then setHif (fun h => { h with cmds := h.cmds ++ [c] }) r.2 else finish c ⟨r.1, 0, []⟩ r.2) := rfl
  rw [e, h, hlc]
  simp [commandOf]

theorem takeMb_refused (hst : st ≠ stOk) (h : requestChecks mb bm ck (requestOf (getMb s mb)) (frozen mb s) = (st, w)) :
    takeMb mb bm ck s = finish (commandOf mb ck s) ⟨st, 0, []⟩ w := by
  rw [takeMb_of_checks h, if_neg hst]

theorem takeMb_begun (h : requestChecks mb bm ck (requestOf (getMb s mb)) (frozen mb s) = (stOk, w)) :
    takeMb mb bm ck s = setHif (fun x => { x with cmds := x.cmds ++ [commandOf mb ck s] }) w := by
  rw [takeMb_of_checks h, if_pos rfl]

end

/-- A serving agent with no command running takes the oldest POSTED mailbox (R295). -/
theorem mbTake_oldest {s : State} {mb : Nat} {rest : List Nat} (bm : Bool) (ck : Bytes) (hs : serving s = true)
    (hidle : s.hif.cmds.any (fun c => c.mb != 8 && c.wait == Wait.none) = false) (hring : s.hif.ringOrder = mb :: rest) :
    mbTake false bm ck s = takeMb mb bm ck s := by
  simp [mbTake, hs, hidle, hring]

/-- The meter takes its own POSTED mailbox (R402). -/
theorem mbTake_meter {s : State} (bm : Bool) (ck : Bytes) (halive : mbAlive 8 s = true) (hposted : s.mtr.mb.st = .posted) :
    mbTake true bm ck s = takeMb 8 bm ck s := by
  simp [mbTake, halive, hposted]

/-- Check 5's condition: the session is open, or a command that needs none names session 0; on MB_MTR session 0 (R294, R409). -/
def sessionOpen (meter : Bool) (q : Request) (s : State) : Bool :=
  if meter then u32 q.header 8 == 0
  else s.hif.sessions.any (fun x => x.id == u32 q.header 8) || (u32 q.header 8 == 0 && (u16 q.header 0 == 0 || u16 q.header 0 == 1))

section
variable {meter : Bool} {q : Request} {s : State}

/-- Check 1: a payload above 4,080 bytes. -/
theorem headChecks_long (h : 4080 < u16 q.header 6) : headChecks meter q s = .error stInvalid := by simp [headChecks, h]

/-- Check 2: a reserved flag or byte. -/
theorem headChecks_reserved (hlen : u16 q.header 6 ≤ 4080) (h : 15 < u16 q.header 2 ∨ zeros q.header 12 4 = false) :
    headChecks meter q s = .error stInvalid := by
  simp [headChecks, Nat.not_lt.mpr hlen, h]

variable (hlen : u16 q.header 6 ≤ 4080) (hflags : u16 q.header 2 ≤ 15) (hzero : zeros q.header 12 4 = true)
include hlen hflags hzero

/-- Check 3: a command of the meter elsewhere, or another in MB_MTR. -/
theorem headChecks_wrongMailbox (h : (u16 q.header 0 / 256 == 0x0C) ≠ meter) :
    headChecks meter q s = .error stDenied := by
  simp [headChecks, Nat.not_lt.mpr hlen, Nat.not_lt.mpr hflags, hzero, h]

variable (hmb : (u16 q.header 0 / 256 == 0x0C) = meter)
include hmb

/-- Check 4: an opcode that is not listed. -/
theorem headChecks_unlisted (h : opRole (u16 q.header 0) = none) : headChecks meter q s = .error stUnsupported := by
  simp [headChecks, Nat.not_lt.mpr hlen, Nat.not_lt.mpr hflags, hzero, hmb, h]

variable {role : Nat} (hrole : opRole (u16 q.header 0) = some role)
include hrole

/-- Check 5: a session that is not open. -/
theorem headChecks_closed (h : sessionOpen meter q s = false) : headChecks meter q s = .error stDenied := by
  unfold sessionOpen at h
  simp only [headChecks, Nat.not_lt.mpr hlen, Nat.not_lt.mpr hflags, hzero, hmb, hrole] at h ⊢
  simp [h]

/-- Check 6: flag AUTH on a command of the operator. -/
theorem headChecks_signedOperator (ho : sessionOpen meter q s = true) (hr : role = 0) (ha : nbit (u16 q.header 2) 2 = true) :
    headChecks meter q s = .error stInvalid := by
  unfold sessionOpen at ho
  simp only [headChecks, Nat.not_lt.mpr hlen, Nat.not_lt.mpr hflags, hzero, hmb, hrole] at ho ⊢
  simp [ho, hr, ha]

/-- A header that passes checks 1 to 6. -/
theorem headChecks_ok (ho : sessionOpen meter q s = true) (ha : role = 0 → nbit (u16 q.header 2) 2 = false) :
    headChecks meter q s = .ok role := by
  unfold sessionOpen at ho
  simp only [headChecks, Nat.not_lt.mpr hlen, Nat.not_lt.mpr hflags, hzero, hmb, hrole] at ho ⊢
  by_cases hr : role = 0
  · simp [ho, hr, ha hr]
  · simp [ho, hr]

end

/-- Checks 9 and 10 on MB0 to MB7. -/
theorem tailChecks_device (bm : Bool) (q : Request) (s : State) : tailChecks false bm q s =
    if nbit (u16 q.header 2) 3 && !(dmaFlagOk (u16 q.header 0) || dmaOwn (u16 q.header 0)) then stInvalid
    else if !bm && ((nbit (u16 q.header 2) 3 && dmaFlagOk (u16 q.header 0)) ||
        (dmaOwn (u16 q.header 0) && u16 q.header 0 != 0x0801 && u16 q.header 0 != 0x0521) ||
        (u16 q.header 0 == 0x0801 && u32 q.payload 4 != 0) ||
        (u16 q.header 0 == 0x0521 && (if u8 q.payload 1 = 0 then (tget .reset s.gates (u8 q.payload 0)).oper
          else (tget .reset s.gates (u8 q.payload 0)).pend).any (fun l => decide (506 < l.entries.length)))) then stWrongState
    else if s.boot.agent = 1 ∧ recoveryOk (s.boot.lc == 4) (u16 q.header 0) = false then stWrongState else stOk := by
  have hneeded : dmaNeeded (u16 q.header 0) q.payload s =
      ((dmaOwn (u16 q.header 0) && u16 q.header 0 != 0x0801 && u16 q.header 0 != 0x0521) ||
        (u16 q.header 0 == 0x0801 && u32 q.payload 4 != 0) ||
        (u16 q.header 0 == 0x0521 && (if u8 q.payload 1 = 0 then (tget .reset s.gates (u8 q.payload 0)).oper
          else (tget .reset s.gates (u8 q.payload 0)).pend).any (fun l => decide (506 < l.entries.length)))) := by
    unfold dmaNeeded
    by_cases h1 : u16 q.header 0 = 0x0801
    · simp [h1]
    · by_cases h2 : u16 q.header 0 = 0x0521
      · have hany : ∀ o : Option GateList, (o.map (fun l => decide (506 < l.entries.length))).getD false =
            o.any (fun l => decide (506 < l.entries.length)) := fun o => by cases o <;> rfl
        simp [h2, hany]
      · have e1 : (u16 q.header 0 == 0x0801) = false := beq_false_of_ne h1
        have e2 : (u16 q.header 0 == 0x0521) = false := beq_false_of_ne h2
        simp [bne, e1, e2]
  simp [tailChecks, hneeded, Bool.or_assoc]

/-- Checks 9 and 10 on MB_MTR, without flag DMA. -/
theorem tailChecks_meter {bm : Bool} {q : Request} {s : State} (h : nbit (u16 q.header 2) 3 = false) :
    tailChecks true bm q s = stOk := by
  simp [tailChecks, h]

/-! ### Signed requests (R297, R298) -/

/-- The session's nonce is consumed. -/
def nonceConsumed (session : Nat) (s : State) : State :=
  { s with hif := { s.hif with sessions := s.hif.sessions.map (fun x => if x.id = session then { x with nonce := none } else x) } }

/-- A run of failed verifications ends. -/
def runEnded (s : State) : State := { s with hif := { s.hif with authRun := 0 } }

/-- The nonce that the session holds. -/
def nonceOf (session : Nat) (s : State) : Option W64 := (s.hif.sessions.find? (fun x => x.id == session)).bind (·.nonce)

theorem nonceTake_device (session : Nat) (s : State) :
    nonceTake false session s = (nonceOf session s, nonceConsumed session s) := by
  simp [nonceTake, nonceOf, nonceConsumed, setHif]

/-- On MB0 to MB7 a signature is judged by what boot and OTP hold (R297). -/
theorem authOk_boot {op : Nat} {q : Request} {nonce : Option W64} {ck : Bytes} {s t : State} (h : t.boot = s.boot) :
    authOk false op q nonce ck t = authOk false op q nonce ck s := by
  simp [authOk, judge, h]

section
variable {mb op session : Nat} {q : Request} {ck : Bytes} {s : State}

/-- During the lockout a signed request gets LOCKED. -/
theorem authCheck_locked (h : s.hif.lockout = true) :
    authCheck false mb op session q ck s = (stLocked, nonceConsumed session s) := by
  have h' : (nonceConsumed session s).hif.lockout = true := h
  simp [authCheck, nonceTake_device, h']

variable (hl : s.hif.lockout = false)
include hl

/-- A signature that verifies ends the run of failures. -/
theorem authCheck_verified (h : authOk false op q (nonceOf session s) ck s = true) :
    authCheck false mb op session q ck s = (stOk, runEnded (nonceConsumed session s)) := by
  have hl' : (nonceConsumed session s).hif.lockout = false := hl
  have h' : authOk false op q (nonceOf session s) ck (nonceConsumed session s) = true := h
  have hjudge : (judge false op (ownPayload q.payload) ck (nonceConsumed session s)).isNone = false := by
    cases hj : judge false op (ownPayload q.payload) ck (nonceConsumed session s) with
    | none => simp [authOk, hj] at h'
    | some k => rfl
  simp [authCheck, nonceTake_device, hl', h', hjudge, setHif, runEnded]

/-- One that fails is counted. -/
theorem authCheck_failed (h : authOk false op q (nonceOf session s) ck s = false) :
    authCheck false mb op session q ck s = (stDenied, authFailed session op mb (nonceConsumed session s)) := by
  have hl' : (nonceConsumed session s).hif.lockout = false := hl
  have h' : authOk false op q (nonceOf session s) ck (nonceConsumed session s) = false := h
  simp [authCheck, nonceTake_device, hl', h']

end

/-- A failed verification is counted; the eighth in a row starts the lockout and the run afresh (R298). -/
theorem authFailed_counts (session op mb : Nat) {s : State} (hl : s.hif.lockout = false) :
    (authFailed session op mb s).hif.authFailCnt = s.hif.authFailCnt + 1 ∧
    (s.hif.authRun ≤ 6 → (authFailed session op mb s).hif.authRun = s.hif.authRun + 1 ∧
      (authFailed session op mb s).hif.lockout = false) ∧
    (s.hif.authRun = 7 → (authFailed session op mb s).hif.authRun = 0 ∧ (authFailed session op mb s).hif.lockout = true) := by
  have e : (authFailed session op mb s).hif = { s.hif with
      authFailCnt := s.hif.authFailCnt + 1, authRun := if s.hif.authRun + 1 == 8 then 0 else s.hif.authRun + 1
      lockout := s.hif.lockout || s.hif.authRun + 1 == 8 } := by
    simp only [authFailed]
    split
    · rw [evF_frame, evF_frame]; rfl
    · rw [evF_frame]; rfl
  rw [e]
  refine ⟨rfl, fun h => ?_, fun h => ?_⟩
  · have h7 : s.hif.authRun ≠ 7 := by omega
    simp [h7, hl]
  · simp [h]

/-! ### All checks together -/

section
variable {mb : Nat} {meter bm : Bool} {ck : Bytes} {q : Request} {s : State} {st role : Nat}

theorem requestChecks_head (hm : (mb == 8) = meter) (h : headChecks meter q s = .error st) :
    requestChecks mb bm ck q s = (st, s) := by
  simp [requestChecks, hm, h]

theorem requestChecks_operator (hm : (mb == 8) = meter) (h : headChecks meter q s = .ok 0) :
    requestChecks mb bm ck q s = (tailChecks meter bm q s, s) := by
  simp [requestChecks, hm, h]

variable (hm : (mb == 8) = false) (h : headChecks false q s = .ok role) (hrole : role ≠ 0)
include hm h hrole

theorem requestChecks_unsigned (ha : nbit (u16 q.header 2) 2 = false) : requestChecks mb bm ck q s = (stDenied, s) := by
  simp [requestChecks, hm, h, hrole, ha]

variable (ha : nbit (u16 q.header 2) 2 = true)
include ha

theorem requestChecks_locked (hl : s.hif.lockout = true) :
    requestChecks mb bm ck q s = (stLocked, nonceConsumed (u32 q.header 8) s) := by
  simp [requestChecks, hm, h, hrole, ha, authCheck_locked hl]

variable (hl : s.hif.lockout = false)
include hl

theorem requestChecks_verified (hv : authOk false (u16 q.header 0) q (nonceOf (u32 q.header 8) s) ck s = true) :
    requestChecks mb bm ck q s = (tailChecks false bm q (runEnded (nonceConsumed (u32 q.header 8) s)),
      runEnded (nonceConsumed (u32 q.header 8) s)) := by
  simp [requestChecks, hm, h, hrole, ha, authCheck_verified hl hv]

theorem requestChecks_failed (hv : authOk false (u16 q.header 0) q (nonceOf (u32 q.header 8) s) ck s = false) :
    requestChecks mb bm ck q s =
      (stDenied, authFailed (u32 q.header 8) (u16 q.header 0) mb (nonceConsumed (u32 q.header 8) s)) := by
  simp [requestChecks, hm, h, hrole, ha, authCheck_failed hl hv]

end

/-- Settles O42: the checks of Table 12-6 in their order, on MB0 to MB7 and on MB_MTR; then the end of a nonce and of the lockout. -/
theorem requestsChecked : Obligations.RequestsChecked := by
  unfold Obligations.RequestsChecked
  refine ⟨?device, ?meter, fun s => ⟨rfl, rfl⟩, fun s n hlive => ⟨?expiry, ?lockoutEnd⟩⟩
  case device =>
    intro s mb rest bm ck hs hmb hidle hring m header q op flags session dma c u open_ answers g late goes
    have h8 : (mb == 8) = false := beq_false_of_ne (by omega)
    have hu : frozen mb s = u := by simp [frozen, u, m, hring, setHif]
    have hboot : u.boot = s.boot := setMb_boot _ _ _
    have hgates : u.gates = s.gates := setMb_gates _ _ _
    obtain ⟨ms, hhif⟩ : ∃ ms, u.hif = { s.hif with mbs := ms, ringOrder := rest, dmaOut := [] } := setMb_hif _ _ _
    have hsessions : u.hif.sessions = s.hif.sessions := by rw [hhif]
    have htake {x : State} (h : takeMb mb bm ck s = x) : exec (.mbTake false bm ck) s = .next x :=
      congrArg Host.Outcome.next ((mbTake_oldest bm ck hs hidle hring).trans h)
    have refuses {st w} (hst : st ≠ stOk) (h : requestChecks mb bm ck q u = (st, w)) : answers st w :=
      htake (takeMb_refused hst (by rw [hu]; exact h))
    have begins {w} (h : requestChecks mb bm ck q u = (stOk, w)) : goes w := htake (takeMb_begun (by rw [hu]; exact h))
    have htail {w : State} (hb : w.boot = s.boot) (hg : w.gates = s.gates) : tailChecks false bm q w = late := by
      rw [tailChecks_device, hb, hg]
    have hopen : sessionOpen false q u = open_ := by
      rw [sessionOpen, hsessions]
      rfl
    refine ⟨fun hlong => refuses (by decide) (requestChecks_head h8 (headChecks_long hlong)),
      fun hlen hres => refuses (by decide) (requestChecks_head h8 (headChecks_reserved hlen hres)),
      fun hlen hflags hzero => ⟨fun hop => ?meterOpcode, fun hop hnone => ?unlisted, fun role hop hrole => ?listed⟩⟩
    case meterOpcode =>
      have hwrong : (u16 q.header 0 / 256 == 0x0C) ≠ false := fun h => ne_of_beq_false h hop
      exact refuses (by decide) (requestChecks_head h8 (headChecks_wrongMailbox hlen hflags hzero hwrong))
    case unlisted =>
      exact refuses (by decide) (requestChecks_head h8 (headChecks_unlisted hlen hflags hzero (beq_false_of_ne hop) hnone))
    have passes (ho : open_ = true) (ha : role = 0 → nbit flags 2 = false) : headChecks false q u = .ok role :=
      headChecks_ok hlen hflags hzero (beq_false_of_ne hop) hrole (hopen.trans ho) ha
    refine ⟨fun ho => ?closed, fun ho hr ha => ?signedOperator, fun ho hr ha hlate => ?late, fun ho hr ha hlate => ?begun,
      fun ho hr ha => ?unsigned, fun ho hr ha => ?signed⟩
    case closed =>
      exact refuses (by decide) (requestChecks_head h8
        (headChecks_closed hlen hflags hzero (beq_false_of_ne hop) hrole (hopen.trans ho)))
    case signedOperator =>
      exact refuses (by decide) (requestChecks_head h8
        (headChecks_signedOperator hlen hflags hzero (beq_false_of_ne hop) hrole (hopen.trans ho) hr ha))
    case late =>
      have h := requestChecks_operator (bm := bm) (ck := ck) h8 (hr ▸ passes ho fun _ => ha)
      rw [htail hboot hgates] at h
      exact refuses hlate h
    case begun =>
      have h := requestChecks_operator (bm := bm) (ck := ck) h8 (hr ▸ passes ho fun _ => ha)
      rw [htail hboot hgates, hlate] at h
      exact begins h
    case unsigned =>
      exact refuses (by decide) (requestChecks_unsigned h8 (passes ho fun h => absurd h hr) hr ha)
    case signed =>
      have hok := passes ho fun h => absurd h hr
      intro v nonce
      have hlock : u.hif.lockout = s.hif.lockout := by rw [hhif]
      have hauth : authOk false op q (nonceOf session u) ck u = authOk false op q nonce ck s := by
        rw [authOk_boot hboot, nonceOf, hsessions]
      -- Named, so that no tactic evaluates the signature's verification.
      generalize authOk false op q nonce ck s = verified at hauth ⊢
      refine ⟨fun hl => ?locked, fun hl => ?judged⟩
      case locked =>
        exact refuses (by decide) (requestChecks_locked h8 hok hr ha (hlock.trans hl))
      cases verified with
      | true =>
        have h := requestChecks_verified (bm := bm) h8 hok hr ha (hlock.trans hl) hauth
        rw [htail (w := runEnded (nonceConsumed session u)) hboot hgates] at h
        rw [if_pos rfl]
        by_cases hlate : late = stOk
        · rw [if_pos hlate]
          rw [hlate] at h
          exact begins h
        · rw [if_neg hlate]
          exact refuses hlate h
      | false =>
        have h := requestChecks_failed (bm := bm) h8 hok hr ha (hlock.trans hl) hauth
        have hcount := authFailed_counts session op mb (s := nonceConsumed session u) (hlock.trans hl)
        have hfails : u.hif.authFailCnt = s.hif.authFailCnt := by rw [hhif]
        have hrun : u.hif.authRun = s.hif.authRun := by rw [hhif]
        rw [if_neg Bool.false_ne_true, ← hfails, ← hrun]
        exact ⟨_, refuses (by decide) h, hcount⟩
  case meter =>
    intro s bm ck halive hposted header q op c hlen hflags hzero
    have htake {x : State} (h : takeMb 8 bm ck s = x) : exec (.mbTake true bm ck) s = .next x :=
      congrArg Host.Outcome.next ((mbTake_meter bm ck halive hposted).trans h)
    refine ⟨frozen 8 s, rfl, fun hop => ?foreign, fun hrole hop hsession hauth hdma => ?begun⟩
    case foreign =>
      have hwrong : (u16 q.header 0 / 256 == 0x0C) ≠ true := fun h => hop (eq_of_beq h)
      exact htake (takeMb_refused (by decide) (requestChecks_head rfl (headChecks_wrongMailbox hlen hflags hzero hwrong)))
    case begun =>
      have hopen : sessionOpen true q (frozen 8 s) = true := beq_iff_eq.mpr hsession
      have hhead : headChecks true q (frozen 8 s) = .ok 0 :=
        headChecks_ok hlen hflags hzero (beq_iff_eq.mpr hop) hrole hopen fun _ => hauth
      have htail : tailChecks true bm q (frozen 8 s) = stOk := tailChecks_meter hdma
      have h := requestChecks_operator (mb := 8) (meter := true) (bm := bm) (ck := ck) rfl hhead
      rw [htail] at h
      exact htake (takeMb_begun h)
  case expiry =>
    intro hn
    have h0 : (n == 0) = false := beq_false_of_ne hn
    have h : nonceExpiry n s = nonceConsumed n s := by simp [nonceExpiry, h0, hlive, nonceTake_device]
    exact congrArg Host.Outcome.next h
  case lockoutEnd =>
    exact congrArg Host.Outcome.next (by simp [authLockoutEnd, hlive, setHif])

end Sys2Proof.Machine
end

section
/-! PROOF. What the end of a frame, of a head or of an idle time leaves as it is, whichever operation brings it: the knobs, the
clock, the gates, and each unit's state and faults. -/
namespace Sys2Proof.Machine

/-! ### What no frame's end changes -/

/-- A unit keeps its state, the state it remembers, its faults and their count, and gains no hold cell. -/
structure SUnit.Holds (x y : SUnit) : Prop where
  st : y.st = x.st
  prior : y.prior = x.prior
  faults : y.faults = x.faults
  faultCnt : y.faultCnt = x.faultCnt
  cells : y.cells ≤ x.cells

/-- The knobs, the time-sync unit and the gates stay, and every unit holds its state. -/
structure Steady (s t : State) : Prop where
  profile : t.profile = s.profile
  tsu : t.tsu = s.tsu
  gates : t.gates = s.gates
  unit : ∀ v, (unitOf s v).Holds (unitOf t v)

theorem SUnit.Holds.refl (x : SUnit) : x.Holds x := ⟨rfl, rfl, rfl, rfl, Nat.le_refl _⟩

theorem SUnit.Holds.trans {x y z : SUnit} (h : x.Holds y) (k : y.Holds z) : x.Holds z :=
  ⟨k.st.trans h.st, k.prior.trans h.prior, k.faults.trans h.faults, k.faultCnt.trans h.faultCnt,
    Nat.le_trans k.cells h.cells⟩

theorem Steady.refl (s : State) : Steady s s := ⟨rfl, rfl, rfl, fun _ => .refl _⟩

/-- A unit after a change of one unit. -/
theorem unitOf_setUnit (u v : Nat) (f : SUnit → SUnit) (s : State) :
    unitOf (setUnit u f s) v = if v = u then f (unitOf s u) else unitOf s v := tget_tmod _ _ _ _ _

@[simp] theorem unitOf_setUnit_same (u : Nat) (f : SUnit → SUnit) (s : State) : unitOf (setUnit u f s) u = f (unitOf s u) := by
  rw [unitOf_setUnit, if_pos rfl]

theorem unitOf_setUnit_other {u v : Nat} (f : SUnit → SUnit) (s : State) (h : v ≠ u) : unitOf (setUnit u f s) v = unitOf s v := by
  rw [unitOf_setUnit, if_neg h]

/-- A change of the groups leaves the units as they are. -/
theorem setGroup_frame (g : Nat) (f : Group → Group) (s : State) :
    ∃ e d, setGroup g f s = { s with slices := { s.slices with enc := e, dec := d } } := by
  unfold setGroup; split <;> exact ⟨_, _, rfl⟩

section
variable {s t : State}

/-- What writes neither the knobs, nor the clock, nor the gates, nor a unit is steady. -/
theorem Steady.of_eq (h : Steady s t) {w : State} (hp : w.profile = t.profile) (ht : w.tsu = t.tsu) (hg : w.gates = t.gates)
    (hu : w.slices.units = t.slices.units) : Steady s w :=
  ⟨hp.trans h.profile, ht.trans h.tsu, hg.trans h.gates, fun v => by
    have e : unitOf w v = unitOf t v := by rw [unitOf, hu, unitOf]
    rw [e]; exact h.unit v⟩

theorem Steady.setUnit (h : Steady s t) (u : Nat) {f : SUnit → SUnit} (hf : ∀ x : SUnit, x.Holds (f x)) :
    Steady s (setUnit u f t) :=
  ⟨h.profile, h.tsu, h.gates, fun v => by
    by_cases hv : v = u
    · subst hv; rw [unitOf_setUnit_same]; exact (h.unit v).trans (hf _)
    · rw [unitOf_setUnit_other _ _ hv]; exact h.unit v⟩

/-- A run over a list is steady where each of its steps is. -/
theorem Steady.foldl {α : Type} {f : State → α → State} (hf : ∀ {w a}, Steady s w → Steady s (f w a)) (h : Steady s t)
    (l : List α) : Steady s (l.foldl f t) :=
  List.foldlRecOn l f h fun _ hw _ _ => hf hw

theorem Steady.ite {c : Prop} [Decidable c] {w : State} (h : Steady s t) (k : Steady s w) : Steady s (if c then t else w) := by
  split
  · exact h
  · exact k

theorem Steady.evH (h : Steady s t) (code : Nat) (ps : Bytes) : Steady s (evH code ps t) := by
  rw [evH_frame]; exact h.of_eq rfl rfl rfl rfl

theorem Steady.setGroup (h : Steady s t) (g : Nat) (f : Group → Group) : Steady s (setGroup g f t) := by
  obtain ⟨_, _, e⟩ := setGroup_frame g f t
  rw [e]; exact h.of_eq rfl rfl rfl rfl

theorem Steady.setFrame (h : Steady s t) (id : Nat) (f : Option Frame) : Steady s (setFrame id f t) := h.of_eq rfl rfl rfl rfl

theorem Steady.modFrame (h : Steady s t) (id : Nat) (g : Frame → Frame) : Steady s (modFrame id g t) := by
  unfold Machine.modFrame
  split
  · exact h
  · exact h.setFrame _ _

theorem Steady.setTm (h : Steady s t) (side : Nat) (f : Tm → Tm) : Steady s (setTm side f t) := h.of_eq rfl rfl rfl rfl

theorem Steady.cntPort (h : Steady s t) (p : Nat) (f : PortCnt → PortCnt) : Steady s (cntPort p f t) := h.of_eq rfl rfl rfl rfl

theorem Steady.slotRelease (h : Steady s t) (b : Option (Nat × BitVec 8)) : Steady s (slotRelease b t) := by
  unfold Machine.slotRelease
  split
  · exact h
  · exact .ite (h.of_eq rfl rfl rfl rfl) h

/-! #### Units: their masks, their words, their hold cells -/

/-- A reseed writes of its unit the masks alone (R124). -/
theorem unitReseed_masks (x : SUnit) (k : BitVec 256) : x.Holds { x with
    maskKey := k, maskPos := 0, maskSet := none, reseedDue := false, repeated := false, seeded := true } :=
  ⟨rfl, rfl, rfl, rfl, Nat.le_refl _⟩

theorem Steady.unitReseed (h : Steady s t) (u : Nat) : Steady s (unitReseed u t) := by
  have hd : Steady s (drawDrbg t).2 := h.of_eq rfl rfl rfl rfl
  have hm := hd.setUnit u fun x => unitReseed_masks x (drawDrbg t).1
  exact .ite (hm.of_eq rfl rfl rfl rfl) hm

theorem Steady.unitBoundary (h : Steady s t) (u : Nat) : Steady s (unitBoundary u t) := .ite (h.unitReseed u) h

theorem Steady.unitsFree (h : Steady s t) (id : Nat) : Steady s (unitsFree id t) := by
  refine .foldl (fun {w u} hw => ?_) h _
  have hb := (hw.setUnit u (f := fun x => { x with frame := none }) fun x => ⟨rfl, rfl, rfl, rfl, Nat.le_refl _⟩).unitBoundary u
  exact .ite (hb.of_eq rfl rfl rfl rfl) (hb.of_eq rfl rfl rfl rfl)

theorem Steady.slotWords (h : Steady s t) (f : Frame) (intact : Bool) : Steady s (slotWords f intact t) := by
  unfold Machine.slotWords
  split
  · exact h
  · have hx : ∀ (c : SUnit → Tab W64) (x : SUnit), x.Holds { x with slotCnt := c x } :=
      fun _ _ => ⟨rfl, rfl, rfl, rfl, Nat.le_refl _⟩
    exact .ite h (.ite ((h.setUnit _ (hx _)).setUnit _ (hx _)) (h.setUnit _ (hx _)))

theorem Steady.sliceOctets (h : Steady s t) (f : Frame) (n : Nat) : Steady s (sliceOctets f n t) := by
  unfold Machine.sliceOctets
  split
  · exact h
  · have hx : ∀ (c : SUnit → W64) (x : SUnit), x.Holds { x with octets := c x } :=
      fun _ _ => ⟨rfl, rfl, rfl, rfl, Nat.le_refl _⟩
    exact .ite ((h.setUnit _ (hx _)).setUnit _ (hx _)) (h.setUnit _ (hx _))

theorem Steady.holdFree (h : Steady s t) (f : Frame) : Steady s (holdFree f t) := by
  unfold Machine.holdFree
  split
  · exact h
  · have hx : ∀ x : SUnit, x.Holds { x with cells := x.cells - f.holdCells } := fun _ => ⟨rfl, rfl, rfl, rfl, Nat.sub_le _ _⟩
    exact .ite h (.ite ((h.setUnit _ hx).setUnit _ hx) (h.setUnit _ hx))

theorem Steady.cntAbort (h : Steady s t) (unit : Option Nat) (g : Nat) : Steady s (cntAbort unit g t) := by
  unfold Machine.cntAbort
  split
  · exact h.setUnit _ fun x => ⟨rfl, rfl, rfl, rfl, Nat.le_refl _⟩
  · exact h.setGroup _ _

theorem Steady.sliceLeave (h : Steady s t) (id : Nat) : Steady s (sliceLeave id t) := by
  unfold Machine.sliceLeave
  split
  · exact h
  · exact .ite h (((h.holdFree _).slotWords _ _).setFrame _ _)

theorem Steady.holdSettle (h : Steady s t) : Steady s (holdSettle t) := by
  refine .foldl (fun {w id} hw => ?_) h _
  unfold holdSettleOne
  split
  · exact hw
  · split
    · exact hw
    · exact .ite (hw.sliceLeave _) ((hw.holdFree _).setFrame _ _)

/-! #### The completion buffer -/

theorem Steady.unstall (h : Steady s t) (id : Nat) : Steady s (unstall id t) := by
  unfold Machine.unstall
  split
  · exact h
  · refine .ite h ?_
    have hl : ∀ f c, Steady s (if c = true then Machine.sliceLeave id (Machine.setFrame id f t) else Machine.setFrame id f t) :=
      fun f c => .ite ((h.setFrame id f).sliceLeave id) (h.setFrame id f)
    exact .ite ((hl _ _).unitsFree _) (hl _ _)

theorem Steady.stallEnter (h : Steady s t) (g id : Nat) : Steady s (stallEnter g id t) := by
  unfold Machine.stallEnter
  split
  · exact h
  · exact .ite (((h.unstall _).modFrame _ _).modFrame _ _) h

theorem Steady.stallDrain (h : Steady s t) (g : Nat) : Steady s (stallDrain g t) :=
  .foldl (fun hw => hw.stallEnter g _) h _

/-! #### The end of a frame -/

theorem Steady.headDiscard (h : Steady s t) (f : Frame) : Steady s (headDiscard f t) := h.of_eq rfl rfl rfl rfl

theorem Steady.bindLapse (h : Steady s t) (sch : Option Nat) : Steady s (bindLapse sch t) := by
  unfold Machine.bindLapse
  split
  · exact h
  · exact .ite (h.setTm _ _) h

theorem Steady.sharedEvents (h : Steady s t) (side : Nat) : Steady s (sharedEvents side t) :=
  .ite ((h.setTm _ _).evH _ _) (.ite ((h.setTm _ _).evH _ _) h)

theorem Steady.tmRemove (h : Steady s t) (id : Nat) : Steady s (tmRemove id t) := by
  unfold Machine.tmRemove
  split
  · exact h
  · split
    · exact h
    · exact ((((h.setTm _ _).setTm _ _).setFrame _ _).bindLapse _).sharedEvents _

theorem Steady.tmCut (h : Steady s t) (id n : Nat) : Steady s (tmCut id n t) := by
  unfold Machine.tmCut
  split
  · exact h
  · split
    · exact h
    · exact .ite h (((h.setTm _ _).setFrame _ _).sharedEvents _)

theorem Steady.groupDrops (h : Steady s t) (id : Nat) :
    Steady s { t with slices := { t.slices with enc := groupDrop id t.slices.enc, dec := groupDrop id t.slices.dec } } :=
  h.of_eq rfl rfl rfl rfl

theorem Steady.remove (h : Steady s t) (id : Nat) : Steady s (remove id t) := by
  unfold Machine.remove
  split
  · exact h
  · have hq : Steady s (kwbRemove id (Machine.tmRemove id t)) := (h.tmRemove id).of_eq rfl rfl rfl rfl
    exact (((((((hq.unitsFree _).holdFree _).headDiscard _).groupDrops _).slotRelease _).slotRelease _).setFrame _ _)

theorem Steady.discard (h : Steady s t) (id : Nat) : Steady s (discard id t) := by
  unfold Machine.discard
  split
  · exact h
  · split
    · exact (h.remove _).stallDrain _
    · exact h.remove _

theorem Steady.cutFrame (h : Steady s t) (id : Nat) : Steady s (cutFrame id t) := by
  unfold Machine.cutFrame
  split
  · exact h
  · exact .ite ((h.tmRemove _).modFrame _ _) ((Steady.ite (h.sliceLeave _) h).discard _)

theorem Steady.endFrame (h : Steady s t) (id cause : Nat) : Steady s (endFrame id cause t) := by
  unfold Machine.endFrame
  split
  · exact h
  · have hs := fun f : Frame => ((((h.unitsFree id).holdFree f).slotRelease f.txSlot).slotRelease f.rxSlot).groupDrops id
    have hc := fun f g => ((hs f).setFrame id g).tmCut id
    exact .ite (.ite h (.ite ((hc _ _ _).cntPort _ _) (hc _ _ _))) (h.discard _)

theorem Steady.sliceSpoil (h : Steady s t) (id : Nat) (counted : Bool) : Steady s (sliceSpoil id counted t) := by
  unfold Machine.sliceSpoil
  split
  · exact h
  · split
    · exact h
    · exact ((Steady.ite h (h.sliceOctets _ _)).slotWords _ _).setFrame _ _

theorem Steady.abortFrame (h : Steady s t) (id : Nat) (unit : Option Nat) : Steady s (abortFrame id unit t) := by
  unfold Machine.abortFrame
  split
  · exact h
  · refine .ite ((h.sliceSpoil _ _).remove _) ?_
    split
    · exact ((h.sliceSpoil _ _).cntAbort _ _).endFrame _ _
    · exact ((h.sliceSpoil _ _).cntAbort _ _).remove _

theorem Steady.pairsCheck (h : Steady s t) (g : Nat) : Steady s (pairsCheck g t) :=
  .ite (.foldl (fun hw => (hw.cntAbort _ _).discard _) h _) h

/-! #### The hot set and its heads -/

theorem Steady.headsLapse (h : Steady s t) (sah : Nat) : Steady s (headsLapse sah t) := by
  refine .foldl (fun {w id} hw => ?_) h _
  split
  · exact (hw.headDiscard _).setFrame _ _
  · exact hw

theorem Steady.setHot (h : Steady s t) (i : Nat) (x : Option Hot) : Steady s (setHot i x t) := h.of_eq rfl rfl rfl rfl

theorem Steady.discardHeads (h : Steady s t) (x : Hot) : Steady s (discardHeads x t) := h.of_eq rfl rfl rfl rfl

theorem Steady.hotVacate (h : Steady s t) (i : Nat) : Steady s (hotVacate i t) := by
  unfold Machine.hotVacate
  split
  · exact h
  · have hv := fun x => ((h.discardHeads x).setHot i none).headsLapse x.sah
    dsimp only
    split
    · exact hv _
    · exact (hv _).of_eq rfl rfl rfl rfl

theorem Steady.hotClear (h : Steady s t) : Steady s (hotClear t) := .foldl (fun hw => hw.hotVacate _) h _

theorem Steady.engineDiscard (h : Steady s t) (eng : Nat) : Steady s (engineDiscard eng t) := by
  refine .foldl (fun {w i} hw => ?_) h _
  split
  · exact .ite (((hw.discardHeads _).setHot _ _).headsLapse _) hw
  · exact hw

/-! #### Clock gating -/

theorem Steady.setGated (h : Steady s t) (u : Nat) (g : Bool) : Steady s (Machine.setUnit u (fun x => { x with gated := g }) t) :=
  h.setUnit u fun _ => ⟨rfl, rfl, rfl, rfl, Nat.le_refl _⟩

theorem Steady.gatingKeep (h : Steady s t) (g : Nat) : Steady s (gatingKeep g t) :=
  .foldl (fun {_ u} hw => .ite (hw.setGated u false) hw) h _

theorem Steady.gatingApply (h : Steady s t) : Steady s (gatingApply t) :=
  .ite (.foldl (fun {_ u} hw => hw.setGated u false) h _) ((h.gatingKeep 0).gatingKeep 1)

end

end Sys2Proof.Machine
end

section
/-! PROOF. The values at reset (O2), the knobs' commands and the reads of the slices (O19, O21). -/
namespace Sys2Proof.Machine

/-! ### The knobs (R19 to R24; O19) -/

/-- A taken command whose body ends with a reply answers it. -/
theorem fcp_done {op mb : Nat} {body : Cmd → State → Res} {s t : State} {c : Cmd} {r : Reply} (h : Taken op mb s c)
    (hb : body c s = .done r t) : fcp op mb body s = finish c r t := by
  rw [fcp_taken h, hb, settle]

/-- What makes a request of DEV_PROFILE_SET malformed: an unknown profile, a knob out of range, an unused byte, or a profile of 0xFF
without a knob (R23). -/
def ProfileMalformed (b : Bytes) : Prop :=
  (2 < u8 b 0 ∧ u8 b 0 ≠ 0xFF) ∨ (1 < u8 b 4 ∨ 1 < u8 b 5 ∨ 1 < u8 b 6 ∨ 2 < u8 b 7 ∨ 2 < u8 b 8) ∨
    (zeros b 1 1 = false ∨ zeros b 9 3 = false ∨ 32 ≤ u16 b 2 ∨ ∃ i, i < 5 ∧ nbit (u16 b 2) i = false ∧ u8 b (4 + i) ≠ 0) ∨
    (u8 b 0 = 0xFF ∧ u16 b 2 = 0)

/-- The bytes of the knobs that the mask leaves out are 0. -/
theorem profileUnused_iff (b : Bytes) : (List.range 5).all (fun i => nbit (u16 b 2) i || u8 b (4 + i) == 0) = true ↔
    ¬ ∃ i, i < 5 ∧ nbit (u16 b 2) i = false ∧ u8 b (4 + i) ≠ 0 := by
  simp only [List.all_eq_true, List.mem_range, Bool.or_eq_true, beq_iff_eq, not_exists, not_and, ne_eq, Classical.not_not]
  refine forall₂_congr fun i _ => ?_
  cases nbit (u16 b 2) i <;> simp

/-- A request of 12 bytes is well formed where nothing makes it malformed. -/
theorem profileOk_iff {b : Bytes} (h : b.length = 12) : profileOk b = true ↔ ¬ ProfileMalformed b := by
  simp only [profileOk, ProfileMalformed, Bool.and_eq_true, profileUnused_iff, h, BEq.rfl, Bool.or_eq_true, decide_eq_true_eq,
    beq_iff_eq, Bool.not_eq_true', Bool.and_eq_false_iff, beq_eq_false_iff_ne, ← Bool.not_eq_true (zeros _ _ _), true_and]
  grind

/-- A commit of knobs writes them: at their effect points the state keeps the profile. -/
theorem profileCommit_profile (p : Profile) (s : State) : (profileCommit p s).profile = p := by
  have h0 : Steady { s with profile := p } { s with profile := p } := .refl _
  have hc : Steady { s with profile := p }
      (if p.preroll then { s with profile := p } else hotClear { s with profile := p }) := .ite h0 h0.hotClear
  exact ((hc.sharedEvents 0).sharedEvents 1).gatingApply.profile

/-- Settles O19: the request's checks are R23's, and every effect point of a commit leaves the knobs as it wrote them. -/
theorem profileSetAnswers : Obligations.ProfileSetAnswers := by
  unfold Obligations.ProfileSetAnswers
  intro s mb c htaken
  refine ⟨fun hbad => ?state, fun hlc hlen => ?request⟩
  case state =>
    exact congrArg Host.Outcome.next (fcp_done htaken (by simp [devProfileSet, hbad, fail]))
  case request =>
    intro p m unknown range unused empty named q
    have hok : profileOk p = true ↔ ¬ (unknown ∨ range ∨ unused ∨ empty) := profileOk_iff hlen
    refine ⟨fun hmal => ?malformed, fun hwell => ?wellFormed⟩
    case malformed =>
      have h : profileOk c.payload = false := Bool.eq_false_iff.mpr fun h => hok.mp h hmal
      exact congrArg Host.Outcome.next (fcp_done htaken (by simp [devProfileSet, hlc, h, fail]))
    case wellFormed =>
      have h : profileOk c.payload = true := hok.mpr hwell
      refine ⟨profileCommit q s, profileCommit_profile q s, congrArg Host.Outcome.next (fcp_done htaken ?_)⟩
      have hq : profileOverride c.payload (profileOf s.profile (u8 c.payload 0)) = q := rfl
      simp [devProfileSet, hlc, h, hq, okWith, profileCommit_profile]

/-! ### Reads of the knobs and of the slices (R139, R141; O21) -/

/-- Settles O21: both commands read the tables' fields and change nothing. -/
theorem profileAndSliceReads : Obligations.ProfileAndSliceReads := by
  unfold Obligations.ProfileAndSliceReads
  refine ⟨fun s mb c htaken hempty => ?profile, fun s mb g c htaken hlc hg hpayload => ?slices⟩
  case profile =>
    exact congrArg Host.Outcome.next (fcp_done htaken (by simp [devProfileGet, hempty, okWith]))
  case slices =>
    have hbyte : u8 c.payload 0 = g := by
      rw [hpayload]; simp [u8, le]; omega
    have hok : (c.payload.length != 4 || decide (1 < g) || !zeros c.payload 1 3) = false := by
      have h1 : ¬ 1 < g := by omega
      rw [hpayload]
      simp [h1, le, zb, zeros, sub]
    refine congrArg Host.Outcome.next (fcp_done htaken ?_)
    simp only [devSliceStatsGet, hlc, hok, hbyte, okWith, groupUnits, List.flatMap_map, Bool.false_eq_true, if_false]
    by_cases h0 : g = 0
    · simp [h0]
    · simp [h0]

/-! ### The values at reset (O2) -/

/-- Every table of the device at reset is empty, so each has its canonical form. -/
theorem canonical_reset : Canonical State.reset := by
  constructor <;> exact trivial

/-- Both classifiers are at their reset values. -/
theorem clsOf_reset (side : Nat) : clsOf State.reset side = .reset := by
  unfold clsOf Two.get; split <;> rfl

/-- Every mailbox of the device is at its reset value. -/
theorem getMb_reset (mb : Nat) : getMb State.reset mb = .reset := by
  unfold getMb; split <;> rfl

/-- The invariant holds at reset: the tables are canonical, and every bounded queue is empty. -/
theorem inv_reset : Inv State.reset where
  tables := canonical_reset
  ring := Nat.zero_le _
  backlog := Nat.zero_le _
  staging side := by rw [clsOf_reset]; exact Nat.zero_le _
  learnQ side := by rw [clsOf_reset]; exact Nat.zero_le _
  timestamps := Nat.zero_le _
  hwFifo := Nat.zero_le _
  fwQueue := Nat.zero_le _
  overrides := Nat.zero_le _
  sessions := Nat.zero_le _
  evidence := Nat.zero_le _

/-- Settles O2: the reset state is written out in the model, and each clause reads it. -/
theorem resetLeavesSpecValues : Obligations.ResetLeavesSpecValues := by
  unfold Obligations.ResetLeavesSpecValues
  refine ⟨?knobs, fun p => ⟨rfl, rfl, rfl⟩, ?mailboxes, ?host, ?recorder, rfl, ?protection, ?measurements,
    fun k n => ⟨rfl, rfl, rfl⟩, ⟨rfl, rfl⟩, rfl, rfl, inv_reset⟩
  case knobs => exact ⟨rfl, rfl, rfl, rfl, rfl⟩
  case mailboxes =>
    intro mb _
    rw [getMb_reset]
    exact ⟨rfl, rfl, rfl, rfl, rfl, rfl⟩
  case host => exact ⟨rfl, rfl, rfl, rfl, rfl, rfl, rfl, rfl, rfl, rfl, rfl, rfl, rfl, rfl, rfl⟩
  case recorder =>
    have hcursor : ∀ c ∈ [Cursor.reset, Cursor.reset, Cursor.reset], c.seq = 1 ∧ c.lost = false ∧ c.lostCnt = 0 := by decide
    exact ⟨rfl, rfl, rfl, rfl, hcursor⟩
  case protection => exact ⟨rfl, rfl, rfl, rfl, rfl, fun m => rfl⟩
  case measurements => exact fun i _ => rfl

end Sys2Proof.Machine
end

section
/-! PROOF. The units of Table 5-6: faults, reseeds, the return to service, clock gating (O22). -/
namespace Sys2Proof.Machine

/-! ### Slices and engines (Table 5-6; O22) -/

/-- A hardware event leaves the units as they are. -/
@[simp] theorem unitOf_evH (code : Nat) (ps : Bytes) (s : State) (v : Nat) : unitOf (evH code ps s) v = unitOf s v := by
  rw [evH_frame]; rfl

/-- A slice that becomes free leaves the units as they are. -/
@[simp] theorem unitOf_freeLast (u v : Nat) (s : State) : unitOf (freeLast u s) v = unitOf s v := by
  obtain ⟨_, _, e⟩ := setGroup_frame (u / 8) (fun g => { g with freeOrder := g.freeOrder.erase u ++ [u] }) s
  simp only [freeLast, e]; split <;> rfl

/-! #### Faults and their end (R134, R135) -/

/-- The frames in a unit and its hold buffer end, and an engine's heads are discarded (R134). -/
def faultEnds (u : Nat) (s : State) : State :=
  let t := (framesWith (holdSettle s) (unitHolds u)).foldl (fun t id => abortFrame id (some u) t) (holdSettle s)
  if 16 ≤ u then engineDiscard (u - 16) t else stallDrain (u / 8) t

/-- A unit at fault as it enters RESET, its faults of the last second given (R135). -/
def unitFails (faults : List W64) (x : SUnit) : SUnit :=
  { unitClear x with st := .reset, faultCnt := x.faultCnt + 1, faults := faults }

/-- The unit's state at its entry into RESET. -/
def faultEnters (u : Nat) (s : State) : State := setUnit u (unitFails (recentFaults s u ++ [s.tsu.ns])) s

/-- What follows: the reseed, the event, and the pair frames of a slice's group. -/
def faultFollows (u cause : Nat) (s : State) : State :=
  let t := evH 0x0201 (le 1 u ++ le 1 cause) (unitReseed u s)
  if u < 16 then pairsCheck (u / 8) t else t

theorem faultEnds_steady (u : Nat) (s : State) : Steady s (faultEnds u s) := by
  have h := Steady.foldl (f := fun t id => abortFrame id (some u) t) (fun hw => hw.abortFrame _ _) (Steady.refl s).holdSettle
    (framesWith (holdSettle s) (unitHolds u))
  exact .ite (h.engineDiscard _) (h.stallDrain _)

theorem faultFollows_steady (u cause : Nat) (s : State) : Steady s (faultFollows u cause s) :=
  have h := ((Steady.refl s).unitReseed u).evH 0x0201 (le 1 u ++ le 1 cause)
  .ite (h.pairsCheck _) h

section
variable {s t : State} {u cause : Nat}

/-- A steady run leaves the faults of the last second as they are. -/
theorem Steady.recentFaults (h : Steady s t) (u : Nat) : recentFaults t u = recentFaults s u := by
  rw [Machine.recentFaults, h.tsu, (h.unit u).faults, Machine.recentFaults]

theorem sliceFault_inService (hlive : live s = true) (hu : u < 24) (h1 : 1 ≤ cause) (h4 : cause ≤ 4)
    (hst : (unitOf s u).st = .inService) :
    sliceFault u cause s = faultFollows u cause (faultEnters u (faultEnds u s)) := by
  have h0 : cause ≠ 0 := by omega
  have hgo : (!live s || decide (24 ≤ u) || cause == 0 || decide (4 < cause) || !inService s u) = false := by
    simp [hlive, hu, h0, h4, inService, hst]
  simp only [sliceFault, hgo]
  rfl

/-- The unit in RESET, with its fault counted. -/
theorem sliceFault_unit (hlive : live s = true) (hu : u < 24) (h1 : 1 ≤ cause) (h4 : cause ≤ 4)
    (hst : (unitOf s u).st = .inService) :
    (unitFails (recentFaults s u ++ [s.tsu.ns]) (unitOf (faultEnds u s) u)).Holds (unitOf (sliceFault u cause s) u) := by
  have hends := faultEnds_steady u s
  have henters : unitOf (faultEnters u (faultEnds u s)) u =
      unitFails (recentFaults s u ++ [s.tsu.ns]) (unitOf (faultEnds u s) u) := by
    rw [faultEnters, unitOf_setUnit_same, hends.recentFaults, hends.tsu]
  rw [sliceFault_inService hlive hu h1 h4 hst, ← henters]
  exact (faultFollows_steady u cause _).unit u

/-- No other unit changes its state. -/
theorem sliceFault_other (hlive : live s = true) (hu : u < 24) (h1 : 1 ≤ cause) (h4 : cause ≤ 4)
    (hst : (unitOf s u).st = .inService) {v : Nat} (hv : v ≠ u) : (unitOf (sliceFault u cause s) v).st = (unitOf s v).st := by
  have h := (faultFollows_steady u cause (faultEnters u (faultEnds u s))).unit v
  rw [sliceFault_inService hlive hu h1 h4 hst, h.st, faultEnters, unitOf_setUnit_other _ _ hv]
  exact ((faultEnds_steady u s).unit v).st

/-- The end of a reset decides by the faults of the last second. -/
theorem unitResetEnd_st (hlive : live s = true) (hst : (unitOf s u).st = .reset) :
    (unitOf (unitResetEnd u s) u).st = if 3 ≤ (recentFaults s u).length then .quarantined else .inService := by
  simp only [unitResetEnd, hlive, hst]
  by_cases h3 : 3 ≤ (recentFaults s u).length
  · simp [h3]
  · cases (unitOf s u).restoring <;> simp [h3]

theorem unitResetEnd_other (hlive : live s = true) (hst : (unitOf s u).st = .reset) {v : Nat} (hv : v ≠ u) :
    unitOf (unitResetEnd u s) v = unitOf s v := by
  simp only [unitResetEnd, hlive, hst]
  by_cases h3 : 3 ≤ (recentFaults s u).length
  · simp [h3, unitOf_setUnit_other _ _ hv]
  · cases (unitOf s u).restoring <;> simp [h3, unitOf_setUnit_other _ _ hv]

/-! #### The reseed of a mask generator (R124) -/

/-- A unit that is not stopped reseeds where it is at a boundary, and else remembers that a reseed is due. -/
theorem maskReseed_due (hlive : live s = true) (hu : u < 24) (hst : (unitOf s u).st ≠ .stopped) :
    maskReseed u s =
      let due := setUnit u (fun x => { x with reseedDue := true }) s
      if (unitOf due u).frame.isSome || (decide (16 ≤ u) && engineMid due (u - 16)) then due else unitReseed u due := by
  have hgo : (!live s || decide (24 ≤ u) || (unitOf s u).st == .stopped) = false := by
    simp [hlive, hu, hst]
  simp [maskReseed, hgo, unitBoundary]

/-! #### SERVICE_RESUME (R126) -/

/-- A unit's return after an entropy condition, with its reseed. -/
def unitReturns (t : State) (u : Nat) : State := unitReseed u (unitResume u t)

/-- A stopped unit returns to the state it remembers. -/
theorem unitReturns_st (u : Nat) (s : State) : (unitOf (unitReturns s u) u).st =
    if (unitOf s u).st = .stopped then (unitOf s u).prior else (unitOf s u).st := by
  rw [unitReturns, (((Steady.refl _).unitReseed u).unit u).st]
  by_cases h : (unitOf s u).st = .stopped
  · cases hr : (unitOf s u).restoring <;> simp [unitResume, h, hr]
  · simp [unitResume, h]

/-- No other unit's state, nor the state it remembers, changes with it. -/
theorem unitReturns_other {v : Nat} (s : State) (hv : v ≠ u) :
    (unitOf (unitReturns s u) v).st = (unitOf s v).st ∧ (unitOf (unitReturns s u) v).prior = (unitOf s v).prior := by
  have h := ((Steady.refl (unitResume u s)).unitReseed u).unit v
  have e : unitOf (unitResume u s) v = unitOf s v := by
    by_cases h : (unitOf s u).st = .stopped
    · cases hr : (unitOf s u).restoring <;> simp [unitResume, h, hr, unitOf_setUnit_other _ _ hv]
    · simp [unitResume, h]
  rw [e] at h
  exact ⟨h.st, h.prior⟩

/-- After the return of a number of units, each of them has returned, and no other one. -/
theorem unitsReturn_st (n v : Nat) (s : State) : (unitOf ((List.range n).foldl unitReturns s) v).st =
      (if v < n ∧ (unitOf s v).st = .stopped then (unitOf s v).prior else (unitOf s v).st) ∧
    (n ≤ v → (unitOf ((List.range n).foldl unitReturns s) v).prior = (unitOf s v).prior) := by
  induction n with
  | zero => simp
  | succ n ih =>
    obtain ⟨hst, hprior⟩ := ih
    rw [List.range_succ, List.foldl_append, List.foldl_cons, List.foldl_nil]
    by_cases hv : v = n
    · subst hv
      refine ⟨?_, fun h => absurd h (Nat.not_succ_le_self v)⟩
      rw [unitReturns_st, hst, hprior (Nat.le_refl _)]
      simp only [Nat.lt_irrefl, Nat.lt_succ_self, false_and, true_and, if_false]
    · obtain ⟨ho, hp⟩ := unitReturns_other ((List.range n).foldl unitReturns s) hv
      have hlt : v < n + 1 ↔ v < n := by omega
      simp only [ho, hp, hst, hlt, true_and]
      exact fun h => hprior (by omega)

/-- The entropy condition ends (R126). -/
def entropyEnds (s : State) : State := { s with slices := { s.slices with entropyFail := false } }

@[simp] theorem unitOf_entropyEnds (s : State) (v : Nat) : unitOf (entropyEnds s) v = unitOf s v := rfl

theorem serviceResume_returns (hlive : live s = true) (hfail : s.slices.entropyFail = true)
    (hclear : s.tamper.latched.getLsbD 13 = false) :
    serviceResume s = evH 0x0205 [0xFF] (entropyEnds ((List.range 24).foldl unitReturns s)) := by
  have hgo : (!live s || !s.slices.entropyFail || s.tamper.latched.getLsbD 13) = false := by
    rw [hlive, hfail, hclear]; rfl
  have hf : unitReturns = fun t u => unitReseed u (unitResume u t) := rfl
  rw [serviceResume, hgo, if_neg Bool.false_ne_true, entropyEnds, hf]

/-! #### Clock gating (R20) -/

theorem gatingExpiry_gates (hlive : live s = true) (hu : u < 24) (hon : s.profile.gating ≠ 0) (hst : (unitOf s u).st = .inService)
    (hrun : (unitOf s u).gated = false) (hidle : (unitOf s u).frame = none)
    (hmin : u < 16 → keepUngated s < (ungated s (u / 8)).length) :
    gatingExpiry u s = setUnit u (fun x => { x with gated := true }) s := by
  have hkeep : (decide (u < 16) && decide ((ungated s (u / 8)).length ≤ keepUngated s)) = false := by
    simp only [Bool.and_eq_false_iff, decide_eq_false_iff_not]
    omega
  have hgo : (!live s || decide (24 ≤ u) || s.profile.gating == 0 || !inService s u || (unitOf s u).gated ||
      (unitOf s u).frame.isSome || (decide (u < 16) && decide ((ungated s (u / 8)).length ≤ keepUngated s))) = false := by
    rw [hkeep]; simp [hlive, hu, hon, inService, hst, hrun, hidle]
  simp only [gatingExpiry, hgo, Bool.false_eq_true, if_false]

end

/-- Settles O22, by the rules above for the fault, the end of a reset, the reseed, the return to service and the gating. -/
theorem unitsFollowTable : Obligations.UnitsFollowTable := by
  unfold Obligations.UnitsFollowTable
  refine ⟨?fault, ?resetEnd, ?reseed, ?resume, ?gating, ?decay, ?refill⟩
  case fault =>
    intro s u cause hlive hu h1 h4 hst
    have h := sliceFault_unit hlive hu h1 h4 hst
    have hcount := ((faultEnds_steady u s).unit u).faultCnt
    exact ⟨_, rfl, h.st, Nat.le_zero.mp h.cells, h.faultCnt.trans (congrArg (· + 1) hcount), h.faults,
      fun v hv => sliceFault_other hlive hu h1 h4 hst hv⟩
  case resetEnd =>
    intro s u hlive hst
    exact ⟨_, rfl, unitResetEnd_st hlive hst, fun v hv => unitResetEnd_other hlive hst hv⟩
  case reseed =>
    intro s u hlive hu hst due d t busy
    have h : maskReseed u s = if busy then due else unitReseed u due := maskReseed_due hlive hu hst
    refine ⟨fun hfree => congrArg Host.Outcome.next ?_, fun hbusy => congrArg Host.Outcome.next ?_⟩
    · rw [h, hfree]; rfl
    · rw [h, hbusy]; rfl
  case resume =>
    intro s hlive hfail hclear
    have h := serviceResume_returns hlive hfail hclear
    refine ⟨serviceResume s, rfl, by rw [h, evH_frame]; rfl, fun u hu => ?_⟩
    obtain ⟨hst, -⟩ := unitsReturn_st 24 u s
    rw [h, unitOf_evH, unitOf_entropyEnds, hst]
    simp [hu]
  case gating =>
    intro s u hlive hu hon hst hrun hidle hmin
    exact congrArg Host.Outcome.next (gatingExpiry_gates hlive hu hon hst hrun hidle hmin)
  case decay =>
    intro s hlive
    exact congrArg Host.Outcome.next (by simp [hotsetDecay, hlive])
  case refill =>
    intro s hlive hon hfail
    exact congrArg Host.Outcome.next (by simp [prerollRefill, hlive, hon, hfail])

end Sys2Proof.Machine
end

section
/-! PROOF. Pause, express slots and gate lists (O32). -/
namespace Sys2Proof.Machine

/-! ### The room check of a line port (R198; O32) -/

/-- What the room of a line port is judged by: its queue range, its headroom and its XON_GAP. -/
structure TmPort.SameRoom (x y : TmPort) : Prop where
  range : y.range = x.range
  headroom : y.headroom = x.headroom
  xonGap : y.xonGap = x.xonGap

/-- The room of every line port stays: the buffer split, the queues and what each port's room is judged by. -/
structure KeepsRoom (s t : State) : Prop where
  profile : t.profile = s.profile
  queues : (tmOf t 1).queues = (tmOf s 1).queues
  ports : ∀ k, (tget (TmPort.reset 1) (tmOf s 1).ports k).SameRoom (tget (TmPort.reset 1) (tmOf t 1).ports k)

theorem KeepsRoom.refl (s : State) : KeepsRoom s s := ⟨rfl, rfl, fun _ => ⟨rfl, rfl, rfl⟩⟩

/-- A side's traffic manager after a change of a side's. -/
theorem tmOf_setTm (a b : Nat) (f : Tm → Tm) (s : State) :
    tmOf (setTm a f s) b = if a = 0 ↔ b = 0 then f (tmOf s b) else tmOf s b := by
  by_cases ha : a = 0 <;> by_cases hb : b = 0 <;> simp [tmOf, setTm, Two.upd, Two.set, Two.get, ha, hb]

@[simp] theorem tmOf_evH (code : Nat) (ps : Bytes) (s : State) (side : Nat) : tmOf (evH code ps s) side = tmOf s side := by
  rw [evH_frame]; rfl

@[simp] theorem tmPort_evH (code : Nat) (ps : Bytes) (s : State) (p : Nat) : tmPort (evH code ps s) p = tmPort s p := by
  rw [tmPort, tmOf_evH]; rfl

theorem tmSide_zero_iff (p q : Nat) : (tmSide q = 0 ↔ tmSide p = 0) ↔ tmSide p = tmSide q := by
  unfold tmSide; split <;> split <;> simp

/-- A port's record after a change of a port's. -/
theorem tmPort_setTmPort (p q : Nat) (f : TmPort → TmPort) (s : State) :
    tmPort (setTmPort q f s) p = if tmSide p = tmSide q ∧ p % 32 = q % 32 then f (tmPort s p) else tmPort s p := by
  simp only [tmPort, setTmPort, tmOf_setTm, tmSide_zero_iff]
  by_cases hs : tmSide p = tmSide q
  · by_cases hk : p % 32 = q % 32
    · simp [hs, hk]
    · simp [hs, hk, tget_tmod]
  · simp [hs]

/-- A line port is told by its index. -/
theorem linePort_eq_iff {p q : Nat} (hp : 32 ≤ p ∧ p < 64) (hq : 32 ≤ q ∧ q < 64) :
    (tmSide p = tmSide q ∧ p % 32 = q % 32) ↔ p = q := by
  have h1 : ¬ p < 32 := by omega
  have h2 : ¬ q < 32 := by omega
  simp only [tmSide, h1, h2, if_false, true_and]
  omega

/-- Whether a line port is in XOFF after a check (R198). -/
def xoffNow (s : State) (p : Nat) : Bool :=
  if (tmPort s p).xoff then decide (portRoom s p < ((tmPort s p).headroom + (tmPort s p).xonGap) * 1024)
  else decide (portRoom s p < (tmPort s p).headroom * 1024)

section
variable {s t : State}

theorem KeepsRoom.setTmPort (h : KeepsRoom s t) (q : Nat) {f : TmPort → TmPort} (hf : ∀ x : TmPort, x.SameRoom (f x)) :
    KeepsRoom s (setTmPort q f t) := by
  have htm : tmOf (Machine.setTmPort q f t) 1 = if tmSide q = 0 then tmOf t 1 else { tmOf t 1 with
      ports := tmod (TmPort.reset (tmSide q)) (tmOf t 1).ports (q % 32) f } := by
    rw [Machine.setTmPort, tmOf_setTm]; by_cases h0 : tmSide q = 0 <;> simp [h0]
  refine ⟨h.profile, ?_, fun k => ?_⟩
  · rw [htm]; split <;> exact h.queues
  · have hk := h.ports k
    rw [htm]
    split
    · exact hk
    · rename_i h0
      have h1 : tmSide q = 1 := by unfold tmSide at h0 ⊢; split at h0 <;> simp_all
      simp only [h1, tget_tmod]
      split
      · rename_i e
        subst e
        have hx := hf (tget (TmPort.reset 1) (tmOf t 1).ports (q % 32))
        exact ⟨hx.range.trans hk.range, hx.headroom.trans hk.headroom, hx.xonGap.trans hk.xonGap⟩
      · exact hk

theorem KeepsRoom.evH (h : KeepsRoom s t) (code : Nat) (ps : Bytes) : KeepsRoom s (evH code ps t) := by
  rw [evH_frame]; exact ⟨h.profile, h.queues, h.ports⟩

theorem KeepsRoom.trans {w : State} (h : KeepsRoom s t) (k : KeepsRoom t w) : KeepsRoom s w :=
  ⟨k.profile.trans h.profile, k.queues.trans h.queues, fun i => ⟨(k.ports i).range.trans (h.ports i).range,
    (k.ports i).headroom.trans (h.ports i).headroom, (k.ports i).xonGap.trans (h.ports i).xonGap⟩⟩

/-- Where the queues and their ranges stay, every index holds the cells it held. -/
theorem KeepsRoom.held (h : KeepsRoom s t) (k : Nat) :
    rangeCells (tmOf t 1) (rangeOf (tmOf t 1) 1 k) = rangeCells (tmOf s 1) (rangeOf (tmOf s 1) 1 k) := by
  rw [rangeOf, (h.ports k).range, rangeCells, h.queues]; rfl

theorem KeepsRoom.portRoom (h : KeepsRoom s t) (p : Nat) : portRoom t p = portRoom s p := by
  have hshared : ∀ k, portShared t 1 k = portShared s 1 k := fun k => by
    simp only [portShared, h.held, tmReserve, h.profile]
  simp only [Machine.portRoom, h.held, hshared, sharedFree, tmReserve, tmPool, tmAlpha8, h.profile]

/-- A check judges a port by the same limits. -/
theorem KeepsRoom.xoffNow (h : KeepsRoom s t) {p : Nat} (hp : 32 ≤ p) (hx : (tmPort t p).xoff = (tmPort s p).xoff) :
    xoffNow t p = xoffNow s p := by
  have hside : tmSide p = 1 := by simp [tmSide]; omega
  have hr : (tmPort s p).SameRoom (tmPort t p) := by
    simp only [tmPort, hside]; exact h.ports _
  simp only [Machine.xoffNow, hx, hr.headroom, hr.xonGap, h.portRoom]

end

/-- A line port's record as a check at `now` writes it: its XOFF, its class XOFFs, and what follows of an entry (R198, R210). -/
def TmPort.checked (now : W64) (xoff : Bool) (cls : Nat) (y : TmPort) : TmPort :=
  { y with
    xoff := xoff, clsXoff := cls, stuck := y.stuck && xoff
    xoffSince := if xoff && !y.xoff then now else y.xoffSince
    xoffCnt := if xoff && !y.xoff then y.xoffCnt + 1 else y.xoffCnt }

/-- The part of a line port's check that concerns the port itself (R198, R210). -/
def roomSet (s : State) (p : Nat) : State :=
  let x := tmPort s p
  let cls := classXoffs s p (xoffNow s p)
  if xoffNow s p == x.xoff && cls == x.clsXoff then s
  else
    let t := setTmPort p (.checked s.tsu.ns (xoffNow s p) cls) s
    if x.stuck && !xoffNow s p then evH 0x5004 (le 1 p ++ le 4 ((s.tsu.ns - x.xoffSince).toNat / 1000000)) t else t

/-- The part that concerns its peer: a pause frame becomes due where what it pauses has changed (R199, R200). -/
def peerPauseDue (s : State) (p : Nat) : State :=
  match pairOf s p with
  | some h => if pauseWant s h != (tmPort s h).pauseSent then setTmPort h (fun y => { y with pauseDue := true }) s else s
  | none => s

theorem roomCheck_eq (s : State) (p : Nat) : roomCheck s p = peerPauseDue (roomSet s p) p := rfl

theorem roomSet_keepsRoom (s : State) (p : Nat) : KeepsRoom s (roomSet s p) := by
  have h := (KeepsRoom.refl s).setTmPort p (f := .checked s.tsu.ns (xoffNow s p) (classXoffs s p (xoffNow s p)))
    fun _ => ⟨rfl, rfl, rfl⟩
  unfold roomSet
  dsimp only
  split
  · exact .refl s
  · split
    · exact h.evH _ _
    · exact h

/-- The port's own part sets its XOFF, and leaves any other line port's as it is. -/
theorem roomSet_xoff (s : State) {p q : Nat} (hp : 32 ≤ p ∧ p < 64) (hq : 32 ≤ q ∧ q < 64) :
    (tmPort (roomSet s q) p).xoff = if p = q then xoffNow s q else (tmPort s p).xoff := by
  unfold roomSet
  dsimp only
  split
  · rename_i hsame
    obtain ⟨hx, -⟩ := Bool.and_eq_true_iff.mp hsame
    split
    · rename_i e; rw [e]; exact (beq_iff_eq.mp hx).symm
    · rfl
  · have hset : ∀ cls, (tmPort (setTmPort q (.checked s.tsu.ns (xoffNow s q) cls) s) p).xoff =
        if p = q then xoffNow s q else (tmPort s p).xoff := fun cls => by
      simp only [tmPort_setTmPort, linePort_eq_iff hp hq]
      split <;> rfl
    split
    · rw [tmPort_evH]; exact hset _
    · exact hset _

theorem peerPauseDue_keepsRoom (s : State) (p : Nat) : KeepsRoom s (peerPauseDue s p) := by
  unfold peerPauseDue
  split
  · split
    · exact (KeepsRoom.refl s).setTmPort _ fun _ => ⟨rfl, rfl, rfl⟩
    · exact .refl s
  · exact .refl s

/-- A pause frame that becomes due changes no port's XOFF. -/
theorem peerPauseDue_xoff (s : State) (p q : Nat) : (tmPort (peerPauseDue s q) p).xoff = (tmPort s p).xoff := by
  unfold peerPauseDue
  split
  · split
    · rw [tmPort_setTmPort]; split <;> rfl
    · rfl
  · rfl

theorem roomCheck_keepsRoom (s : State) (q : Nat) : KeepsRoom s (roomCheck s q) := by
  rw [roomCheck_eq]; exact (roomSet_keepsRoom s q).trans (peerPauseDue_keepsRoom _ q)

theorem roomCheck_xoff (s : State) {p q : Nat} (hp : 32 ≤ p ∧ p < 64) (hq : 32 ≤ q ∧ q < 64) :
    (tmPort (roomCheck s q) p).xoff = if p = q then xoffNow s q else (tmPort s p).xoff := by
  rw [roomCheck_eq, peerPauseDue_xoff, roomSet_xoff s hp hq]

/-- After the checks of the first `n` line ports, each of them has the XOFF its room at the beginning gives it, and the others
have kept theirs. -/
theorem roomChecks_xoff (s : State) (n : Nat) (hn : n ≤ 32) :
    KeepsRoom s (((List.range n).map (32 + ·)).foldl roomCheck s) ∧
    ∀ p, 32 ≤ p ∧ p < 64 → (tmPort (((List.range n).map (32 + ·)).foldl roomCheck s) p).xoff =
      if p < 32 + n then xoffNow s p else (tmPort s p).xoff := by
  induction n with
  | zero => exact ⟨.refl s, fun p hp => (if_neg (by omega)).symm⟩
  | succ n ih =>
    obtain ⟨hroom, hxoff⟩ := ih (by omega)
    rw [List.range_succ, List.map_append, List.foldl_append]
    generalize ((List.range n).map (32 + ·)).foldl roomCheck s = t at hroom hxoff
    refine ⟨hroom.trans (roomCheck_keepsRoom t (32 + n)), fun p hp => ?_⟩
    have hq : 32 ≤ 32 + n ∧ 32 + n < 64 := by omega
    have hlast : xoffNow t (32 + n) = xoffNow s (32 + n) :=
      hroom.xoffNow hq.1 ((hxoff _ hq).trans (if_neg (by omega)))
    simp only [List.map_cons, List.map_nil, List.foldl_cons, List.foldl_nil, roomCheck_xoff t hp hq, hlast, hxoff p hp]
    by_cases h : p = 32 + n
    · simp [h]
    · have hlt : p < 32 + (n + 1) ↔ p < 32 + n := by omega
      simp only [h, hlt, if_false]

/-! ### Gate lists (R223 to R227; O32) -/

/-- The run of a gate list stays: its state, its lists, T_s and the count of changes. -/
structure Gate.SameRun (g k : Gate) : Prop where
  st : k.st = g.st
  oper : k.oper = g.oper
  pend : k.pend = g.pend
  ts : k.ts = g.ts
  changes : k.changes = g.changes

theorem Gate.SameRun.refl (g : Gate) : g.SameRun g := ⟨rfl, rfl, rfl, rfl, rfl⟩

theorem Gate.SameRun.trans {a b c : Gate} (h : a.SameRun b) (k : b.SameRun c) : a.SameRun c :=
  ⟨k.st.trans h.st, k.oper.trans h.oper, k.pend.trans h.pend, k.ts.trans h.ts, k.changes.trans h.changes⟩

@[simp] theorem gateOf_setGate_same (p : Nat) (f : Gate → Gate) (s : State) : gateOf (setGate p f s) p = f (gateOf s p) :=
  tget_tmod_same _ _ _ _

@[simp] theorem gateOf_evH (code : Nat) (ps : Bytes) (s : State) (p : Nat) : gateOf (evH code ps s) p = gateOf s p := by
  rw [evH_frame]; rfl

/-- Where a running list stands in its cycle is no part of its run. -/
theorem gatePlace_sameRun (tod : W64) (g : Gate) : g.SameRun (gatePlace tod g) := by
  unfold gatePlace
  split
  · exact .refl g
  · rename_i h; exact ⟨rfl, h.symm ▸ rfl, rfl, rfl, rfl⟩

/-- A frame's end leaves the gates as they are. -/
theorem gateOf_cutFrame (id : Nat) (s : State) (p : Nat) : gateOf (cutFrame id s) p = gateOf s p := by
  rw [gateOf, ((Steady.refl s).cutFrame id).gates, gateOf]

/-- The drops of head frames that no window takes are counted, and the list runs on (R225). -/
theorem gateHeadDrop_sameRun (p q n : Nat) (s : State) : (gateOf s p).SameRun (gateOf (gateHeadDrop p q n s) p) := by
  induction n generalizing s with
  | zero => exact .refl _
  | succ n ih =>
    have hdrop : ∀ id tc, (gateOf s p).SameRun
        (gateOf (cutFrame id (setGate p (fun g => { g with drops := tmod 0 g.drops tc (· + 1) }) s)) p) := fun id tc => by
      rw [gateOf_cutFrame, gateOf_setGate_same]; exact ⟨rfl, rfl, rfl, rfl, rfl⟩
    unfold gateHeadDrop
    dsimp only
    split
    · split
      · split
        · exact .refl _
        · exact (hdrop _ _).trans (ih _)
      · exact .refl _
    · exact .refl _

theorem gateDrops_sameRun (p : Nat) (s : State) : (gateOf s p).SameRun (gateOf (gateDrops p s) p) :=
  List.foldlRecOn _ _ (motive := fun t => (gateOf s p).SameRun (gateOf t p)) (.refl _)
    fun t ht e _ => ht.trans (gateHeadDrop_sameRun p e.1 e.2.frames.length t)

/-- A pending list as it becomes operating (R227). -/
def gateRuns (l : GateList) (g : Gate) : Gate :=
  { g with st := 2, oper := some l, pend := none, ts := g.tc, changes := g.changes + 1 }

/-- At T_c the pending list operates. -/
theorem gateOperate_sameRun {p : Nat} {s : State} {l : GateList} (tod : W64) (h : (gateOf s p).pend = some l) :
    (gateRuns l (gateOf s p)).SameRun (gateOf (gateOperate p tod s) p) := by
  unfold gateOperate
  dsimp only
  rw [h]
  dsimp only
  rw [gateOf_evH, gateOf_setGate_same, gateOf_setGate_same]
  have hrun := gatePlace_sameRun tod (gateRuns l (gateOf s p))
  exact ⟨hrun.st, hrun.oper, hrun.pend, hrun.ts, hrun.changes⟩

/-! ### Express slots (R203 to R205; O32) -/

/-- A frame is too long for its slot, or a class of its port is halted: what drops it at its head check and at its slot (R204). -/
def slotBarred (s : State) (f : Frame) : Prop :=
  (tmPort s f.egress).expMax < (wholeLen f).getD (arrivedLen s f + macsecLen f) ∨ haltMask s (tmPort s f.egress) ≠ 0

theorem slotBarred_iff (s : State) (f : Frame) :
    slotBarred s f ↔ (expressLong s f || haltMask s (tmPort s f.egress) != 0) = true := by
  simp [slotBarred, expressLong]

/-- What is in transmission stays, in words: preemption is not active, or has been used, or it is an express frame (R205). -/
theorem keepsPort_iff {s : State} {p : Nat} (h : (tmPort s p).sending ≠ none) : keepsPort s p = true ↔
    (port s p).preemptOn = false ∨ (tmPort s p).resume ≠ none ∨
      ∃ o g, (tmPort s p).sending = some o ∧ frameOf s o = some g ∧ g.slot ≠ none := by
  obtain ⟨o, ho⟩ := Option.ne_none_iff_exists'.mp h
  have hslot : (frameOf s o).any bySlot = true ↔ ∃ g, frameOf s o = some g ∧ g.slot ≠ none := by
    simp [Option.any_eq_true, bySlot, Option.isSome_iff_ne_none]
  simp [keepsPort, ho, hslot, Option.isSome_iff_ne_none, or_assoc]

/-- A preemption is steady: it changes the frame, and its port's record and counts (R205). -/
theorem Steady.preempt {s t : State} (h : Steady s t) (p : Nat) : Steady s (preempt p t) := by
  unfold Machine.preempt
  split
  · exact h
  · exact ((h.modFrame _ _).setTm _ _).cntPort _ _

section
variable {s : State} {id : Nat} {f : Frame} {b : Int}

theorem expressHeadCheck_due (hlive : live s = true) (hf : frameOf s id = some f) (hb : f.slot = some b) (hleft : f.left = false)
    (hdue : timeGap b (todNow s) ≤ 40 * 4294967296) :
    ((isHead s id f = false ∨ slotBarred s f ∨ (port s f.egress).st ≠ .up) → expressHeadCheck id s = expressMiss id f s) ∧
    (¬ (isHead s id f = false ∨ slotBarred s f ∨ (port s f.egress).st ≠ .up) → expressHeadCheck id s = s) := by
  have hgo : (!live s || f.left || decide (40 * 4294967296 < timeGap b (todNow s))) = false := by
    rw [hlive, hleft, decide_eq_false (by omega)]; rfl
  have hmiss : (!isHead s id f || expressLong s f || haltMask s (tmPort s f.egress) != 0 || (port s f.egress).st != .up) = true ↔
      isHead s id f = false ∨ slotBarred s f ∨ (port s f.egress).st ≠ .up := by
    rw [slotBarred_iff]; simp [or_assoc]
  simp only [expressHeadCheck, hf, hb, hgo, Bool.false_eq_true, if_false]
  exact ⟨fun h => if_pos (hmiss.mpr h), fun h => if_neg (mt hmiss.mp h)⟩

/-- What a slot's start does once it has come, in the order of R204 and R205. -/
theorem expressSlotStart_due (hlive : live s = true) (hf : frameOf s id = some f) (hb : f.slot = some b) (hleft : f.left = false)
    (hdue : timeGap b (todNow s) ≤ 0) : expressSlotStart id s =
      if !isHead s id f then expressMiss id f s
      else if expressLong s f || haltMask s (tmPort s f.egress) != 0 || !canSend s f.egress then expressLate id f s
      else if keepsPort s f.egress then s
      else expressSkew id (sendHead f.egress (f.queue.getD 0) id
        (max 0 (timeGap (b + (Config.blockWait f.egress b : Int)) (todNow s))).toNat
        (setTmPort f.egress (fun x => { x with expSent := x.expSent + 1 }) (preempt f.egress s))) := by
  have hgo : (!live s || f.left || decide (0 < timeGap b (todNow s))) = false := by
    simp [hlive, hleft, hdue]
  have hsent : ∀ x, todNow (setTmPort f.egress x (preempt f.egress s)) = todNow s := fun x => by
    have h : (setTmPort f.egress x (preempt f.egress s)).tsu = s.tsu := (((Steady.refl s).preempt f.egress).setTm _ _).tsu
    rw [todNow, h, todNow]
  simp only [expressSlotStart, hf, hb, hgo, hsent, Bool.false_eq_true, if_false]

/-- What drops a frame that is at its head when its slot starts (R204). -/
theorem slotBarred_or_blocked_iff (s : State) (f : Frame) : (slotBarred s f ∨ canSend s f.egress = false) ↔
    (expressLong s f || haltMask s (tmPort s f.egress) != 0 || !canSend s f.egress) = true := by
  rw [slotBarred_iff]; simp

end

/-- The end of an entry that has been reached: the next entry, or the next cycle where the list has one (R223, R226). -/
theorem gateEntryAdvance_due {s : State} {p : Nat} {l : GateList} (hoper : (gateOf s p).oper = some l)
    (hgo : (!live s || !reached s.tsu.ns ((gateOf s p).cycleTod +
      BitVec.ofNat 64 (l.parts.getD ((gateOf s p).cur + 1) (l.cycle, 0, 0)).1)) = false) :
    gateEntryAdvance p s =
      let g := gateOf s p
      let e := l.parts.getD (g.cur + 1) (l.cycle, 0, 0)
      let t := g.cycleTod + BitVec.ofNat 64 e.1
      if g.cur + 1 < l.parts.length then setGate p (fun g => { g with cur := g.cur + 1, gates := e.2.2, entryTod := t }) s
      else if gateExtends g l t then s
      else setGate p (fun g =>
        { g with cur := 0, gates := (l.parts.getD 0 (0, 0, 255)).2.2, cycleTod := t, entryTod := t }) s := by
  simp only [gateEntryAdvance, hoper, hgo, Bool.false_eq_true, if_false]

/-- Settles O32: the 32 room checks each judge a port by the room it had before them, a list's run outlives the drops at its
beginning, and an express frame is judged by what bars its slot. -/
theorem pauseExpressAndGates : Obligations.PauseExpressAndGates := by
  unfold Obligations.PauseExpressAndGates
  refine ⟨?room, ?stuck, ?pause, ?repeats, ?haltEnd, ?express, ?change, ?advance⟩
  case room =>
    intro s p hlive h32 h64
    have h : tmRoomCheck s = ((List.range 32).map (32 + ·)).foldl roomCheck s := if_pos hlive
    obtain ⟨-, hxoff⟩ := roomChecks_xoff s 32 (Nat.le_refl _)
    refine ⟨tmRoomCheck s, rfl, ?_⟩
    rw [h, hxoff p ⟨h32, h64⟩, if_pos (by omega)]
    rfl
  case stuck =>
    intro s p hlive hx hstuck hdue
    have hgo : (live s && (tmPort s p).xoff && !(tmPort s p).stuck &&
        reached s.tsu.ns ((tmPort s p).xoffSince + 10000000)) = true := by
      rw [hlive, hx, hstuck, hdue]; rfl
    exact congrArg Host.Outcome.next (if_pos hgo)
  case pause =>
    intro s h hlive hh hdue hidle hsend hflow
    have hgo : (!live s || decide (32 ≤ h) || !(tmPort s h).pauseDue || (tmPort s h).sending.isSome || !canSend s h) = false := by
      simp [hlive, hh, hdue, hidle, hsend]
    have hf : ((port s h).cfg.flow == 0) = false := beq_false_of_ne hflow
    refine ⟨pauseFrameSend h s, rfl, ?_, ?_⟩ <;> simp only [pauseFrameSend, hgo, hf] <;> rfl
  case repeats =>
    intro s h hlive hh hwant
    exact congrArg Host.Outcome.next (by simp [pauseRepeat, hlive, hh, hwant])
  case haltEnd =>
    intro s p t hlive hp ht hhalt hend
    have hgo : (live s && decide (p < 64) && decide (t < 8) && nbit (tmPort s p).halted t &&
        reached s.tsu.ns (tget 0 (tmPort s p).haltEnd t)) = true := by
      rw [hlive, decide_eq_true hp, decide_eq_true ht, hhalt, hend]; rfl
    exact congrArg Host.Outcome.next (if_pos hgo)
  case express =>
    intro s id f b hlive hf hb hleft p come late keeps
    refine ⟨fun hdue => ?head, fun hdue => ?slot⟩
    case head =>
      obtain ⟨hmiss, hstays⟩ := expressHeadCheck_due hlive hf hb hleft hdue
      exact ⟨fun h => congrArg Host.Outcome.next (hmiss h), fun h => congrArg Host.Outcome.next (hstays h)⟩
    case slot =>
      have hstart := expressSlotStart_due hlive hf hb hleft hdue
      have hbarred := slotBarred_or_blocked_iff s f
      have hfrees (hfree : ¬ late) (hsend : canSend s p = true) :
          (expressLong s f || haltMask s (tmPort s p) != 0 || !canSend s p) = false :=
        Bool.eq_false_iff.mpr fun h => (hbarred.mpr h).elim hfree fun h => Bool.false_ne_true (h.symm.trans hsend)
      refine ⟨fun hhead => ?notHead, fun hhead hbar => ?barred, fun hhead hfree hsend hbusy hkeep => ?kept,
        fun hhead hfree hsend hgoes => ?leaves⟩
      all_goals refine congrArg Host.Outcome.next (hstart.trans ?_)
      case notHead => rw [hhead]; rfl
      case barred => rw [hhead, hbarred.mp hbar]; rfl
      case kept => rw [hhead, hfrees hfree hsend, (keepsPort_iff hbusy).mpr hkeep]; rfl
      case leaves =>
        have hk : keepsPort s p = false := by
          rcases hgoes with hidle | hnot
          · rw [keepsPort, hidle]
          · by_cases hidle : (tmPort s p).sending = none
            · rw [keepsPort, hidle]
            · exact Bool.eq_false_iff.mpr fun h => hnot ((keepsPort_iff hidle).mp h)
        rw [hhead, hfrees hfree hsend, hk]; rfl
  case change =>
    intro s p l hlive hp hst hpend hdue
    have hgo : (live s && ((gateOf s p).st == 1 || (gateOf s p).st == 3) && reached s.tsu.ns (gateOf s p).tc) = true := by
      simp [hlive, hst, hdue]
    have h : gclChange p s = gateDrops p (gateOperate p (gateOf s p).tc s) := by
      have ht : gclChangeTime p s = gateOperate p (gateOf s p).tc s := if_pos hgo
      rw [gclChange, ht, hlive, decide_eq_true hp]
      rfl
    have hrun := (gateOperate_sameRun (gateOf s p).tc hpend).trans (gateDrops_sameRun p _)
    refine ⟨gclChange p s, rfl, ?_⟩
    rw [h]
    exact ⟨hrun.st, hrun.oper, hrun.pend, hrun.ts, hrun.changes⟩
  case advance =>
    intro s p l hlive hoper g e hdue
    have hgo : (!live s || !reached s.tsu.ns (g.cycleTod + BitVec.ofNat 64 e.1)) = false := by
      rw [hlive, hdue]; rfl
    have h := gateEntryAdvance_due hoper hgo
    refine ⟨fun hmore => congrArg Host.Outcome.next ?_, fun hlast hext => congrArg Host.Outcome.next ?_⟩
    · rw [h, if_pos hmore]; rfl
    · rw [h, if_neg (Nat.not_lt.mpr hlast), hext]; rfl

end Sys2Proof.Machine
end

section
/-! PROOF. DEV_SLICE_RESTORE, the return of a QUARANTINED unit to service by way of RESET (R142; O20). -/
namespace Sys2Proof.Machine

/-! ### The restored unit -/

/-- A unit whose mask generator starts afresh under a key (R124). -/
def unitReseeds (k : BitVec 256) (x : SUnit) : SUnit :=
  { x with maskKey := k, maskPos := 0, maskSet := none, reseedDue := false, repeated := false, seeded := true }

/-- A reseed writes the unit's mask generator and nothing else of it. -/
theorem unitOf_unitReseed_same (u : Nat) (s : State) :
    unitOf (unitReseed u s) u = unitReseeds (drawDrbg s).1 (unitOf s u) := by
  have h := unitOf_setUnit_same u (unitReseeds (drawDrbg s).1) (drawDrbg s).2
  unfold unitReseed
  split <;> exact h

/-- A unit in RESET that returns to service, its fault history cleared. -/
def unitRestores (x : SUnit) : SUnit := { x with st := .reset, faults := [], restoring := true }

/-- The device behind DEV_SLICE_RESTORE of a QUARANTINED unit. -/
def sliceRestored (u : Nat) (s : State) : State := unitReseed u (setUnit u unitRestores s)

theorem sliceRestored_unit (u : Nat) (s : State) : (unitOf (sliceRestored u s) u).st = .reset ∧
    (unitOf (sliceRestored u s) u).faults = [] ∧ (unitOf (sliceRestored u s) u).restoring = true := by
  rw [sliceRestored, unitOf_unitReseed_same, unitOf_setUnit_same]
  exact ⟨rfl, rfl, rfl⟩

/-! ### The request's outcomes -/

section
variable {s : State} {c : Cmd} (hlc : lcBad s = false) (hlen : c.payload.length = 4)
include hlc hlen

/-- The request is judged before the unit's state: the model's choice of order (R142, log entry 65). -/
theorem devSliceRestore_malformed (h : 0x17 < u8 c.payload 0 ∨ zeros c.payload 1 3 = false) :
    devSliceRestore c s = fail stInvalid s := by
  have hbad : (c.payload.length != 4 || decide (0x17 < u8 c.payload 0) || !zeros c.payload 1 3) = true := by
    simpa [hlen] using h
  simp only [devSliceRestore, hlc, hbad, Bool.false_eq_true, if_false, if_true]

variable (hunit : u8 c.payload 0 ≤ 0x17) (hzero : zeros c.payload 1 3 = true)
include hunit hzero

/-- A well-formed request is decided by the unit's state. -/
theorem devSliceRestore_wellFormed : devSliceRestore c s =
    if (unitOf s (u8 c.payload 0)).st = .quarantined then ok (sliceRestored (u8 c.payload 0) s) else fail stWrongState s := by
  have hgo : (c.payload.length != 4 || decide (0x17 < u8 c.payload 0) || !zeros c.payload 1 3) = false := by
    simp [hlen, hunit, hzero]
  by_cases hst : (unitOf s (u8 c.payload 0)).st = .quarantined
  · simp only [devSliceRestore, hlc, hgo, hst, bne_self_eq_false, Bool.false_eq_true, if_false, if_true]
    rfl
  · simp only [devSliceRestore, hlc, hgo, bne_iff_ne.mpr hst, hst, Bool.false_eq_true, if_false, if_true]

end

/-! ### The end of the reset (R135) -/

/-- A unit without faults has none within the last second. -/
theorem recentFaults_nil {s : State} {u : Nat} (h : (unitOf s u).faults = []) : recentFaults s u = [] := by
  rw [recentFaults, h, List.filter_nil]

/-- Settles O20: the request's checks are R142's, the reseed keeps what the restore wrote, and a unit with its fault history
cleared is below the three faults of a quarantine when its reset ends. -/
theorem sliceRestoreAnswers : Obligations.SliceRestoreAnswers := by
  unfold Obligations.SliceRestoreAnswers
  refine ⟨fun s mb c htaken hlc hlen => ?restore, fun s u hlive hst _ hclean => ?resetEnd⟩
  case restore =>
    have answers {r t} (h : devSliceRestore c s = .done r t) : exec (.devSliceRestore mb) s = .next (finish c r t) :=
      congrArg Host.Outcome.next (fcp_done htaken h)
    intro u
    refine ⟨fun hbad => ?malformed, fun hunit hzero hst => ?otherState, fun hunit hzero hst => ?quarantined⟩
    case malformed => exact answers (devSliceRestore_malformed hlc hlen hbad)
    case otherState => exact answers ((devSliceRestore_wellFormed hlc hlen hunit hzero).trans (if_neg hst))
    case quarantined =>
      exact ⟨sliceRestored u s, answers ((devSliceRestore_wellFormed hlc hlen hunit hzero).trans (if_pos hst)),
        sliceRestored_unit u s⟩
  case resetEnd =>
    have hfew : ¬ 3 ≤ (recentFaults s u).length := by
      rw [recentFaults_nil hclean]
      exact Nat.not_succ_le_zero 2
    exact ⟨unitResetEnd u s, rfl, (unitResetEnd_st hlive hst).trans (if_neg hfew)⟩

end Sys2Proof.Machine
end

section
/-! PROOF. Requests as byte strings, and commands whose operands come inline, batches among them. -/
namespace Sys2Proof.Machine

/-! ### The fields of a byte string (R7) -/

@[simp] theorem le_length (n v : Nat) : (le n v).length = n := by
  induction n generalizing v with
  | zero => rfl
  | succ n ih => rw [le, List.length_cons, ih]

@[simp] theorem zb_length (n : Nat) : (zb n).length = n := List.length_replicate

/-- The byte of a little-endian field at a place. -/
theorem u8_le (n v i : Nat) (t : Bytes) (h : i < n) : u8 (le n v ++ t) i = v / 256 ^ i % 256 := by
  induction n generalizing v i with
  | zero => exact absurd h (Nat.not_lt_zero i)
  | succ n ih =>
    cases i with
    | zero => simp [u8, le]
    | succ i =>
      have hi := ih (v / 256) i (by omega)
      rw [Nat.div_div_eq_div_mul, ← Nat.pow_succ'] at hi
      exact hi

@[simp] theorem u8_le_head (v : Nat) (t : Bytes) : u8 (le 1 v ++ t) 0 = v % 256 := by
  simp [u8_le 1 v 0 t]

@[simp] theorem u16_le_head (v : Nat) (t : Bytes) : u16 (le 2 v ++ t) 0 = v % 65536 := by
  simp [u16, u8_le 2 v _ t]; omega

@[simp] theorem u32_le_head (v : Nat) (t : Bytes) : u32 (le 4 v ++ t) 0 = v % 4294967296 := by
  simp [u32, u16, u8_le 4 v _ t]; omega

@[simp] theorem u64_le_head (v : Nat) (t : Bytes) : u64 (le 8 v ++ t) 0 = v % 18446744073709551616 := by
  simp [u64, u32, u16, u8_le 8 v _ t]; omega

@[simp] theorem u16_le_whole (v : Nat) : u16 (le 2 v) 0 = v % 65536 := by
  simpa using u16_le_head v []

@[simp] theorem u64_le_whole (v : Nat) : u64 (le 8 v) 0 = v % 18446744073709551616 := by
  simpa using u64_le_head v []

@[simp] theorem u8_zb (n i : Nat) : u8 (zb n) i = 0 := by
  have hb : (zb n).getD i 0 = 0 := by
    by_cases h : i < n <;> simp [zb, List.getD, h]
  rw [u8, hb]; rfl

theorem u8_zb_append (n i : Nat) (t : Bytes) (h : i < n) : u8 (zb n ++ t) i = 0 := by
  have hin : i < (zb n).length := by rw [zb_length]; exact h
  rw [u8, List.getD_eq_getElem?_getD, List.getElem?_append_left hin, ← List.getD_eq_getElem?_getD]
  exact u8_zb n i

@[simp] theorem u64_zb_head (t : Bytes) : u64 (zb 8 ++ t) 0 = 0 := by
  simp [u64, u32, u16, u8_zb_append 8 _ t]

section
variable {a : Bytes} {off : Nat} (b : Bytes) (h : a.length ≤ off)
include h

/-- Behind its beginning, a byte string is read in the rest of it. -/
@[simp] theorem u8_append_rest : u8 (a ++ b) off = u8 b (off - a.length) := by
  rw [u8, List.getD_eq_getElem?_getD, List.getElem?_append_right h, ← List.getD_eq_getElem?_getD, u8]

@[simp] theorem u16_append_rest : u16 (a ++ b) off = u16 b (off - a.length) := by
  rw [u16, u8_append_rest b h, u8_append_rest b (Nat.le_succ_of_le h), Nat.succ_sub h, u16]

@[simp] theorem u32_append_rest : u32 (a ++ b) off = u32 b (off - a.length) := by
  rw [u32, u16_append_rest b h, u16_append_rest b (Nat.le_add_right_of_le h), Nat.sub_add_comm h, u32]

@[simp] theorem u64_append_rest : u64 (a ++ b) off = u64 b (off - a.length) := by
  rw [u64, u32_append_rest b h, u32_append_rest b (Nat.le_add_right_of_le h), Nat.sub_add_comm h, u64]

@[simp] theorem zeros_append_rest (n : Nat) : zeros (a ++ b) off n = zeros b (off - a.length) n := by
  rw [zeros, sub, List.drop_append, List.drop_eq_nil_of_le h, List.nil_append, zeros, sub]

end

@[simp] theorem zeros_zb (n off k : Nat) : zeros (zb n) off k = true := by
  simp [zeros, sub, zb]

@[simp] theorem zeros_zb_head (n : Nat) (t : Bytes) : zeros (zb n ++ t) 0 n = true := by
  simp [zeros, sub, zb]

/-- A byte string of pieces of one length is cut into them. -/
theorem pieces_flatten {n : Nat} {es : List Bytes} (h : ∀ e ∈ es, e.length = n) : pieces n es.length es.flatten = es := by
  induction es with
  | nil => rfl
  | cons e es ih =>
    have he : e.length = n := h e (List.mem_cons_self ..)
    have htail := ih fun x hx => h x (List.mem_cons_of_mem _ hx)
    simp [pieces, ← he] at htail ⊢
    exact htail

/-! ### A command whose operands come inline (R83, R299) -/

@[simp] theorem batchPrefix_length (n bad : Nat) : (batchPrefix n bad).length = 8 := by simp [batchPrefix]

@[simp] theorem u16_batchPrefix (n bad : Nat) (t : Bytes) : u16 (batchPrefix n bad ++ t) 0 = n % 65536 := by simp [batchPrefix]

@[simp] theorem u16_batchPrefix_bad (n bad : Nat) (t : Bytes) : u16 (batchPrefix n bad ++ t) 2 = bad % 65536 := by
  simp [batchPrefix]

@[simp] theorem zeros_batchPrefix (n bad : Nat) (t : Bytes) : zeros (batchPrefix n bad ++ t) 4 4 = true := by simp [batchPrefix]

section
variable {op mb esz max : Nat} {s t : State} {c : Cmd} {r : Reply} {d : DmaRead} {es : List Bytes}

/-- The command taken has the opcode under which it was taken. -/
theorem Taken.opcode (h : Taken op mb s c) : c.opcode = op := by
  have hfound := List.find?_some h.2
  simp only [Bool.and_eq_true, beq_iff_eq] at hfound
  exact hfound.1.2

/-- A command that moves nothing by DMA answers as its body does, whatever transfer is offered: the firewall's word on one that it does
not need is not heard (R315). -/
theorem fcpDma_inline {body : DmaRead → Cmd → State → Res} (h : Taken op mb s c) (hflag : nbit c.flags 3 = false)
    (hown : dmaOwn op = false) (hb : ∀ d, body d c s = .done r t) : fcpDma op mb d body s = finish c r t := by
  refine fcp_done h ?_
  have hquiet : (nbit c.flags 3 || dmaOwn c.opcode) = false := by rw [hflag, h.opcode, hown]; rfl
  unfold dmaRun
  split
  · exact hb d
  · split <;> simp [hb, dmaStopped, dmaUnsent, hquiet]

section
variable (hflag : nbit c.flags 3 = false) (hne : es ≠ []) (hmax : es.length ≤ max) (h16 : max < 65536)
  (hsize : ∀ e ∈ es, e.length = esz) (hp : c.payload = batchPrefix es.length 0 ++ es.flatten)
include hflag hne hmax h16 hsize hp

/-- The entries of a well-formed inline batch (Table 3-10). -/
theorem parseEntries_inline (rsz : Nat) (statusArray : Bool) : parseEntries esz max rsz statusArray c d = .ok ⟨es, none⟩ := by
  have hcount : u16 c.payload 0 = es.length := by
    rw [hp, u16_batchPrefix, Nat.mod_eq_of_lt (by omega)]
  have hwhole : (c.payload.length != 8 + es.length * esz) = false := by
    have htotal : es.flatten.length = es.length * esz := by
      rw [List.length_flatten, List.map_congr_left hsize, List.map_const', List.sum_replicate_nat]
    simp [hp, htotal]
  have hprefix : (decide (c.payload.length < 8) || u16 c.payload 2 != 0 || !zeros c.payload 4 4 || es.length == 0 ||
      decide (max < es.length)) = false := by
    simp [hp, hne, hmax]
  have hdrop : c.payload.drop 8 = es.flatten := by
    rw [hp]; exact List.drop_left' (batchPrefix_length _ _)
  simp only [parseEntries, hcount, hprefix, hflag, hwhole, hdrop, pieces_flatten hsize, Bool.false_eq_true, if_false]

/-- Without ATOMIC, every entry is taken, and the answer lists their statuses (R83). -/
theorem batch_inline {f : Bytes → State → Nat × State} (hatomic : nbit c.flags 0 = false) : batch esz max f c d s =
    let each := runEach f es s
    .done ⟨batchStatus each.1, batchBad each.1, batchPrefix each.1.length (batchBad each.1) ++ each.1.flatMap (le 2)⟩ each.2 := by
  have hbad : ∀ sts : List Nat, ((sts.filter failed).length != 0) = sts.any failed := fun sts => by
    rw [Bool.eq_iff_iff]; simp [List.filter_eq_nil_iff]
  simp only [batch, parseEntries_inline hflag hne hmax h16 hsize hp, hatomic, Bool.false_eq_true, if_false, batchReply, batchStatus,
    batchBad, hbad]

end

/-- A batch of one entry answers with the status of that entry. -/
theorem fcpDma_batch_one {body : DmaRead → Cmd → State → Res} {f : Bytes → State → Nat × State} {e : Bytes} {status : Nat}
    (h : Taken op mb s c) (hown : dmaOwn op = false) (hatomic : nbit c.flags 0 = false) (hflag : nbit c.flags 3 = false)
    (hmax : 1 ≤ max) (h16 : max < 65536) (hbody : ∀ d, body d c s = batch esz max f c d s)
    (hp : c.payload = batchPrefix 1 0 ++ e) (hsize : e.length = esz) (hf : f e s = (status, t)) :
    fcpDma op mb d body s =
      finish c ⟨batchStatus [status], batchBad [status], batchPrefix 1 (batchBad [status]) ++ le 2 status⟩ t := by
  refine fcpDma_inline h hflag hown fun d => ?_
  have hone : ∀ x ∈ [e], x.length = esz := by simpa using hsize
  rw [hbody, batch_inline hflag (List.cons_ne_nil e []) hmax h16 hone (by simpa using hp) hatomic]
  simp [runEach, hf]

end

end Sys2Proof.Machine
end

section
/-! PROOF. Shapers and queues: the refill, TM_SHAPER_SET and TM_QUEUE_SET (O29). -/
namespace Sys2Proof.Machine

/-! ### Shapers (R195, R197; O29) -/

/-- A read after a change of one entry, in what was read before it. -/
theorem tget_tmod_at {α : Type} [DecidableEq α] (d : α) (f : α → α) (i j : Nat) (t : Tab α) :
    tget d (tmod d t i f) j = if j = i then f (tget d t j) else tget d t j := by
  rw [tget_tmod]; split
  · rename_i h; rw [h]
  · rfl

/-- A shaper after a change of one; the levels are 0, 1 and 2 (Table 8-12). -/
theorem shaperOf_setShaper {side level i sd lv j : Nat} (f : Shaper → Shaper) (s : State) (hside : side < 2) (hsd : sd < 2)
    (hlevel : level ≤ 2) (hlv : lv ≤ 2) : shaperOf (setShaper side level i f s) sd lv j =
      if sd = side ∧ lv = level ∧ j = i then f (shaperOf s sd lv j) else shaperOf s sd lv j := by
  have hsame : (side = 0 ↔ sd = 0) ↔ sd = side := by omega
  simp only [shaperOf, setShaper, tmOf_setTm, hsame]
  by_cases hs : sd = side
  · have hlevels : level = 0 ∨ level = 1 ∨ level = 2 := by omega
    have hlvs : lv = 0 ∨ lv = 1 ∨ lv = 2 := by omega
    simp only [hs, true_and, if_true]
    rcases hlevels with rfl | rfl | rfl <;> rcases hlvs with rfl | rfl | rfl <;> simp [tget_tmod_at]
  · simp only [hs, false_and, if_false]

/-- A disabled shaper is not refilled, so the refill keeps the shapers that no table lists. -/
theorem shaperRefillOne_reset : shaperRefillOne .reset = .reset := rfl

/-- The refill of every shaper of a side. -/
theorem shaperOf_shaperRefill {s : State} (hlive : live s = true) (side level i : Nat) :
    shaperOf (shaperRefill s) side level i = shaperRefillOne (shaperOf s side level i) := by
  have htm : tmOf (shaperRefill s) side = tmRefill (tmOf s side) := by
    rw [shaperRefill, if_pos hlive]; exact (apply_ite tmRefill _ _ _).symm
  simp only [shaperOf, htm, tmRefill]
  split <;> exact tget_tmap _ _ shaperRefillOne_reset _ _

/-- An entry of TM_SHAPER_SET (Table 8-12). -/
def shaperRequest (side level i rate b a flags : Nat) : Bytes :=
  le 1 side ++ le 1 level ++ le 2 i ++ le 4 rate ++ le 4 b ++ le 1 a ++ le 1 flags ++ zb 2

/-- A level has at most 2,048 shapers. -/
theorem shaperCount_le (level : Nat) : shaperCount level ≤ 2048 := by
  unfold shaperCount; split <;> decide

/-- A byte as a signed number. -/
theorem signed_byte (a : Nat) : signed 1 a = if a ≤ 127 then (a : Int) else (a : Int) - 256 :=
  ite_congr (propext (Nat.lt_succ_iff (m := a) (n := 127))) (fun _ => rfl) (fun _ => rfl)

section
variable {side level i rate b a fl : Nat} (hside : side < 2) (hlevel : level ≤ 2) (hi : i < shaperCount level) (hrate : rate < 2 ^ 32)
  (hb : 2048 ≤ b) (hb' : b ≤ 16777215) (ha : a ≤ 127 ∨ (192 ≤ a ∧ a ≤ 255)) (hfl : fl ≤ 3)
include hside hlevel hi hrate hb' ha hfl

/-- Each field is read back from the entry's bytes. -/
theorem shaperRequest_fields : u8 (shaperRequest side level i rate b a fl) 0 = side ∧
    u8 (shaperRequest side level i rate b a fl) 1 = level ∧ u16 (shaperRequest side level i rate b a fl) 2 = i ∧
    u32 (shaperRequest side level i rate b a fl) 4 = rate ∧ u32 (shaperRequest side level i rate b a fl) 8 = b ∧
    u8 (shaperRequest side level i rate b a fl) 12 = a ∧ u8 (shaperRequest side level i rate b a fl) 13 = fl ∧
    zeros (shaperRequest side level i rate b a fl) 14 2 = true := by
  have hcount := shaperCount_le level
  simp [shaperRequest]
  omega

include hb

/-- A well-formed entry commits on its shaper. -/
theorem tmShaperEntry_commits (s : State) : tmShaperEntry (shaperRequest side level i rate b a fl) s =
    (stOk, setShaper side level i (shaperCommit rate b (signed 1 a) (nbit fl 0) (nbit fl 1)) s) := by
  obtain ⟨h0, h1, h2, h4, h8, h12, h13, h14⟩ := shaperRequest_fields hside hlevel hi hrate hb' ha hfl
  have hadjust : -64 ≤ signed 1 a := by
    rw [signed_byte]; split <;> omega
  have hgo : (decide (1 < side) || decide (2 < level) || decide (shaperCount level ≤ i) || !within b 2048 16777215 ||
      decide (signed 1 a < -64) || decide (3 < fl) || !true) = false := by
    simp [within]; omega
  simp only [tmShaperEntry, h0, h1, h2, h4, h8, h12, h13, h14, hgo, Bool.false_eq_true, if_false]

end

/-- The refill of an enabled shaper (R195). -/
theorem shaperRefillOne_eq (x : Shaper) : shaperRefillOne x = if x.rate = 0 then x else { x with
    credit := min (x.credit + ((x.rate * 83886080 / 1000000 : Nat) : Int)) ((x.burst : Int) * 16777216) } := by
  simp [shaperRefillOne, refillOf, tok]

/-! ### Queues (R212; O29) -/

/-- What makes an entry of TM_QUEUE_SET malformed (R212, Table 8-11). -/
def QueueEntryMalformed (e : Bytes) : Prop :=
  1 < u8 e 0 ∨ 7 < u8 e 1 ∨ 2047 < u16 e 2 ∨ u8 e 4 = 0 ∨ zeros e 5 3 = false ∨ u32 e 8 < 1 ∨ 98304 < u32 e 8 ∨ zeros e 12 4 = false

/-- It changes the TC of a queue that holds frames. -/
def QueueEntryBusy (e : Bytes) (s : State) : Prop :=
  u8 e 1 ≠ queueTc (u16 e 2) (queueOf s (u8 e 0) (u16 e 2)) ∧ (queueOf s (u8 e 0) (u16 e 2)).frames ≠ []

section
variable {e : Bytes} {s : State}

theorem queueEntryMalformed_iff : QueueEntryMalformed e ↔ (decide (1 < u8 e 0) || decide (7 < u8 e 1) || decide (2047 < u16 e 2) ||
    u8 e 4 == 0 || !zeros e 5 3 || !within (u32 e 8) 1 98304 || !zeros e 12 4) = true := by
  simp only [QueueEntryMalformed, within, Bool.or_eq_true, decide_eq_true_eq, beq_iff_eq, Bool.not_eq_true', Bool.and_eq_false_iff,
    decide_eq_false_iff_not, Nat.not_le, or_assoc]

theorem queueEntryBusy_iff : QueueEntryBusy e s ↔
    (u8 e 1 != queueTc (u16 e 2) (queueOf s (u8 e 0) (u16 e 2)) && !(queueOf s (u8 e 0) (u16 e 2)).frames.isEmpty) = true := by
  simp [QueueEntryBusy]

theorem tmQueueEntry_malformed (h : QueueEntryMalformed e) : tmQueueEntry e s = (stInvalid, s) := by
  simp only [tmQueueEntry, queueEntryMalformed_iff.mp h, if_true]

theorem tmQueueEntry_busy (h : ¬ QueueEntryMalformed e) (hb : QueueEntryBusy e s) : tmQueueEntry e s = (stWrongState, s) := by
  have hgo := Bool.eq_false_iff.mpr (mt queueEntryMalformed_iff.mpr h)
  simp only [tmQueueEntry, hgo, queueEntryBusy_iff.mp hb, Bool.false_eq_true, if_false, if_true]

theorem tmQueueEntry_commits (h : ¬ QueueEntryMalformed e) (hb : ¬ QueueEntryBusy e s) : tmQueueEntry e s =
    (stOk, setQueue (u8 e 0) (u16 e 2) (fun y => { y with
      tc := if u8 e 1 = u16 e 2 % 8 then none else some (u8 e 1), weight := u8 e 4, limit := u32 e 8 }) s) := by
  have hgo := Bool.eq_false_iff.mpr (mt queueEntryMalformed_iff.mpr h)
  have hfree := Bool.eq_false_iff.mpr (mt queueEntryBusy_iff.mpr hb)
  simp only [tmQueueEntry, hgo, hfree, Bool.false_eq_true, if_false, beq_iff_eq]

end

/-- Settles O29: the refill and the commit act on each shaper by itself, and an entry of TM_QUEUE_SET is malformed, or changes the TC of
a queue that holds frames, or commits. -/
theorem shapersRefillAndCommit : Obligations.ShapersRefillAndCommit := by
  unfold Obligations.ShapersRefillAndCommit
  refine ⟨fun s side i hlive _ => ⟨shaperRefill s, rfl, fun level => ?refill⟩, ?shaperSet, ?queueSet⟩
  case refill => exact (shaperOf_shaperRefill hlive side level i).trans (shaperRefillOne_eq _)
  case shaperSet =>
    intro s mb side level i rate b a fl d c htaken hlc hflag hatomic hside hlevel hi hrate hb hb' ha hfl hp x
    have hcommits := tmShaperEntry_commits hside hlevel hi hrate hb hb' ha hfl s
    refine ⟨_, congrArg Host.Outcome.next (fcpDma_batch_one htaken rfl hatomic hflag (by decide) (by decide)
      (fun d => if_neg (Bool.eq_false_iff.mp hlc)) (hp.trans (by simp [shaperRequest])) (by simp [shaperRequest]) hcommits),
      ?_, fun sd lv j hsd hlv hne => ?_⟩
    · rw [shaperOf_setShaper _ s hside hside hlevel hlevel, if_pos ⟨rfl, rfl, rfl⟩, shaperCommit, signed_byte, tok, Int.natCast_mul]; rfl
    · rw [shaperOf_setShaper _ s hside hsd hlevel hlv, if_neg (by simpa using hne)]
  case queueSet =>
    intro s mb c d e htaken hatomic hflag hp status t ⟨hlc, hsize, hrule⟩
    have hentry : tmQueueEntry e s = (status, t) := by
      rcases hrule with ⟨hbad, rfl, rfl⟩ | ⟨hwell, hbusy, rfl, rfl⟩ | ⟨hwell, hfree, rfl, rfl⟩
      · exact tmQueueEntry_malformed hbad
      · exact tmQueueEntry_busy hwell hbusy
      · exact tmQueueEntry_commits hwell hfree
    exact congrArg Host.Outcome.next (fcpDma_batch_one htaken rfl hatomic hflag (by decide) (by decide)
      (fun d => if_neg (Bool.eq_false_iff.mp hlc)) hp hsize hentry)

end Sys2Proof.Machine
end

section
/-! PROOF. The other commands of the traffic managers, policers and gates (O28). -/
namespace Sys2Proof.Machine

/-! ### Commands that name a port, a queue, a policer or a shaper (R212, R233; O28) -/

section
variable {c : Cmd} {n : Nat} (hn : n < 64) (hp : c.payload = le 1 n ++ zb 3)
include hn hp

/-- A request that names a port is well formed. -/
theorem portRequest_fields : u8 c.payload 0 = n ∧
    (c.payload.length != 4 || decide (63 < n) || !zeros c.payload 1 3) = false := by
  have hport : u8 c.payload 0 = n := by rw [hp]; simp; omega
  have hrange : ¬ 63 < n := by omega
  exact ⟨hport, by rw [hp]; simp [hrange]⟩

theorem tmPortGet_answers {s : State} (hlc : lcBad s = false) : tmPortGet c s = okWith (tmPortBytes s n) s := by
  obtain ⟨hport, hgo⟩ := portRequest_fields hn hp
  simp only [tmPortGet, hlc, hgo, hport, Bool.false_eq_true, if_false]

/-- Table 8-7. -/
theorem tmStatsGet_answers {s : State} (hlc : lcBad s = false) : tmStatsGet c s =
    let x := tmPort s n
    let t := tmOf s (tmSide n)
    okWith ([BitVec.ofNat 8 n, BitVec.ofNat 8 (mask [x.xoff, haltMask s x != 0]), BitVec.ofNat 8 x.clsXoff,
      BitVec.ofNat 8 (haltMask s x)] ++ zb 4 ++ le64 s.tsu.ns ++ le 4 (rangeCells t (rangeOf t (tmSide n) (n % 32))) ++
      le 4 x.highWater ++ le64 x.stick ++ le64 x.expSent ++ le64 x.expMiss ++ le64 x.expRefused ++ le64 x.xoffCnt ++
      le64 (pausedNow s x) ++ le 4 (sharedFree s (tmSide n)) ++ zb 4) s := by
  obtain ⟨hport, hgo⟩ := portRequest_fields hn hp
  simp only [tmStatsGet, hlc, hport, hgo, Bool.false_eq_true, if_false]

/-- The status of a port's gates takes 144 bytes, the port and its state of Table 9-4 first (Table 9-8). -/
theorem gclStatusGet_answers {s : State} (hlc : lcBad s = false) :
    ∃ b, gclStatusGet c s = okWith b s ∧ b.length = 144 ∧ b.take 2 = le 1 n ++ le 1 (gateOf s n).st := by
  obtain ⟨hport, hgo⟩ := portRequest_fields hn hp
  simp only [gclStatusGet, hlc, hport, hgo, Bool.false_eq_true, if_false]
  exact ⟨_, rfl, by simp [le64, List.range_succ], rfl⟩

end

section
variable {c : Cmd} {side q : Nat} (hside : side ≤ 1) (hp : c.payload = le 1 side ++ zb 1 ++ le 2 q)
include hside hp

/-- A request that names a queue or a policer of a side is well formed but for the range of its index. -/
theorem indexRequest_fields (hq : q < 65536) : u8 c.payload 0 = side ∧ u16 c.payload 2 = q ∧
    (c.payload.length != 4 || decide (1 < side) || u8 c.payload 1 != 0) = false := by
  have h0 : u8 c.payload 0 = side := by rw [hp]; simp; omega
  have h2 : u16 c.payload 2 = q := by rw [hp]; simp; omega
  exact ⟨h0, h2, by rw [hp]; simp [hside, u8_zb_append]⟩

theorem tmQueueGet_answers {s : State} (hlc : lcBad s = false) (hq : q ≤ 2047) :
    tmQueueGet c s = okWith (tmQueueBytes side q (queueOf s side q)) s := by
  obtain ⟨h0, h2, hgo⟩ := indexRequest_fields hside hp (Nat.lt_of_le_of_lt hq (by decide))
  have hrange : decide (2047 < q) = false := decide_eq_false (Nat.not_lt.mpr hq)
  simp only [tmQueueGet, hlc, hgo, h0, h2, hrange, Bool.or_false, Bool.false_eq_true, if_false]

theorem polGet_answers {s : State} (hlc : lcBad s = false) (hq : q ≤ 8191) : polGet c s =
    okWith (polBytes side q (polOf s side q) ++ leInt 4 ((polOf s side q).c.tdiv 16777216) ++
      leInt 4 ((polOf s side q).e.tdiv 16777216) ++ zb 8) s := by
  obtain ⟨h0, h2, hgo⟩ := indexRequest_fields hside hp (Nat.lt_of_le_of_lt hq (by decide))
  have hrange : decide (8191 < q) = false := decide_eq_false (Nat.not_lt.mpr hq)
  simp only [polGet, hlc, hgo, h0, h2, hrange, Bool.or_false, Bool.false_eq_true, if_false, tokBytes]

end

theorem tmShaperGet_answers {c : Cmd} {s : State} {side level i : Nat} (hlc : lcBad s = false) (hside : side ≤ 1) (hlevel : level ≤ 2)
    (hi : i < shaperCount level) (hp : c.payload = le 1 side ++ le 1 level ++ le 2 i) : tmShaperGet c s =
      let x := shaperOf s side level i
      okWith (c.payload ++ le 4 x.rate ++ le 4 x.burst ++ leInt 1 x.adjust ++ le 1 (b2n x.excl + 2 * b2n x.zero) ++ zb 2 ++
        leInt 4 (x.credit.tdiv 16777216) ++ zb 4) s := by
  have hcount := shaperCount_le level
  have h0 : u8 c.payload 0 = side := by rw [hp]; simp; omega
  have h1 : u8 c.payload 1 = level := by rw [hp]; simp; omega
  have h2 : u16 c.payload 2 = i := by rw [hp]; simp; omega
  have hlen : c.payload.length = 4 := by rw [hp]; simp
  have hwhole : sub c.payload 0 4 = c.payload := List.take_of_length_le (Nat.le_of_eq hlen)
  have hgo : (c.payload.length != 4 || decide (1 < side) || decide (2 < level) || decide (shaperCount level ≤ i)) = false := by
    simp [hlen]; omega
  simp only [tmShaperGet, hlc, h0, h1, h2, hgo, hwhole, Bool.false_eq_true, if_false]
  rfl

/-! ### TM_PORT_SET (R212; O28) -/

/-- A valid request commits where the range stays, or the port is DISABLED or ADMIN_DOWN. -/
theorem tmPortSet_commits {c : Cmd} {s : State} (hlc : lcBad s = false) (hvalid : tmPortValid s c.payload = true)
    (hrange : (u16 c.payload 2, u16 c.payload 4) =
        rangeOf (tmOf s (tmSide (u8 c.payload 0))) (tmSide (u8 c.payload 0)) (u8 c.payload 0 % 32) ∨
      (port s (u8 c.payload 0)).st = .disabled ∨ (port s (u8 c.payload 0)).st = .adminDown) :
    tmPortSet c s = ok (setTmPort (u8 c.payload 0) (fun x => { x with
      range := if (u16 c.payload 2, u16 c.payload 4) = (64 * (u8 c.payload 0 % 32), 64) then none
        else some (u16 c.payload 2, u16 c.payload 4)
      headroom := u16 c.payload 6, xonGap := u16 c.payload 8, classXoff := u16 c.payload 10, lead := u16 c.payload 12
      expMax := u16 c.payload 14, pfc := (sub c.payload 16 8).map (·.toNat) }) s) := by
  have hgo : ((u16 c.payload 2, u16 c.payload 4) !=
      rangeOf (tmOf s (tmSide (u8 c.payload 0))) (tmSide (u8 c.payload 0)) (u8 c.payload 0 % 32) &&
      !((port s (u8 c.payload 0)).st == .disabled || (port s (u8 c.payload 0)).st == .adminDown)) = false := by
    rcases hrange with h | h | h <;> rw [h] <;> simp
  simp only [tmPortSet, hlc, hvalid, hgo, Bool.not_true, Bool.false_eq_true, if_false, beq_iff_eq]

/-! ### GCL_SET (R222, R226, R233; O28) -/

/-- An entry of a gate list in a request (Table 9-3). -/
def gclEntryBytes (e : Nat × Nat) : Bytes := le 4 e.1 ++ le 1 e.2 ++ zb 3

/-- The head of an inline request (Table 9-2). -/
def gclHead (p enable n cycle base ext guardNs : Nat) : Bytes :=
  le 1 p ++ le 1 enable ++ le 2 n ++ le 4 cycle ++ le 8 base ++ le 4 ext ++ le 4 guardNs ++ zb 8

/-- An entry is well formed: its interval is 32 ns to 1 s, and its gate states take 8 bits (R222). -/
def GclEntryOk (e : Nat × Nat) : Prop := 32 ≤ e.1 ∧ e.1 ≤ 1000000000 ∧ e.2 < 256

theorem gclEntryBytes_length (e : Nat × Nat) : (gclEntryBytes e).length = 8 := by simp [gclEntryBytes]

theorem gclEntryBytes_fields {e : Nat × Nat} (h : GclEntryOk e) : u32 (gclEntryBytes e) 0 = e.1 ∧ u8 (gclEntryBytes e) 4 = e.2 ∧
    u8 (gclEntryBytes e) 5 = 0 ∧ zeros (gclEntryBytes e) 6 2 = true := by
  obtain ⟨-, hlong, hgates⟩ := h
  simp [gclEntryBytes]
  omega

/-- An entry is read back from its bytes. -/
theorem gclEntry_gclEntryBytes {e : Nat × Nat} (h : GclEntryOk e) : gclEntry (gclEntryBytes e) = e := by
  obtain ⟨h0, h4, -⟩ := gclEntryBytes_fields h
  rw [gclEntry, h0, h4]

section
variable {es : List (Nat × Nat)} (hes : ∀ e ∈ es, GclEntryOk e)
include hes

theorem map_gclEntry : (es.map gclEntryBytes).map gclEntry = es := by
  rw [List.map_map]
  exact (List.map_congr_left fun e he => gclEntry_gclEntryBytes (hes e he)).trans (List.map_id es)

theorem gclEntries_inRange :
    (es.map gclEntryBytes).any (fun e => decide (u32 e 0 < 32) || decide (1000000000 < u32 e 0) || !zeros e 6 2) = false := by
  simp only [List.any_map, List.any_eq_false, Function.comp]
  intro e he
  obtain ⟨h0, -, -, h6⟩ := gclEntryBytes_fields (hes e he)
  obtain ⟨hshort, hlong, -⟩ := hes e he
  simp [h0, h6, hshort, hlong]

theorem gclEntries_supported : (es.map gclEntryBytes).any (fun e => u8 e 5 != 0) = false := by
  simp only [List.any_map, List.any_eq_false, Function.comp]
  intro e he
  obtain ⟨-, -, h5, -⟩ := gclEntryBytes_fields (hes e he)
  simp [h5]

end

/-- The guard time in force: 1,000 ns for a field of 0 (R222). -/
def guardInForce (guardNs : Nat) : Nat := if guardNs = 0 then 1000 else guardNs

/-- The list that a request gives (R222). -/
def gateListOf (cycle base ext guardNs : Nat) (es : List (Nat × Nat)) : GateList :=
  ⟨BitVec.ofNat 64 base, cycle, ext, guardInForce guardNs, es⟩

/-- A port's gates with a list pending, `r` its T_c and its N of R226: a list whose start N cycles have passed is late (Tables 9-4 and 9-8). -/
def gatePends (l : GateList) (r : W64 × Nat) (g : Gate) : Gate :=
  { g with
    pend := some l, tc := r.1, st := if g.st = 0 ∨ g.st = 1 then 1 else 3
    late := if 0 < r.2 then g.late + 1 else g.late }

/-- What a GCL_SET that gives a list answers, and the late start it reports (R226). -/
def gclPends (p : Nat) (l : GateList) (r : W64 × Nat) (s : State) : Res :=
  okWith (le64 r.1 ++ le 4 r.2 ++ bit8 (decide (0 < r.2)) ++ zb 3)
    (if 0 < r.2 then evH 0x5006 (le 1 p ++ le64 r.1 ++ le 4 r.2) (setGate p (gatePends l r) s) else setGate p (gatePends l r) s)

/-- In time, the list is pending, and nothing is counted or reported. -/
theorem gclPends_inTime (p : Nat) (l : GateList) {r : W64 × Nat} (s : State) (h : r.2 = 0) : gclPends p l r s =
    okWith (le64 r.1 ++ zb 8)
      (setGate p (fun g => { g with pend := some l, tc := r.1, st := if g.st = 0 ∨ g.st = 1 then 1 else 3 }) s) := by
  have hlate : ¬ 0 < r.2 := Nat.not_lt.mpr (Nat.le_of_eq h)
  have hgate : gatePends l r = fun g => { g with pend := some l, tc := r.1, st := if g.st = 0 ∨ g.st = 1 then 1 else 3 } :=
    funext fun g => by simp only [gatePends, hlate, if_false]
  rw [gclPends, if_neg hlate, hgate, decide_eq_false hlate, h, List.append_assoc, List.append_assoc]
  rfl

/-- A late start is counted and reported. -/
theorem gclPends_late (p : Nat) (l : GateList) {r : W64 × Nat} (s : State) (h : 0 < r.2) : gclPends p l r s =
    okWith (le64 r.1 ++ le 4 r.2 ++ le 1 1 ++ zb 3) (evH 0x5006 (le 1 p ++ le64 r.1 ++ le 4 r.2)
      (setGate p (fun g => { g with
        pend := some l, tc := r.1, st := if g.st = 0 ∨ g.st = 1 then 1 else 3, late := g.late + 1 }) s)) := by
  have hgate : gatePends l r = fun g => { g with
      pend := some l, tc := r.1, st := if g.st = 0 ∨ g.st = 1 then 1 else 3, late := g.late + 1 } :=
    funext fun g => by simp only [gatePends, h, if_true]
  rw [gclPends, if_pos h, hgate, decide_eq_true h]
  rfl

/-- A port's gates without a list: open, and OFF (Table 9-4). -/
def gateOff (g : Gate) : Gate := { g with st := 0, oper := none, pend := none, gates := 255 }

section
variable {p cycle base ext guardNs : Nat} {es : List (Nat × Nat)} {c : Cmd} {s : State}
  (hlc : lcBad s = false) (hport : p < 64) (hshort : 1000 ≤ cycle) (hlong : cycle ≤ 1000000000) (hbase : base < 2 ^ 64)
  (hext : ext ≤ cycle) (hguard : guardNs = 0 ∨ (100 ≤ guardNs ∧ guardNs ≤ 1000000)) (hflag : nbit c.flags 3 = false)
  (hn : es.length ≤ 506) (hes : ∀ e ∈ es, GclEntryOk e)
  (hp : c.payload = gclHead p (if es = [] then 0 else 1) es.length cycle base ext guardNs ++ es.flatMap gclEntryBytes)

include hport hlong hbase hext hguard hn hp

/-- Each field of the head is read back from the request's bytes. -/
theorem gclRequest_fields : u8 c.payload 0 = p ∧ u8 c.payload 1 = (if es = [] then 0 else 1) ∧ u16 c.payload 2 = es.length ∧
    u32 c.payload 4 = cycle ∧ u64 c.payload 8 = base ∧ u32 c.payload 16 = ext ∧ u32 c.payload 20 = guardNs ∧
    u64 c.payload 24 = 0 := by
  have hen : (if es = [] then 0 else 1) % 256 = if es = [] then 0 else 1 := by split <;> rfl
  simp [hp, gclHead, hen]
  omega

omit hport hlong hbase hext hguard hn in
/-- The entries are read back from what follows the head. -/
theorem gclRequest_entries : c.payload.length = 32 + 8 * es.length ∧
    pieces 8 es.length (c.payload.drop 32) = es.map gclEntryBytes := by
  have hhead : (gclHead p (if es = [] then 0 else 1) es.length cycle base ext guardNs).length = 32 := by simp [gclHead]
  have hrest : es.flatMap gclEntryBytes = (es.map gclEntryBytes).flatten := List.flatMap_def ..
  have hsize : ∀ b ∈ es.map gclEntryBytes, b.length = 8 := List.forall_mem_map.mpr fun e _ => gclEntryBytes_length e
  refine ⟨?_, ?_⟩
  · rw [hp, List.length_append, hhead, hrest, List.length_flatten, List.map_congr_left hsize, List.map_const', List.length_map,
      List.sum_replicate_nat, Nat.mul_comm]
  · have h := pieces_flatten hsize
    rw [List.length_map] at h
    rw [hp, List.drop_left' hhead, hrest, h]

include hlc hshort hflag hes

/-- GCL_SET on a well-formed request. -/
theorem gclSet_wellFormed (d : DmaRead) : gclSet d c s =
    if es = [] then okWith (le64 s.tsu.ns ++ zb 8) (setGate p gateOff s)
    else gclPends p (gateListOf cycle base ext guardNs es)
      (gateTc s.tsu.ns (BitVec.ofNat 64 base) cycle (guardInForce guardNs)) s := by
  obtain ⟨h0, h1, h2, h4, h8, h16, h20, h24⟩ := gclRequest_fields hport hlong hbase hext hguard hn hp
  obtain ⟨hlen, hpieces⟩ := gclRequest_entries hp
  refine (if_neg (Bool.eq_false_iff.mp hlc)).trans ((if_neg ?range).trans ?run)
  case range =>
    simp only [h0, h1, h2, h4, h16, h20, h24, hflag, hlen]
    cases es with
    | nil => simp [nbit]; omega
    | cons e es =>
      have hcount : es.length + 1 ≤ 506 := hn
      simp [nbit]
      omega
  case run =>
    simp only [h0, h1, h2, h4, h8, h16, h20, hflag, hpieces, gclEntries_inRange hes,
      gclEntries_supported hes, map_gclEntry hes, Bool.false_eq_true, if_false]
    cases es with
    | nil => simp [nbit]; rfl
    | cons e es => simp [nbit]; rfl

end

/-! ### GCL_GET (R233; O28) -/

section
variable {op mb : Nat} {c : Cmd} {s t : State} {r : Reply} {body : Cmd → State → Res}

/-- A command that sends nothing to the host answers as its body does, whatever ranges are offered (R315). -/
theorem fcpOut_unsent (h : Taken op mb s c) (reads : List (Nat × Nat)) (hst : r.status ≠ stIntegrity) (hb : body c s = .done r s) :
    fcpOut op mb reads body s = finish c r s := by
  refine fcp_done h ?_
  unfold dmaRun
  split
  · exact hb
  · split <;> simp [hb, dmaStopped, dmaUnsent, hst]

/-- A command whose output the firewall does not judge answers as its body does. -/
theorem fcpOut_unjudged (h : Taken op mb s c) (hb : body c s = .done r t) : fcpOut op mb [] body s = finish c r t := by
  have hrun : fcpOut op mb [] body s = settle c (body c s) := fcpDma_taken h (dmaDenied_data s [])
  rw [hrun, hb, settle]

end

section
variable {p which a : Nat} {l : GateList} {c : Cmd} {s : State} (hlc : lcBad s = false) (hport : p < 64) (hwhich : which ≤ 1)
  (ha : a < 2 ^ 64) (hl : (if which = 0 then (gateOf s p).oper else (gateOf s p).pend) = some l)
  (hp : c.payload = le 1 p ++ le 1 which ++ zb 2 ++ le 8 a)
include hlc hport hwhich ha hl hp

/-- GCL_GET of a list that is there: up to 506 entries go inline, more by DMA. -/
theorem gclGet_listed : gclGet c s =
    if 506 < l.entries.length then
      if (a == 0 || !dmaRange a (gclBytes p l).2.length) = true then fail stInvalid s
      else okWith (gclBytes p l).1 (dmaPut a (gclBytes p l).2 s)
    else okWith ((gclBytes p l).1 ++ (gclBytes p l).2) s := by
  have h0 : u8 c.payload 0 = p := by rw [hp]; simp; omega
  have h1 : u8 c.payload 1 = which := by rw [hp]; simp; omega
  have h4 : u64 c.payload 4 = a := by rw [hp]; simp; omega
  have hgo : (c.payload.length != 12 || decide (63 < p) || decide (1 < which) || !zeros c.payload 2 2) = false := by
    have hrange : ¬ 63 < p := by omega
    rw [hp]; simp [hrange, hwhich]
  simp only [gclGet, hlc, h0, h1, h4, hgo, beq_iff_eq, hl, Bool.false_eq_true, if_false]

end

/-- A list's entries take 8 bytes each (Table 9-3). -/
theorem gclBytes_entries_length (p : Nat) (l : GateList) : (gclBytes p l).2.length = 8 * l.entries.length := by
  have hentry : ∀ e : Nat × Nat, (le 4 e.1 ++ [BitVec.ofNat 8 e.2, 0] ++ zb 2).length = 8 := fun e => by simp
  rw [gclBytes, List.length_flatMap, List.map_congr_left fun e _ => hentry e, List.map_const', List.sum_replicate_nat, Nat.mul_comm]

/-- Settles O28: each command's request is read back field by field, and what the tables give is answered. -/
theorem tmAndGateCommandsComplete : Obligations.TmAndGateCommandsComplete := by
  unfold Obligations.TmAndGateCommandsComplete
  refine ⟨?portSet, ?ofPort, ?ofIndex, ?ofShaper, ?gclSet, ?gclGet⟩
  case portSet =>
    exact fun s mb c htaken hlc hvalid hrange => congrArg Host.Outcome.next (fcp_done htaken (tmPortSet_commits hlc hvalid hrange))
  case ofPort =>
    intro s mb n c hlc hn hp
    refine ⟨fun htaken => ?portGet, fun htaken => ?statsGet, fun htaken => ?status⟩
    case portGet => exact congrArg Host.Outcome.next (fcp_done htaken (tmPortGet_answers hn hp hlc))
    case statsGet => exact congrArg Host.Outcome.next (fcp_done htaken (tmStatsGet_answers hn hp hlc))
    case status =>
      obtain ⟨b, hb, hlen, hhead⟩ := gclStatusGet_answers hn hp hlc
      exact ⟨b, congrArg Host.Outcome.next (fcp_done htaken hb), hlen, hhead⟩
  case ofIndex =>
    exact fun s mb side q c hlc hside hp =>
      ⟨fun htaken hq => congrArg Host.Outcome.next (fcp_done htaken (tmQueueGet_answers hside hp hlc hq)),
        fun htaken hq => congrArg Host.Outcome.next (fcp_done htaken (polGet_answers hside hp hlc hq))⟩
  case ofShaper =>
    exact fun s mb side level i c htaken hlc hside hlevel hi hp =>
      congrArg Host.Outcome.next (fcp_done htaken (tmShaperGet_answers hlc hside hlevel hi hp))
  case gclSet =>
    intro s mb p cycle base ext guardNs d es c htaken hlc hport hshort hlong hbase hext hguard hflag hn hes hp r l
    have hrun := gclSet_wellFormed hlc hport hshort hlong hbase hext hguard hflag hn hes hp
    have answers {b t} (h : ∀ d, gclSet d c s = okWith b t) : AnswersOk (.gclSet mb d) s c b t :=
      congrArg Host.Outcome.next (fcpDma_inline htaken hflag rfl h)
    refine ⟨fun hne hearly => ?inTime, fun hne hlate => ?late, fun hnil => ?disabled⟩
    case inTime => exact answers fun d => (hrun d).trans ((if_neg hne).trans (gclPends_inTime p l s hearly))
    case late => exact answers fun d => (hrun d).trans ((if_neg hne).trans (gclPends_late p l s hlate))
    case disabled => exact answers fun d => (hrun d).trans (if_pos hnil)
  case gclGet =>
    intro s mb p which a l c htaken hlc hport hwhich ha hl hp
    have hrun := gclGet_listed hlc hport hwhich ha hl hp
    refine ⟨fun hfew reads => ?inline, fun hmany hne hdma => ?dma⟩
    case inline =>
      exact congrArg Host.Outcome.next (fcpOut_unsent htaken reads (show stOk ≠ stIntegrity by decide)
        (hrun.trans (if_neg (Nat.not_lt.mpr hfew))))
    case dma =>
      have hgo : (a == 0 || !dmaRange a (gclBytes p l).2.length) = false := by
        rw [gclBytes_entries_length, hdma, beq_false_of_ne hne]; rfl
      exact congrArg Host.Outcome.next (fcpOut_unjudged htaken
        (hrun.trans ((if_pos hmany).trans (if_neg (Bool.eq_false_iff.mp hgo)))))

end Sys2Proof.Machine
end

section
/-! PROOF. Policers: the refill and POL_SET (O30). -/
namespace Sys2Proof.Machine

/-! ### The refill (R214, R215) -/

/-- A policer after reset is DISABLED, so the refill keeps the policers that no table lists. -/
theorem polRefill_reset : polRefill .reset = .reset := rfl

/-- The refill of every policer of a side. -/
theorem polOf_policerRefill {s : State} (hlive : live s = true) (side i : Nat) :
    polOf (policerRefill s) side i = polRefill (polOf s side i) := by
  have hside : (policerRefill s).pol.get side = tmap .reset polRefill (s.pol.get side) := by
    rw [policerRefill, if_pos hlive]; exact (apply_ite (tmap .reset polRefill) (side = 0) _ _).symm
  rw [polOf, hside, tget_tmap _ _ polRefill_reset, polOf]

/-- The refill changes nothing but the policers. -/
theorem policerRefill_frame {s : State} (hlive : live s = true) : policerRefill s = { s with pol := (policerRefill s).pol } := by
  simp only [policerRefill, hlive, if_true]

section
variable {p : Policer}

/-- Under SRTCM the refill of C goes over into E. -/
theorem polRefill_srtcm (h : p.mode = 1) : polRefill p = { p with
    c := min (p.c + refillOf p.cir) (tok p.cbs),
    e := if 0 < p.c + refillOf p.cir - tok p.cbs then min (p.e + (p.c + refillOf p.cir - tok p.cbs)) (tok p.ebs) else p.e } := by
  simp only [polRefill, h, Int.sub_pos]

/-- Under TRTCM each bucket has its own rate. -/
theorem polRefill_trtcm (h : p.mode = 2) : polRefill p = { p with
    c := min (p.c + refillOf p.cir) (tok p.cbs), e := min (p.e + refillOf p.pir) (tok p.ebs) } := by
  simp only [polRefill, h]

theorem polRefill_disabled (h1 : p.mode ≠ 1) (h2 : p.mode ≠ 2) : polRefill p = p := by
  unfold polRefill
  split
  · contradiction
  · contradiction
  · rfl

end

/-- Whole bytes in units of 2^-24 byte (R214). -/
theorem tok_eq (bytes : Nat) : tok bytes = (bytes : Int) * 16777216 := Int.natCast_mul ..

/-! ### POL_SET (R220, R233) -/

/-- ADJUST of an entry of POL_SET: a byte read as a signed number (Table 9-11). -/
def polEntryAdjust (e : Bytes) : Int := if 128 ≤ u8 e 6 then (u8 e 6 : Int) - 256 else (u8 e 6 : Int)

/-- What makes an entry of POL_SET malformed (Table 9-11). -/
def PolEntryMalformed (e : Bytes) : Prop :=
  1 < u8 e 0 ∨ u8 e 1 ≠ 0 ∨ 8191 < u16 e 2 ∨ 2 < u8 e 4 ∨ 1 < u8 e 5 ∨ u8 e 7 ≠ 0 ∨ polEntryAdjust e < -64 ∨ 127 < polEntryAdjust e ∨
    zeros e 24 8 = false ∨ 16777215 < u32 e 16 ∨ 16777215 < u32 e 20 ∨ (u8 e 4 ≠ 2 ∧ u32 e 12 ≠ 0) ∨
    (u8 e 4 = 2 ∧ u32 e 12 < u32 e 8)

/-- The policer that an entry of POL_SET leaves: its parameters, both buckets full, and no debit owed from before (R220). -/
def polCommit (e : Bytes) (p : Policer) : Policer :=
  { p with mode := u8 e 4, aware := decide (u8 e 5 = 1), adjust := polEntryAdjust e, cir := u32 e 8, pir := u32 e 12,
           cbs := u32 e 16, ebs := u32 e 20, c := (u32 e 16 : Int) * 16777216, e := (u32 e 20 : Int) * 16777216,
           epoch := p.epoch + 1 }

section
variable {e : Bytes} {s : State}

theorem signed_polEntryAdjust : signed 1 (u8 e 6) = polEntryAdjust e := by
  rw [signed_byte, polEntryAdjust]; split <;> split <;> omega

/-- No byte reads above 127. -/
theorem polEntryAdjust_le : ¬ 127 < polEntryAdjust e := by
  have hbyte : u8 e 6 < 256 := BitVec.isLt _
  unfold polEntryAdjust; split <;> omega

theorem polEntryMalformed_iff : PolEntryMalformed e ↔ (decide (1 < u8 e 0) || u8 e 1 != 0 || decide (8191 < u16 e 2) ||
    decide (2 < u8 e 4) || decide (1 < u8 e 5) || u8 e 7 != 0 || decide (polEntryAdjust e < -64) || !zeros e 24 8 ||
    decide (16777215 < u32 e 16) || decide (16777215 < u32 e 20) || (u8 e 4 != 2 && u32 e 12 != 0) ||
    (u8 e 4 == 2 && decide (u32 e 12 < u32 e 8))) = true := by
  simp only [PolEntryMalformed, polEntryAdjust_le, false_or, Bool.or_eq_true, Bool.and_eq_true, decide_eq_true_eq, beq_iff_eq,
    bne_iff_ne, Bool.not_eq_true', or_assoc]

theorem polEntry_malformed (h : PolEntryMalformed e) : polEntry e s = (stInvalid, s) := by
  simp only [polEntry, signed_polEntryAdjust, polEntryMalformed_iff.mp h, if_true]

/-- A well-formed entry commits on its policer. -/
theorem polEntry_commits (h : ¬ PolEntryMalformed e) : polEntry e s = (stOk, setPol (u8 e 0) (u16 e 2) (polCommit e) s) := by
  have hgo := Bool.eq_false_iff.mpr (mt polEntryMalformed_iff.mpr h)
  have haware : nbit (u8 e 5) 0 = decide (u8 e 5 = 1) := by
    have hbit : u8 e 5 ≤ 1 := Nat.not_lt.mp fun hlarge => h (by simp only [PolEntryMalformed, hlarge, true_or, or_true])
    rw [nbit, Nat.testBit_zero, Nat.mod_eq_of_lt (Nat.lt_succ_of_le hbit)]
  simp only [polEntry, signed_polEntryAdjust, hgo, haware, tok_eq, Bool.false_eq_true, if_false]
  rfl

end

/-- Settles O30: an entry of POL_SET is malformed or commits, and the refill takes each policer by itself, in its mode. -/
theorem policersRefill : Obligations.PolicersRefill := by
  unfold Obligations.PolicersRefill
  refine ⟨?polSet, fun s side i hlive _ => ⟨policerRefill s, rfl, policerRefill_frame hlive, ?refill⟩⟩
  case polSet =>
    intro s mb c d e htaken hatomic hflag hp status t ⟨hlc, hsize, hrule⟩
    have hentry : polEntry e s = (status, t) := by
      rcases hrule with ⟨hbad, rfl, rfl⟩ | ⟨hwell, rfl, rfl⟩
      · exact polEntry_malformed hbad
      · exact polEntry_commits hwell
    exact congrArg Host.Outcome.next (fcpDma_batch_one htaken rfl hatomic hflag (by decide) (by decide)
      (fun d => if_neg (Bool.eq_false_iff.mp hlc)) hp hsize hentry)
  case refill =>
    refine (polOf_policerRefill hlive side i).trans ?_
    generalize polOf s side i = p
    by_cases h1 : p.mode = 1
    · simp only [if_pos h1, polRefill_srtcm h1, tok_eq, refillOf]
    · by_cases h2 : p.mode = 2
      · simp only [if_neg h1, if_pos h2, polRefill_trtcm h2, tok_eq, refillOf]
      · simp only [if_neg h1, if_neg h2, polRefill_disabled h1 h2]

end Sys2Proof.Machine
end

section
/-! PROOF. Steps, loads and slews of TOD (O34), and the TCLK cycle that passes on an empty queue (O1). -/
namespace Sys2Proof.Machine

/-! ### What a step of TOD does to the time-sync unit (R228, R237, R367) -/

@[simp] theorem evH_tsu (code : Nat) (ps : Bytes) (s : State) : (evH code ps s).tsu = s.tsu := by rw [evH_frame]

@[simp] theorem evF_tsu (code : Nat) (ps : Bytes) (s : State) : (evF code ps s).tsu = s.tsu := by rw [evF_frame]

@[simp] theorem gateOperate_tsu (p : Nat) (tod : W64) (s : State) : (gateOperate p tod s).tsu = s.tsu := by
  unfold gateOperate
  dsimp only
  split
  · rfl
  · rw [evH_tsu, setGate_tsu, setGate_tsu]

@[simp] theorem gateRealign_tsu (s : State) (p : Nat) : (gateRealign s p).tsu = s.tsu := by
  unfold gateRealign
  dsimp only
  generalize hg : (if ((gateOf s p).st == 1 || (gateOf s p).st == 3) && reached s.tsu.ns (gateOf s p).tc
    then gateOperate p s.tsu.ns s else s) = t
  have ht : t.tsu = s.tsu := by rw [← hg]; split <;> simp
  split
  · rw [evH_tsu, setGate_tsu, ht]
  · exact ht

@[simp] theorem realignAll_tsu (s : State) : (realignAll s).tsu = s.tsu :=
  List.foldlRecOn _ _ (motive := fun t => t.tsu = s.tsu) rfl fun t ht p _ => (gateRealign_tsu t p).trans ht

@[simp] theorem rtcRun_tsu (s : State) : (rtcRun s).tsu = s.tsu := by
  unfold rtcRun
  split <;> rfl

@[simp] theorem evdWrite_tsu (code cls : Nat) (param : W64) (s : State) : (evdWrite code cls param s).tsu = s.tsu := by
  have hrtc : (if s.tamper.onBattery then rtcRun s else s).tsu = s.tsu := by split <;> simp
  unfold evdWrite
  dsimp only
  generalize (if s.tamper.onBattery then rtcRun s else s) = t at hrtc ⊢
  split
  · exact hrtc
  · split
    · split
      · exact hrtc
      · rw [evH_tsu]; exact hrtc
    · exact hrtc

@[simp] theorem timeAnchor_tsu (s : State) : (timeAnchor s).tsu = s.tsu := by
  unfold timeAnchor
  split
  · simp
  · rfl

theorem Steady.expressMiss {s t : State} (h : Steady s t) (id : Nat) (f : Frame) : Steady s (expressMiss id f t) :=
  (h.setTm _ _).cutFrame id

/-- Whatever frames a step drops and whatever lists it realigns, of the time-sync unit it writes these fields. -/
theorem stepped_tsu (d : W64) (s : State) : (stepped d s).tsu = { s.tsu with
    slew := 0, stepped := true, timeSet := true, stepCnt := s.tsu.stepCnt + 1, ppsFrom := s.tsu.ppsFrom + d } := by
  rw [stepped, timeAnchor_tsu, realignAll_tsu]
  refine (Steady.foldl (fun {w id} hw => ?_) (.refl _) _).tsu.trans ?_
  · split
    · exact hw.expressMiss _ _
    · exact hw
  · exact evH_tsu _ _ _

theorem todStepBy_tsu (d : W64) (s : State) : (todStepBy d s).tsu = { s.tsu with
    ns := s.tsu.ns + d, slew := 0, stepped := true, timeSet := true, stepCnt := s.tsu.stepCnt + 1
    ppsFrom := s.tsu.ppsFrom + d } := stepped_tsu _ _

theorem todLoadTo_tsu (v : W64) (frac : W32) (s : State) : (todLoadTo v frac s).tsu = { s.tsu with
    ns := v, frac := frac, slew := 0, stepped := true, timeSet := true, stepCnt := s.tsu.stepCnt + 1
    ppsFrom := s.tsu.ppsFrom + (v - s.tsu.ns) } := stepped_tsu _ _

/-! ### What counting changes (R387, R389) -/

/-- Of the state, `t` differs from `s` in the counters, the units and the draws of free values at most. -/
def CountsOnly (s t : State) : Prop :=
  t = { s with cnt := t.cnt, slices := { s.slices with units := t.slices.units }, free := t.free }

section
variable {s t w : State}

theorem CountsOnly.refl (s : State) : CountsOnly s s := rfl

theorem CountsOnly.trans (h : CountsOnly s t) (k : CountsOnly t w) : CountsOnly s w :=
  Eq.trans k (congrArg (fun x : State =>
    { x with cnt := w.cnt, slices := { x.slices with units := w.slices.units }, free := w.free }) h)

theorem CountsOnly.tsu (h : CountsOnly s t) : t.tsu = s.tsu := congrArg (·.tsu) h

theorem CountsOnly.live (h : CountsOnly s t) : Machine.live t = Machine.live s := Eq.trans (congrArg Machine.live h) rfl

theorem CountsOnly.ite {c : Prop} [Decidable c] (h : CountsOnly s t) (k : CountsOnly s w) :
    CountsOnly s (if c then t else w) := by
  split
  · exact h
  · exact k

theorem pmcPut_countsOnly (k n more : Nat) (f : Pmc → Pmc) (s : State) : CountsOnly s (pmcPut k n more f s) :=
  .ite rfl rfl

theorem pmcCount_countsOnly (k n : Nat) (s : State) : CountsOnly s (pmcCount k n s) := by
  unfold pmcCount
  refine .ite (.refl s) ?_
  split
  · exact pmcPut_countsOnly _ _ _ _ s
  · exact .ite (.refl s) (CountsOnly.trans (t := (drawFree 59 s).2) rfl (pmcPut_countsOnly ..))

theorem pmcPass_countsOnly (n k i : Nat) (s : State) : CountsOnly s (pmcPass n k i s) := by
  have hcount := pmcCount_countsOnly k i s
  unfold pmcPass
  refine .ite hcount ?_
  split
  · exact hcount
  · exact hcount.trans (pmcPut_countsOnly ..)

theorem pmcTick_countsOnly (n : Nat) (s : State) : CountsOnly s (pmcTick n s) :=
  CountsOnly.trans (t := (tkeys (fun _ x => x.enable) s.cnt.pmc).foldl (fun t i => pmcPass n (i / 8) (i % 8) t) s)
    (List.foldlRecOn _ _ (.refl s) fun _ ht _ _ => ht.trans (pmcPass_countsOnly ..)) rfl

theorem pmcSettle_countsOnly (k n : Nat) (s : State) : CountsOnly s (pmcSettle k n s) :=
  .ite (pmcCount_countsOnly ..) (.refl s)

theorem cntRead_countsOnly (id : Nat) (s : State) : CountsOnly s (cntRead id s).2 := by
  unfold cntRead
  split
  · exact .refl s
  · split
    · exact pmcSettle_countsOnly ..
    · exact (pmcSettle_countsOnly ..).trans (pmcSettle_countsOnly ..)
    · exact .refl s
    · exact rfl

theorem crdLatch_countsOnly (n : Nat) (s : State) : CountsOnly s (crdLatch n s) := by
  induction n generalizing s with
  | zero => exact .refl s
  | succ n ih =>
    unfold crdLatch
    split
    · exact .refl s
    · refine .ite (.refl s) (.trans ?_ (ih _))
      exact (cntRead_countsOnly _ s).trans rfl

/-- Without an enabled counter, of the counters a cycle advances the count of TCLK alone. -/
theorem pmcTick_idle (n : Nat) (h : ∀ e ∈ s.cnt.pmc, e.2.enable = false) :
    pmcTick n s = { s with cnt := { s.cnt with tclk := s.cnt.tclk + n } } := by
  have hkeys : tkeys (fun _ x => x.enable) s.cnt.pmc = [] := by
    simpa [tkeys, List.filter_eq_nil_iff] using fun a b hab => h (a, b) hab
  rw [pmcTick, hkeys]
  rfl

theorem crdLatch_idle (n : Nat) (h : s.cnt.crdSweep = none) : crdLatch n s = s := by
  cases n with
  | zero => rfl
  | succ n => rw [crdLatch, h]

end

/-! ### TCLK cycles (R234, R237, R242) -/

/-- The 96 bits of TOD: of a number as a TOD, the number modulo 2^64 ns is left. -/
theorem timeNum_timeOf (t : Int) : timeNum (timeOf t).1 (timeOf t).2 = t % 2 ^ 96 := by
  have h0 : 0 ≤ t % 2 ^ 96 := Int.emod_nonneg _ (by decide)
  have hlt : t % 2 ^ 96 < 2 ^ 96 := Int.emod_lt_of_pos _ (by decide)
  simp only [timeOf, timeNum, BitVec.toNat_ofNat]
  omega

/-- What passes of TOD in `n` cycles, in 2^-32 ns: TOD_INC in each, and what the slew absorbs. -/
def todPassed (n : Nat) (t : Tsu) : Int := (n * t.inc : Nat) + slewPart t.inc n t.slew

/-- The time-sync unit after `n` cycles. -/
def tsuAfter (n : Nat) (s : State) : Tsu := { (todAdd (todPassed n s.tsu) s).tsu with
    count := s.tsu.count + n * s.tsu.inc, slew := s.tsu.slew - slewPart s.tsu.inc n s.tsu.slew
    ppsDue := ppsReached (todPassed n s.tsu) (todAdd (todPassed n s.tsu) s) }

/-- What `n` cycles out of reset write apart from the counters. -/
def cyclesPass (n : Nat) (s : State) : State := { s with
  tsu := tsuAfter n s
  mtr := { s.mtr with clocks := s.mtr.clocks + if s.mtr.powered then n else 0 }
  boot := { s.boot with porClk := s.boot.porClk + n, pinClk := s.boot.pinClk + n }
  tamper := { s.tamper with rtcDue := true } }

theorem CountsOnly.cyclesPass {s t : State} (h : CountsOnly s t) (n : Nat) : CountsOnly (cyclesPass n s) (cyclesPass n t) :=
  Eq.trans (congrArg (Machine.cyclesPass n) h) rfl

/-- A slew that is not running takes no part in what passes. -/
theorem slewPart_zero (inc n : Nat) : slewPart inc n 0 = 0 := by
  simp only [slewPart]
  omega

/-- Enough cycles absorb all of a slew (R237). -/
theorem slewPart_whole {inc n : Nat} {slew : Int} (h : slew.natAbs ≤ n * (inc / 1024)) : slewPart inc n slew = slew := by
  simp only [slewPart]
  omega

section
variable {s : State} (n : Nat) (hlive : live s = true)
include hlive

theorem tclks_live : tclks n s = cyclesPass n s := by
  have hmtr : (if s.mtr.powered then { s with mtr := { s.mtr with clocks := s.mtr.clocks + n } } else s) =
      { s with mtr := { s.mtr with clocks := s.mtr.clocks + if s.mtr.powered then n else 0 } } := by
    split <;> rfl
  have hpor : ∀ k : Nat, (if s.boot.por then 0 else k) = k := fun k => if_neg fun h => by simp [live, h] at hlive
  have hon : ∀ (m : Mtr) (r : Tamper) (p q : Nat),
      live { s with mtr := m, tamper := r, boot := { s.boot with porClk := p, pinClk := q } } = true := fun _ _ _ _ => hlive
  have hon' : ∀ m : Mtr, live { s with mtr := m } = true := fun _ => hlive
  unfold tclks
  simp only [hmtr, hpor, hon', hon, Bool.not_true, Bool.false_eq_true, if_false, if_true]
  rfl

/-- Out of reset, the counters count on while the cycles pass. -/
theorem timePasses_countsOnly : CountsOnly (cyclesPass n s) (timePasses n s) := by
  have htick := pmcTick_countsOnly n s
  have hgo : timePasses n s = crdLatch n (tclks n (pmcTick n s)) := if_neg (by simp [hlive])
  rw [hgo, tclks_live n (htick.live.trans hlive)]
  exact (htick.cyclesPass n).trans (crdLatch_countsOnly n _)

theorem timePasses_tsu : (timePasses n s).tsu = tsuAfter n s := (timePasses_countsOnly n hlive).tsu

theorem todNow_timePasses : todNow (timePasses n s) = (todNow s + todPassed n s.tsu) % 2 ^ 96 := by
  rw [todNow, timePasses_tsu n hlive]
  exact timeNum_timeOf _

end

/-! ### An empty queue (O1) -/

/-- Without a slew, TOD advances by TOD_INC in each cycle. -/
theorem todPassed_of_slew_zero (n : Nat) {t : Tsu} (h : t.slew = 0) : todPassed n t = (n * t.inc : Nat) := by
  rw [todPassed, h, slewPart_zero, Int.add_zero]

/-- Without a slew, the cycles write TOD, the count of R242 and the instant of PPS_OUT that TOD reaches. -/
theorem tsuAfter_of_slew_zero (n : Nat) {s : State} (h : s.tsu.slew = 0) : tsuAfter n s = { s.tsu with
    ns := (tsuAfter n s).ns, frac := (tsuAfter n s).frac, count := s.tsu.count + n * s.tsu.inc
    ppsDue := (tsuAfter n s).ppsDue } := by
  have hslew : s.tsu.slew - slewPart s.tsu.inc n s.tsu.slew = s.tsu.slew := by rw [h, slewPart_zero, Int.sub_zero]
  conv => lhs; rw [tsuAfter, hslew]
  rfl

theorem step_idle {s : State} (h : s.pending = []) : step s = .next (timePasses 1 s) := by
  rw [step, h]
  rfl

/-- With no performance counter enabled and no sweep in progress, of the counters only the count of TCLK changes. -/
theorem timePasses_idle (n : Nat) {s : State} (hlive : live s = true) (hpmc : ∀ e ∈ s.cnt.pmc, e.2.enable = false)
    (hsweep : s.cnt.crdSweep = none) :
    timePasses n s = cyclesPass n { s with cnt := { s.cnt with tclk := s.cnt.tclk + n } } := by
  have hgo : timePasses n s = crdLatch n (tclks n (pmcTick n s)) := if_neg (by simp [hlive])
  rw [hgo, pmcTick_idle n hpmc, tclks_live n (by exact hlive), crdLatch_idle n (by exact hsweep)]

/-- Settles O1: a cycle writes TOD and the times that run with it, and what counts in it touches the counters, the units and the
draws alone. -/
theorem stepRunsFrontCommand : Obligations.StepRunsFrontCommand := by
  unfold Obligations.StepRunsFrontCommand
  refine ⟨fun s c rest h => step_front h, fun s hidle hlive hslew => ⟨timePasses 1 s, step_idle hidle, ?tod, ?count, ?clocks,
    ?frame, fun hpmc hsweep => ?quiet⟩⟩
  case tod => rw [todNow_timePasses 1 hlive, todPassed_of_slew_zero 1 hslew, Nat.one_mul]
  case count => rw [timePasses_tsu 1 hlive, tsuAfter, Nat.one_mul]
  case clocks => exact congrArg (·.mtr.clocks) (timePasses_countsOnly 1 hlive)
  case frame =>
    have hcounts := timePasses_countsOnly 1 hlive
    have htsu : tsuAfter 1 s = { s.tsu with
        ns := (timePasses 1 s).tsu.ns, frac := (timePasses 1 s).tsu.frac, count := (timePasses 1 s).tsu.count
        ppsDue := (timePasses 1 s).tsu.ppsDue } := by
      rw [timePasses_tsu 1 hlive]
      exact tsuAfter_of_slew_zero 1 hslew
    have hclocks : (timePasses 1 s).mtr.clocks = s.mtr.clocks + if s.mtr.powered then 1 else 0 :=
      congrArg (·.mtr.clocks) hcounts
    refine Eq.trans hcounts ?_
    rw [cyclesPass, htsu, hclocks]
  case quiet =>
    rw [timePasses_idle 1 hlive hpmc hsweep]
    exact ⟨rfl, rfl, rfl⟩

/-! ### Changes of TOD (O34) -/

section
variable {s : State} (hruns : cpRuns s = true)
include hruns

theorem todCtrl_step : todCtrl false false s = todStepBy s.tsu.adj s := by simp [todCtrl, hruns]

theorem todCtrl_load : todCtrl true false s = todLoadTo s.tsu.adj 0 s := by simp [todCtrl, hruns]

/-- With AT_PPS the change waits for the next PPS_IN edge; a TOD_SET that waits for it keeps waiting (R237). -/
theorem todCtrl_atPps (load : Bool) : todCtrl load true s = { s with tsu := { s.tsu with
    armed := some ⟨load, s.tsu.adj, 0, s.tsu.armed.any (·.command), (s.tsu.armed.map (·.deadline)).getD 0⟩ } } := by
  simp [todCtrl, hruns, setTsu]

theorem todSlew_eq : todSlew s = if s.tsu.adj.toInt.natAbs ≤ 1000000
    then { s with tsu := { s.tsu with slew := s.tsu.adj.toInt * 2 ^ 32 } } else s := by
  simp [todSlew, hruns, todSlewBy, setTsu]

theorem todIncApply_eq (v : W32) : todIncApply v s = { s with tsu := { s.tsu with
    incNs := v.setWidth 4, inc := incClamp ((v.setWidth 4).toNat * 2 ^ 32 + s.tsu.incFrac.toNat : Nat) } } := by
  simp [todIncApply, hruns, setTsu]

end

/-- The limits of 500 ppm, at their boundaries (R234). -/
theorem incClamp_natCast (w : Nat) :
    incClamp w = if w < 5366024766 then 5366024766 else if 5371393474 < w then 5371393474 else w := by
  unfold incClamp
  split
  · omega
  · split <;> omega

/-- SLEW_COMPLETE passes the cycles in which the offset is used up. -/
theorem slewComplete_passes {s : State} (hlive : live s = true) (hslew : s.tsu.slew ≠ 0) : slewComplete s =
    timePasses ((s.tsu.slew.natAbs + s.tsu.inc / 1024 - 1) / (s.tsu.inc / 1024)) s := by
  simp [slewComplete, hlive, hslew]

/-- A quotient rounded up: that many steps reach the whole, and one fewer does not. -/
theorem ceilDiv_bounds {a b : Nat} (ha : a ≠ 0) (hb : 1 ≤ b) :
    ((a + b - 1) / b - 1) * b < a ∧ a ≤ (a + b - 1) / b * b := by
  have hdiv := Nat.div_add_mod (a + b - 1) b
  have hmod := Nat.mod_lt (a + b - 1) hb
  rw [Nat.mul_comm] at hdiv
  rw [Nat.sub_mul, Nat.one_mul]
  omega

/-- Settles O34: a step writes its fields of the time-sync unit whatever else it brings, and SLEW_COMPLETE passes as many cycles as
the offset needs at TOD_INC / 1,024 in each. -/
theorem todChangesByRule : Obligations.TodChangesByRule := by
  unfold Obligations.TodChangesByRule
  refine ⟨fun s hruns => ?changes, fun s hlive => ⟨fun hslew => ?noSlew, fun hinc hslew => ?absorbed⟩⟩
  case changes =>
    refine ⟨⟨_, congrArg Host.Outcome.next (todCtrl_step hruns), todStepBy_tsu _ s⟩,
      ⟨_, congrArg Host.Outcome.next (todCtrl_load hruns), todLoadTo_tsu _ 0 s⟩,
      ⟨congrArg Host.Outcome.next (todCtrl_atPps hruns false), congrArg Host.Outcome.next (todCtrl_atPps hruns true)⟩,
      congrArg Host.Outcome.next (todSlew_eq hruns), congrArg Host.Outcome.next (if_pos hruns),
      congrArg Host.Outcome.next (if_pos hruns), fun v => ?increment⟩
    have happly := todIncApply_eq hruns v
    rw [incClamp_natCast] at happly
    exact congrArg Host.Outcome.next happly
  case noSlew => exact congrArg Host.Outcome.next (if_pos (by simp [hslew]))
  case absorbed =>
    obtain ⟨hfew, henough⟩ := ceilDiv_bounds (Int.natAbs_ne_zero.mpr hslew) ((Nat.one_le_div_iff (by decide)).mpr hinc)
    refine ⟨_, _, congrArg Host.Outcome.next (slewComplete_passes hlive hslew), ?_, hfew, henough, ?_, ?_⟩
    · rw [timePasses_tsu _ hlive, tsuAfter, slewPart_whole henough, Int.sub_self]
    · rw [timePasses_tsu _ hlive, tsuAfter]
    · rw [todNow_timePasses _ hlive, todPassed, slewPart_whole henough, Int.add_assoc]

end Sys2Proof.Machine
end

section
/-! PROOF. A TOD_FREQ_SET at its limit, the state that refutes what is stated of the commands over TOD (O33). -/
namespace Sys2Proof.Machine

/-! ### Answers leave the time-sync unit (R289) -/

@[simp] theorem finish_tsu (c : Cmd) (r : Reply) (s : State) : (finish c r s).tsu = s.tsu :=
  congrArg (·.tsu) (finish_frame c r s)

/-- Commands that are resumed with OK. -/
theorem wake_ok_tsu (p : Wait → Bool) (s : State) : (wake p (fun _ t => ok t) s).tsu = s.tsu :=
  List.foldlRecOn _ _ (motive := fun t => t.tsu = s.tsu) rfl fun t ht c _ => (finish_tsu c _ t).trans ht

/-- Where one command waits, and for what is tested, it is resumed. -/
theorem wake_one {p : Wait → Bool} {s : State} {c : Cmd} (res : Cmd → State → Res) (hcmds : s.hif.cmds = [c])
    (hp : p c.wait = true) : wake p res s = settle c (res c s) := by
  simp [wake, hcmds, hp]

/-! ### TOD_FREQ_SET at 500 ppm (R234, R257; refutes O33) -/

/-- A TOD_FREQ_SET of +500 ppm, the greatest offset that the command takes, in mailbox 0. -/
def freqSetAtLimit : Cmd :=
  { mb := 0, opcode := 0x0603, flags := 0, tag := 0, session := 0, payload := leInt 8 32768000000, claim := []
    discard := false, wait := .none }

/-- A device in service whose agent has taken it. -/
def takenFreqSetAtLimit : State :=
  { State.reset with
    boot := { Boot.reset with por := false, handed := true, agent := 2 }
    hif := { Hif.reset with cmds := [freqSetAtLimit] } }

/-- The limit of TOD_INC, rounded inwards: 0.56 units of 2^-32 ns below the 5,371,393,474.56 that +500 ppm asks for. -/
theorem freqSetAtLimit_inc : (fcp 0x0603 0 todFreqSet takenFreqSetAtLimit).tsu.inc = 5371393474 := by decide +kernel

/-- Refutes O33: the statement wants TOD_FREQ_SET to set the nearest 2^-32 ns over the whole range of the command, both limits included.
In `takenFreqSetAtLimit` the nearest is 5,371,393,475, which lies beyond 500 ppm, and the model clamps TOD_INC to 5,371,393,474
(R234, with the limit rounded inwards: log entry 82). -/
theorem not_timeCommandsComplete : ¬ Obligations.TimeCommandsComplete := by
  unfold Obligations.TimeCommandsComplete
  rintro ⟨-, -, -, hfreq, -⟩
  obtain ⟨inc, hnearest, hanswer⟩ :=
    hfreq takenFreqSetAtLimit 0 32768000000 freqSetAtLimit ⟨rfl, rfl⟩ rfl rfl (by decide) (by decide) rfl
  have hinc : inc = 5371393474 := by
    have hend := congrArg (·.tsu.inc) (Host.Outcome.next.inj hanswer)
    simp only [finish_tsu] at hend
    exact hend.symm.trans freqSetAtLimit_inc
  rw [hinc] at hnearest
  exact absurd hnearest (by decide)

end Sys2Proof.Machine
end

section
/-! PROOF. The servo, PPS and the 10 MHz input (O35). -/
namespace Sys2Proof.Machine

/-! ### Samples (R239) -/

/-- The sample names a parent other than the servo's, outside FREERUN. -/
def parentDiffers (parent : Bytes) (t : Tsu) : Bool :=
  (t.source == 1 || t.source == 3) && parent != t.parent && t.servo != 0

/-- What the servo notes of a sample before it acts on it: its values, and a change of the master (Table 10-6). -/
def sampleNoted (offset pathDelay : Int) (parent : Bytes) (s : State) : State :=
  let differs := parentDiffers parent s.tsu
  let t := setTsu (fun t => { t with
    offset := offset, pathDelay := pathDelay, parent := if t.source == 1 || t.source == 3 then pad 10 parent else t.parent }) s
  let t := if differs then evF 0x6004 (pad 10 parent) t else t
  if differs && s.tsu.servo != 3 then
    setTsu (fun t => { t with masterCnt := t.masterCnt + 1, masterTod := some t.ns }) t
  else t

/-- The servo acquires afresh with this sample. -/
def acquiresAfresh (parent : Bytes) (t : Tsu) : Bool := t.servo == 0 || t.servo == 3 || parentDiffers parent t || t.fresh

/-- Samples in a row within LOCK_THRESHOLD, with this one (R239). -/
def inLockNext (offset : Int) (t : Tsu) : Nat := if offset.natAbs ≤ t.lockThr * 65536 then min 16 (t.inLock + 1) else 0

theorem inLockNext_full (offset : Int) (t : Tsu) :
    16 ≤ inLockNext offset t ↔ offset.natAbs ≤ t.lockThr * 65536 ∧ 15 ≤ t.inLock := by
  unfold inLockNext
  split <;> omega

@[simp] theorem servoTo_tsu (st : Nat) (s : State) : (servoTo st s).tsu =
    { s.tsu with servo := st, since := s.tsu.ns, limitFlag := false } := rfl

theorem servoFirst_tsu (offset : Int) (s : State) : (servoFirst offset s).tsu =
    if s.tsu.stepLimit * 65536 < offset.natAbs then (todStepBy (BitVec.ofInt 64 (-offset.tdiv 65536)) s).tsu
    else { s.tsu with slew := -(offset * 65536) } := by
  unfold servoFirst
  split <;> rfl

theorem servoCount_tsu (offset : Int) (s : State) : (servoCount offset s).tsu =
    if s.tsu.servo = 1 ∧ 16 ≤ inLockNext offset s.tsu then
      { s.tsu with inLock := inLockNext offset s.tsu, servo := 2, since := s.tsu.ns, limitFlag := false }
    else { s.tsu with inLock := inLockNext offset s.tsu } := by
  have hcount : (if offset.natAbs ≤ s.tsu.lockThr * 65536 then Nat.min 16 (s.tsu.inLock + 1) else 0) =
      inLockNext offset s.tsu := rfl
  simp only [servoCount, setTsu, Bool.and_eq_true, beq_iff_eq, decide_eq_true_eq, hcount]
  split
  · rw [evF_tsu]; rfl
  · rfl

/-- The firmware steers by a slew and a TOD_INC (log entry 34). -/
theorem servoSteer_tsu (s : State) : ∃ slew inc incNs incFrac, (servoSteer s).tsu = { s.tsu with
    slew := slew, inc := inc, incNs := incNs, incFrac := incFrac } := ⟨_, _, _, _, rfl⟩

section
variable {s : State} {parent : Bytes} (offset pathDelay : Int)

theorem sampleNoted_tsu : (sampleNoted offset pathDelay parent s).tsu = { s.tsu with
    offset := offset, pathDelay := pathDelay
    parent := if s.tsu.source == 1 || s.tsu.source == 3 then pad 10 parent else s.tsu.parent
    masterCnt := if parentDiffers parent s.tsu && s.tsu.servo != 3 then s.tsu.masterCnt + 1 else s.tsu.masterCnt
    masterTod := if parentDiffers parent s.tsu && s.tsu.servo != 3 then some s.tsu.ns else s.tsu.masterTod } := by
  unfold sampleNoted
  cases parentDiffers parent s.tsu <;> cases s.tsu.servo != 3 <;> simp [setTsu]

/-- Of the two sources, PTP alone tells parents apart, and not in FREERUN. -/
theorem parentDiffers_iff (hsource : s.tsu.source = 1 ∨ s.tsu.source = 2) : parentDiffers parent s.tsu = true ↔
    ¬ (s.tsu.source = 2 ∨ parent = s.tsu.parent) ∧ s.tsu.servo ≠ 0 := by
  rcases hsource with h | h <;> simp [parentDiffers, h]

/-- A change of the master is counted outside HOLDOVER (Table 10-6). -/
theorem masterChanges_iff (hsource : s.tsu.source = 1 ∨ s.tsu.source = 2) (hservo : s.tsu.servo ≤ 3) :
    (parentDiffers parent s.tsu && s.tsu.servo != 3) = true ↔
      ¬ (s.tsu.source = 2 ∨ parent = s.tsu.parent) ∧ (s.tsu.servo = 1 ∨ s.tsu.servo = 2) := by
  have hruns : s.tsu.servo ≠ 0 ∧ s.tsu.servo ≠ 3 ↔ s.tsu.servo = 1 ∨ s.tsu.servo = 2 := by omega
  rw [Bool.and_eq_true, parentDiffers_iff hsource, bne_iff_ne, and_assoc, hruns]

theorem acquiresAfresh_iff (hsource : s.tsu.source = 1 ∨ s.tsu.source = 2) :
    acquiresAfresh parent s.tsu = true ↔ s.tsu.servo = 0 ∨ s.tsu.servo = 3 ∨
    ¬ (s.tsu.source = 2 ∨ parent = s.tsu.parent) ∨ s.tsu.fresh = true := by
  have hdiffers := parentDiffers_iff (parent := parent) hsource
  simp only [acquiresAfresh, Bool.or_eq_true, beq_iff_eq, hdiffers, or_assoc]
  by_cases hidle : s.tsu.servo = 0
  · simp only [hidle, true_or]
  · simp only [hidle, ne_eq, not_false_eq_true, and_true, false_or]

variable (hfw : fwRuns s = true) (hext : s.tsu.external = false) (hsource : s.tsu.source = 1 ∨ s.tsu.source = 2)
include hfw hext hsource

theorem servoSample_taken : servoSample offset pathDelay parent s =
    if acquiresAfresh parent s.tsu then servoCount offset (setTsu (fun t => { t with inLock := 0, fresh := false })
      (servoFirst offset (servoTo 1 (sampleNoted offset pathDelay parent s))))
    else servoCount offset (servoSteer (sampleNoted offset pathDelay parent s)) := by
  have hgo : (!fwRuns s || s.tsu.external || s.tsu.source == 0 || (s.tsu.source == 3 && isLead s)) = false := by
    rcases hsource with h | h <;> simp [hfw, hext, h]
  exact if_neg (Bool.eq_false_iff.mp hgo)

/-- A first sample of an acquisition begins the count of samples in lock. -/
theorem servoSample_first (hfresh : acquiresAfresh parent s.tsu = true) :
    (servoSample offset pathDelay parent s).tsu =
      { (servoFirst offset (servoTo 1 (sampleNoted offset pathDelay parent s))).tsu with
        inLock := if offset.natAbs ≤ s.tsu.lockThr * 65536 then 1 else 0, fresh := false } := by
  have hthr : (servoFirst offset (servoTo 1 (sampleNoted offset pathDelay parent s))).tsu.lockThr = s.tsu.lockThr := by
    rw [servoFirst_tsu, todStepBy_tsu]
    split <;> exact congrArg (·.lockThr) (sampleNoted_tsu offset pathDelay)
  have hnext : inLockNext offset { (servoFirst offset (servoTo 1 (sampleNoted offset pathDelay parent s))).tsu with
      inLock := 0, fresh := false } = if offset.natAbs ≤ s.tsu.lockThr * 65536 then 1 else 0 := by
    rw [inLockNext, hthr]
    rfl
  have hfew : ¬ 16 ≤ (if offset.natAbs ≤ s.tsu.lockThr * 65536 then 1 else 0) := by split <;> decide
  rw [servoSample_taken offset pathDelay hfw hext hsource, if_pos hfresh, servoCount_tsu, setTsu_tsu, hnext,
    if_neg fun h => hfew h.2]

/-- A later sample steers, and is counted. -/
theorem servoSample_later (hfresh : acquiresAfresh parent s.tsu = false) :
    let t := (servoSample offset pathDelay parent s).tsu
    t.offset = offset ∧ t.inLock = inLockNext offset s.tsu ∧ t.ns = s.tsu.ns ∧
      t.servo = if s.tsu.servo = 1 ∧ 16 ≤ inLockNext offset s.tsu then 2 else s.tsu.servo := by
  obtain ⟨slew, inc, incNs, incFrac, hsteer⟩ := servoSteer_tsu (sampleNoted offset pathDelay parent s)
  have hgo := servoSample_taken offset pathDelay hfw hext hsource (parent := parent)
  rw [if_neg (Bool.eq_false_iff.mp hfresh)] at hgo
  have hcount := servoCount_tsu offset (servoSteer (sampleNoted offset pathDelay parent s))
  rw [hsteer, sampleNoted_tsu] at hcount
  change _ = if s.tsu.servo = 1 ∧ 16 ≤ inLockNext offset s.tsu then _ else _ at hcount
  rw [hgo, hcount]
  by_cases hlocks : s.tsu.servo = 1 ∧ 16 ≤ inLockNext offset s.tsu
  · rw [if_pos hlocks, if_pos hlocks]
    exact ⟨rfl, rfl, rfl, rfl⟩
  · rw [if_neg hlocks, if_neg hlocks]
    exact ⟨rfl, rfl, rfl, rfl⟩

end

/-! ### Lost sources and HOLDOVER (R240, Table 10-2) -/

theorem servoLost_eq (cause : Nat) (s : State) : servoLost cause s =
    if s.tsu.masterTod ≠ some s.tsu.ns ∧ s.tsu.external = false ∧ (s.tsu.servo = 1 ∨ s.tsu.servo = 2) then
      evF 0x6003 (le 1 s.tsu.source ++ le 1 cause) (setTsu (fun t => { t with servo := 3, since := t.ns, limitFlag := false }) s)
    else s := by
  have hgoes : (s.tsu.external || !(s.tsu.servo == 1 || s.tsu.servo == 2) || s.tsu.masterTod == some s.tsu.ns) = false ↔
      s.tsu.masterTod ≠ some s.tsu.ns ∧ s.tsu.external = false ∧ (s.tsu.servo = 1 ∨ s.tsu.servo = 2) := by
    rw [and_comm (a := s.tsu.masterTod ≠ some s.tsu.ns)]
    simp only [Bool.or_eq_false_iff, Bool.not_eq_false', Bool.or_eq_true, beq_iff_eq, beq_eq_false_iff_ne]
  by_cases hlost : s.tsu.masterTod ≠ some s.tsu.ns ∧ s.tsu.external = false ∧ (s.tsu.servo = 1 ∨ s.tsu.servo = 2)
  · rw [servoLost, hgoes.mpr hlost, if_neg Bool.false_ne_true, if_pos hlost]
    rfl
  · rw [servoLost, if_pos (eq_true_of_ne_false (mt hgoes.mp hlost)), if_neg hlost]

/-- The causes of R240 and R269, each with its source. -/
theorem sourceLost_of_cause {s : State} {cause : Nat}
    (h : cause = 0 ∧ s.tsu.source = 1 ∧ masterSilent 11 Config.announceReceiptTimeout s = true ∨
      cause = 1 ∧ s.tsu.source = 1 ∧ masterSilent 0 3 s = true ∨ cause = 2 ∧ s.tsu.source = 2 ∧ s.tsu.ppsOk = false ∨
      cause = 3 ∧ s.tsu.source = 3 ∧ reached s.tsu.ns (s.pack.syncAccepted + 46875000) = true) : sourceLost cause s = true := by
  rcases h with ⟨rfl, hs, h⟩ | ⟨rfl, hs, h⟩ | ⟨rfl, hs, h⟩ | ⟨rfl, hs, h⟩ <;>
    simpa [sourceLost, hs] using h

/-! ### PPS_IN (R252) -/

/-- A record for firmware is taken or lost; TOD and what it drives stay. -/
theorem tsPush_tsu (r : TsRec) (s : State) : ∃ fifo lost full, (tsPush r s).tsu =
    { s.tsu with fifo := fifo, fifoLost := lost, overflow := full } := by
  unfold tsPush
  split
  · exact ⟨_, _, _, rfl⟩
  · dsimp only
    split
    · exact ⟨_, _, _, rfl⟩
    · exact ⟨_, _, _, evH_tsu _ _ _⟩

/-- The armed change, applied (R237). -/
def armedApplied (a : Armed) (s : State) : State :=
  let t := setTsu (fun t => { t with armed := none }) s
  if a.load then todLoadTo a.value a.frac t else todStepBy a.value t

theorem armedApplied_tsu (a : Armed) (s : State) : (armedApplied a s).tsu = { s.tsu with
    ns := if a.load then a.value else s.tsu.ns + a.value, frac := if a.load then a.frac else s.tsu.frac
    armed := none, slew := 0, stepped := true, timeSet := true, stepCnt := s.tsu.stepCnt + 1
    ppsFrom := s.tsu.ppsFrom + if a.load then a.value - s.tsu.ns else a.value } := by
  unfold armedApplied
  cases a.load with
  | true => rw [if_pos rfl, todLoadTo_tsu]; rfl
  | false => rw [if_neg Bool.false_ne_true, todStepBy_tsu]; rfl

/-- The TOD of a capture at a phase from now, less the delay of PPS_IN (R252). -/
def ppsCaptured (phase : Nat) (s : State) : W64 × W32 := timeOf (todNow s + phase - psUnits s.tsu.ppsDelay)

/-- The spacing from the last capture of a time-sync unit is that of a good input (R252). -/
def ppsSpacedFrom (t : Tsu) (cap : W64 × W32) : Bool :=
  t.ppsInLast.any fun l => decide (((cap.1 - l - 1000000000).toInt * 4294967296 +
    ((cap.2.toNat : Int) - t.ppsInFrac.toNat)).natAbs ≤ 4294967296000)

/-- The time-sync unit once a capture has been noted, before its record enters the FIFO. -/
def ppsNoted (good : Bool) (cap : W64 × W32) (t : Tsu) : Tsu :=
  { t with ppsEdge := true, ppsInLast := some cap.1, ppsInFrac := cap.2, ppsOk := t.ppsOk || good }

/-- What of an edge follows its phase: what is armed is applied, and the edge is captured. -/
def ppsCapture (good : Bool) (phase : Nat) (s : State) : State :=
  tsPush (.pps (ppsCaptured phase s).1 (ppsCaptured phase s).2) (setTsu (ppsNoted good (ppsCaptured phase s)) s)

/-- An edge of the other polarity is none. -/
theorem ppsInEdge_other (s : State) : ppsInEdge (!s.tsu.ppsFalling) s = s := by
  cases h : s.tsu.ppsFalling <;> simp [ppsInEdge, h]

section
variable {s : State} (hlive : live s = true)
include hlive

theorem ppsInEdge_unarmed (h : s.tsu.armed = none) : ppsInEdge s.tsu.ppsFalling s =
    ppsCapture (ppsSpacedFrom s.tsu (ppsCaptured (capturePhase s).1 s)) (capturePhase s).1 (capturePhase s).2 := by
  have hgo : (!live s || s.tsu.ppsFalling != s.tsu.ppsFalling) = false := by simp [hlive]
  have hph : (capturePhase s).2.tsu = s.tsu := rfl
  unfold ppsInEdge ppsSpacedFrom
  rw [hgo, if_neg Bool.false_ne_true]
  dsimp only
  rw [hph, h]
  cases s.tsu.ppsInLast <;> rfl

/-- What is armed is applied before the edge is captured, and the TOD_SET that waited for it completes (R252, Table 10-6). -/
theorem ppsInEdge_armed {a : Armed} (h : s.tsu.armed = some a) : ppsInEdge s.tsu.ppsFalling s =
    ppsCapture (ppsSpacedFrom s.tsu (ppsCaptured (capturePhase s).1 s)) (capturePhase s).1
      (wake (· == Wait.pps) (fun _ t => ok t) (armedApplied a (capturePhase s).2)) := by
  have hgo : (!live s || s.tsu.ppsFalling != s.tsu.ppsFalling) = false := by simp [hlive]
  have hph : (capturePhase s).2.tsu = s.tsu := rfl
  unfold ppsInEdge ppsSpacedFrom
  rw [hgo, if_neg Bool.false_ne_true]
  dsimp only
  rw [hph, h]
  cases s.tsu.ppsInLast <;> rfl

end
/-- The capture of an edge keeps what the applied change has made of TOD (Table 10-6). -/
theorem ppsCapture_tsu (good : Bool) (phase : Nat) (s : State) : ∃ fifo lost full, (ppsCapture good phase s).tsu =
    { ppsNoted good (ppsCaptured phase s) s.tsu with fifo := fifo, fifoLost := lost, overflow := full } :=
  tsPush_tsu _ _

/-- 1.5 s without an edge, where PPS_IN is not the servo's source (R252). -/
theorem ppsInLost_reached {s : State} {l : W64} (hlive : live s = true) (hok : s.tsu.ppsOk = true) (hlast : s.tsu.ppsInLast = some l)
    (hreached : reached s.tsu.ns (l + 1500000000) = true) (hsource : s.tsu.source ≠ 2) :
    ppsInLost s = evH 0x6006 (le64 l) { s with tsu := { s.tsu with ppsOk := false } } := by
  have hgo : (live s && s.tsu.ppsOk && reached s.tsu.ns (l + 1500000000)) = true := by rw [hlive, hok, hreached]; rfl
  have hstays : (s.tsu.source == 2) = false := beq_false_of_ne hsource
  unfold ppsInLost
  split
  · rename_i hnone
    rw [hlast] at hnone
    exact nomatch hnone
  · rename_i m hm
    obtain rfl : l = m := Option.some.inj (hlast.symm.trans hm)
    rw [if_pos hgo]
    simp only [evH_tsu, setTsu_tsu, hstays, Bool.false_and, Bool.false_eq_true, if_false]
    rfl

/-! ### PPS_OUT (R251) -/

/-- TOD reaches an instant of PPS_OUT by running where that lies within what has passed (R251, log entry 144). -/
theorem ppsDue_timePasses (n : Nat) {s : State} (hlive : live s = true) : (timePasses n s).tsu.ppsDue =
    if s.tsu.ppsOut = true ∧ timeGap (todNow (timePasses n s)) (timeNum (ppsInstant (timePasses n s).tsu) 0) < todPassed n s.tsu
    then some (ppsInstant (timePasses n s).tsu) else none := by
  have hgo : ∀ (b : Bool) (p : Prop) [Decidable p], (b && decide p) = true ↔ b = true ∧ p := by simp
  rw [todNow, timePasses_tsu n hlive]
  simp only [tsuAfter, ppsReached, hgo]
  rfl

/-- The instant's nanoseconds within its second are the offset, from the first second on. -/
theorem ppsInstant_second {t : Tsu} (h0 : 0 ≤ t.ppsOffset) (hlt : t.ppsOffset < 1000000000) (hns : t.ppsOffset ≤ t.ns.toNat) :
    ((ppsInstant t).toNat % 1000000000 : Int) = t.ppsOffset := by
  have hbound := t.ns.isLt
  rw [ppsInstant]
  generalize hback : (((t.ns.toNat : Int) - t.ppsOffset) % 1000000000).toNat = back
  have hinstant : (t.ns - BitVec.ofNat 64 back).toNat = t.ns.toNat - back := by
    rw [BitVec.toNat_sub_of_le] <;> simp only [BitVec.le_def, BitVec.toNat_ofNat] <;> omega
  rw [hinstant]
  omega

/-! ### The 10 MHz input (R253) -/

/-- The edges counted over 1 ms are those of a good input. -/
def CountOk (n : Nat) : Prop := 9990 ≤ n ∧ n ≤ 10010

/-- The last `k` counts are there, and each is good. -/
def GoodTail (k : Nat) (counts : List Nat) : Prop :=
  k ≤ counts.length ∧ ∀ n ∈ counts.drop (counts.length - k), CountOk n

theorem goodTail_zero (counts : List Nat) : GoodTail 0 counts := ⟨Nat.zero_le _, by simp⟩

theorem goodTail_nil (k : Nat) : GoodTail k [] ↔ k = 0 := by simp [GoodTail]

theorem goodTail_concat (k : Nat) (counts : List Nat) (n : Nat) :
    GoodTail (k + 1) (counts ++ [n]) ↔ GoodTail k counts ∧ CountOk n := by
  have hdrop : (counts ++ [n]).drop ((counts ++ [n]).length - (k + 1)) = counts.drop (counts.length - k) ++ [n] := by
    rw [List.length_append, List.length_singleton, Nat.add_sub_add_right, List.drop_append_of_le_length (Nat.sub_le _ _)]
  rw [GoodTail, hdrop, GoodTail, List.length_append, List.length_singleton, Nat.add_le_add_iff_right]
  simp only [List.mem_append, List.mem_singleton, or_imp, forall_and, forall_eq, and_assoc]

section
variable {s : State} {n : Nat} (hlive : live s = true)
include hlive

theorem ref10mWindow_good (h : CountOk n) : ref10mWindow n s = { s with tsu := { s.tsu with
    refGood := min 16 (s.tsu.refGood + 1), ref10m := s.tsu.ref10m || decide (15 ≤ s.tsu.refGood) } } := by
  simp only [ref10mWindow, hlive, h.1, h.2]
  rfl

theorem ref10mWindow_bad (h : ¬ CountOk n) : live (ref10mWindow n s) = true ∧
    (ref10mWindow n s).tsu = { s.tsu with refGood := 0, ref10m := false } := by
  have hbad : (decide (9990 ≤ n) && decide (n ≤ 10010)) = false := by
    simpa only [CountOk, Bool.and_eq_false_iff, decide_eq_false_iff_not, Decidable.not_and_iff_or_not] using h
  simp only [ref10mWindow, hlive, hbad, Bool.not_true, Bool.false_eq_true, if_false]
  split
  · exact ⟨by rw [evH_frame]; exact hlive, evH_tsu _ _ _⟩
  · exact ⟨hlive, rfl⟩

end

/-- What the windows of a list of counts leave: the good counts at its end, up to 16, and REF10M_OK with the 16th. -/
structure RefFollows (counts : List Nat) (s : State) : Prop where
  live : live s = true
  most : s.tsu.refGood ≤ 16
  good : ∀ k, k ≤ 16 → (k ≤ s.tsu.refGood ↔ GoodTail k counts)
  ok : s.tsu.ref10m = true ↔ 16 ≤ s.tsu.refGood

theorem RefFollows.concat {counts : List Nat} {s : State} (h : RefFollows counts s) (n : Nat) :
    RefFollows (counts ++ [n]) (ref10mWindow n s) := by
  by_cases hn : CountOk n
  · rw [ref10mWindow_good h.live hn]
    refine ⟨h.live, Nat.min_le_left _ _, fun k hk => ?_, ?_⟩
    · cases k with
      | zero => exact ⟨fun _ => goodTail_zero _, fun _ => Nat.zero_le _⟩
      | succ k =>
        rw [goodTail_concat, ← h.good k (Nat.le_of_succ_le hk), and_iff_left hn]
        dsimp only
        omega
    · have hok := h.ok
      simp only [Bool.or_eq_true, decide_eq_true_eq, hok]
      omega
  · obtain ⟨hlive, htsu⟩ := ref10mWindow_bad h.live hn
    refine ⟨hlive, by rw [htsu]; exact Nat.zero_le _, fun k hk => ?_, by rw [htsu]; simp⟩
    rw [htsu]
    cases k with
    | zero => exact ⟨fun _ => goodTail_zero _, fun _ => Nat.le_refl _⟩
    | succ k => simp [goodTail_concat, hn]

theorem RefFollows.windows {seen : List Nat} {s : State} (h : RefFollows seen s) (counts : List Nat) :
    RefFollows (seen ++ counts) (counts.foldl (fun t n => ref10mWindow n t) s) := by
  induction counts generalizing seen s with
  | nil =>
    rw [List.append_nil]
    exact h
  | cons n counts ih =>
    rw [List.append_cons, List.foldl_cons]
    exact ih (h.concat n)

/-- Before the first window there is no good count. -/
theorem refFollows_nil {s : State} (hlive : live s = true) (hgood : s.tsu.refGood = 0) (hoff : s.tsu.ref10m = false) :
    RefFollows [] s where
  live := hlive
  most := by rw [hgood]; exact Nat.zero_le _
  good k _ := by rw [hgood, goodTail_nil, Nat.le_zero]
  ok := by rw [hgood, hoff]; decide

/-! ### The statement -/

/-- Settles O35: a sample acts on the time-sync unit by what its lemmas say, an edge of PPS_IN is captured behind the change it
applies, PPS_OUT's instant is the one that the cycle has passed, and the good counts of 10 MHz are counted by induction. -/
theorem servoAndPpsFollow : Obligations.ServoAndPpsFollow := by
  unfold Obligations.ServoAndPpsFollow
  refine ⟨?samples, ?lost, ?limit, fun s hlive => ⟨?other, ?capture, ?armed⟩, ?ppsLost, ?timeout,
    fun s hlive => ⟨?due, ?rises, ?idle, ?falls, ?instant⟩, ?ref10m⟩
  case samples =>
    intro s off pd parent hfw hext hsource same inside
    refine ⟨fun hfresh hservo => ⟨servoSample off pd parent s, rfl, ?_⟩, fun hrunning hsame hfresh =>
      ⟨servoSample off pd parent s, rfl, ?_⟩⟩
    · have hsample := servoSample_first off pd hfw hext hsource ((acquiresAfresh_iff hsource).mpr hfresh)
      rw [servoFirst_tsu, todStepBy_tsu, servoTo_tsu, sampleNoted_tsu] at hsample
      simp only [masterChanges_iff hsource hservo] at hsample
      by_cases hbeyond : s.tsu.stepLimit * 65536 < off.natAbs
      · rw [if_pos hbeyond] at hsample
        rw [if_pos hbeyond, hsample]
        refine ⟨rfl, rfl, rfl, rfl, ⟨?_, rfl⟩, rfl, rfl, rfl⟩
        rw [BitVec.ofInt_neg, ← BitVec.sub_eq_add_neg]
      · rw [if_neg hbeyond] at hsample
        rw [if_neg hbeyond, hsample]
        exact ⟨rfl, rfl, rfl, rfl, ⟨rfl, rfl⟩, rfl, rfl, rfl⟩
    · have hkeeps : acquiresAfresh parent s.tsu = false := by
        rw [Bool.eq_false_iff, ne_eq, acquiresAfresh_iff hsource, hfresh]
        have hservo : s.tsu.servo ≠ 0 ∧ s.tsu.servo ≠ 3 := by omega
        simp [hservo, show s.tsu.source = 2 ∨ parent = s.tsu.parent from hsame]
      obtain ⟨hoffset, hlock, hns, hservo⟩ := servoSample_later off pd hfw hext hsource hkeeps
      refine ⟨hoffset, hlock, hns, hservo.trans ?_⟩
      rcases hrunning with h | h
      · simp only [inLockNext_full, h, true_and, inside]
      · simp only [h, ite_self]
  case lost =>
    intro s cause hfw hcause
    have hgo : (fwRuns s && sourceLost cause s) = true := by rw [hfw, sourceLost_of_cause hcause]; rfl
    exact congrArg Host.Outcome.next ((if_pos hgo).trans (servoLost_eq cause s))
  case limit =>
    intro s hfw hext hservo hflag hreached
    exact congrArg Host.Outcome.next (if_pos (by simp [hfw, hext, hservo, hflag, hreached]))
  case other => exact congrArg Host.Outcome.next (ppsInEdge_other s)
  case capture =>
    intro harmed hroom ph cap
    refine congrArg Host.Outcome.next ((ppsInEdge_unarmed hlive harmed).trans ?_)
    exact if_pos hroom
  case armed =>
    intro a harmed _
    have happlied := (wake_ok_tsu (· == Wait.pps) (armedApplied a (capturePhase s).2)).trans (armedApplied_tsu a _)
    refine ⟨_, congrArg Host.Outcome.next (ppsInEdge_armed hlive harmed), ?_⟩
    generalize wake (· == Wait.pps) (fun _ t => ok t) (armedApplied a (capturePhase s).2) = w at happlied ⊢
    generalize ppsSpacedFrom s.tsu (ppsCaptured (capturePhase s).1 s) = good
    obtain ⟨fifo, lost, full, hcap⟩ := ppsCapture_tsu good (capturePhase s).1 w
    rw [todNow, hcap, ppsNoted, ppsCaptured, todNow, happlied]
    exact ⟨rfl, rfl, rfl, rfl, rfl, rfl⟩
  case ppsLost =>
    intro s l hlive hok hlast hreached hsource
    exact congrArg Host.Outcome.next (ppsInLost_reached hlive hok hlast hreached hsource)
  case timeout =>
    intro s a c hlive harmed hcommand hreached hcmds hwait
    have hgo : (live s && a.command && reached s.tsu.ns a.deadline) = true := by rw [hlive, hcommand, hreached]; rfl
    refine congrArg Host.Outcome.next ?_
    simp only [todSetPpsTimeout, harmed, hgo, if_true]
    exact wake_one _ hcmds (by rw [hwait]; rfl)
  case due =>
    intro hidle hslew
    have hdue := ppsDue_timePasses 1 hlive
    rw [todPassed_of_slew_zero 1 hslew, Nat.one_mul] at hdue
    exact ⟨timePasses 1 s, step_idle hidle, hdue⟩
  case rises =>
    intro w hdue hout
    exact congrArg Host.Outcome.next (by simp [ppsOutEdge, hdue, hout, hlive, setTsu])
  case idle =>
    intro hdue
    exact congrArg Host.Outcome.next (by simp [ppsOutEdge, hdue])
  case falls =>
    intro hhigh hreached
    exact congrArg Host.Outcome.next (if_pos (by rw [hlive, hhigh, hreached]; rfl))
  case instant => exact fun h0 hmax hns => ppsInstant_second h0 (by omega) hns
  case ref10m =>
    intro s counts hlive hgood hoff run
    have hrun : run = some (counts.foldl (fun t n => ref10mWindow n t) s) := List.foldl_hom some fun _ _ => rfl
    have hfollows : RefFollows counts _ := (refFollows_nil hlive hgood hoff).windows counts
    exact ⟨_, hrun, hfollows.ok.trans (hfollows.good 16 (Nat.le_refl _))⟩

end Sys2Proof.Machine
end
